-- ==== Sys2Proof/Word.lean ====
section
/-! DEFINITION. The words of the CW-420: the bytes of the message link (10 R169) and the codes of the
12-bit converter (02 R23). Quantities (mV, mA, permille, frames) are Nat and Int: the part's arithmetic
is integer arithmetic with the product taken in full (00 section 0.6.2). -/

namespace Sys2Proof

/-- A byte on RX or TX (10 R169). -/
abbrev Byte := BitVec 8

/-- A code of the 12-bit converter, 0..4095 (02 section 2.3). -/
abbrev Code := BitVec 12

/-- A light channel, 0..9 (00 section 0.6.3). -/
abbrev Chan := Fin 10

/-- A unit: 0 the winch, 1..10 the light channels 0..9 (00 section 0.6.3). -/
abbrev UnitNo := Fin 11

/-- A slot of the program store, 0..127 (06 section 6.1). -/
abbrev Slot := Fin 128

end Sys2Proof
end

