-- ==== Sys2Proof/Config.lean ====
section
/-! DEFINITION. What the spec fixes for the part (its capacities and its identity, 10 R174, 11 section
11.3) and the FREE VALUES: what the spec leaves open, as constants without a body, so that no proof can
see what they are. -/

namespace Sys2Proof

/-- An order in which three things happen at one event, the first letter first. -/
inductive Order3 where
  | abc | acb | bac | bca | cab | cba
deriving DecidableEq, Repr, Inhabited

/-- On which side of another field of a reply a field stands. -/
inductive Side where
  | before | after
deriving DecidableEq, Repr, Inhabited

namespace Config

/-- FREE VALUE (logs 9, 10, 11). The n-th choice of an order where the spec lets several blocks act at
one event and fixes no order among them: at a scan completion (02 R32), at a light frame (08 8), for the
lines accepted at one frame (07 R137, 09 R167), for comparators asserted at a reset (01 R17). -/
opaque order : Nat → Order3

/-- FREE VALUE (log 15). The KIND byte of the reply to a request whose KIND is 0x80 or above: "the request
KIND plus 0x80" (10 R173) does not fit the byte and the spec states no value. -/
opaque unknownReplyKind : Byte → Byte

/-- FREE VALUE (log 33). The two bytes in which an axle's applied duty below 0 is sent: 11 R179 calls the
field unsigned, and the spec does not say what an unsigned field holds for a negative duty. -/
opaque negativeDuty : Int → BitVec 16

/-- FREE VALUE (log 37). Whether a light frame is due at the moment of the n-th HALT of a light unit: the
residual of 08 R150 depends on it, and how much of the frame's time has run is not held in the state
(log 1). -/
opaque frameDue : Nat → Bool

/-- FREE VALUE (log 44). On which side of the progress block a BUSY reply of the winch unit carries P, by the
request's KIND: 07 R143 has it report P, and 11 section 11.3 gives P no place in the replies of START and PROBE. -/
opaque busySide : Byte → Side

/-- FREE VALUE (log 41). On which side of an axle's derate flag a DRIVE reply carries its duty cap: 04 R75 has it
report both, and 11 section 11.3 gives the cap no place. -/
opaque capSide : Side

/-- The part code (11 section 11.3). -/
def partCode : Nat := 0x0420

/-- The silicon revision (11 section 11.3). -/
def revision : Nat := 0x01

/-- The notice queue's capacity (09 R160). -/
def noticeCapacity : Nat := 8

/-- The largest walk of a light unit (06 R109). -/
def lightWalkMax : Nat := 32

/-- The largest walk of the winch unit (06 R109). -/
def winchWalkMax : Nat := 16

/-- The largest payload of a frame (10 R169). -/
def payloadMax : Nat := 64

end Config

end Sys2Proof
end

