-- ==== Sys2Proof/Syntax.lean ====
section
/-! DEFINITION. The commands of the CW-420: one constructor of `Instr` for each row of
spec/opcode_table.json. A request command is the arrival of a good frame of its kind (10 R172, R173) and
carries that frame's TAG and payload, so that a payload of a wrong length or with a field out of range is
a command too. -/

namespace Sys2Proof

/-- The three bridges (00 section 0.6.3). -/
inductive Bridge where
  | front | rear | winch
deriving DecidableEq, Repr

/-- What arrives on RX: a byte, or a byte whose stop bit was read low (10 R171). -/
inductive RxByte where
  | good (b : Byte)
  | framingError
deriving DecidableEq, Repr

/-- The level of an auxiliary input line (09 section 9.4.1). LOW is the active level. -/
inductive Level where
  | high | low
deriving DecidableEq, Repr

/-- The levels at AUX0..AUX3 as a light frame finds them (09 R167). -/
structure PinLevels where
  aux0 : Level
  aux1 : Level
  aux2 : Level
  aux3 : Level
deriving DecidableEq, Repr

/-- The commands, one for each row of the opcode table, in the table's order. -/
inductive Instr where
  /-- FULL_RESET (R1). -/
  | fullReset
  /-- SOFT_RESET (R176). -/
  | softReset
  /-- IDENTIFY (R174). -/
  | identify (tag : Byte) (payload : List Byte)
  /-- STATUS (R175). -/
  | status (tag : Byte) (payload : List Byte)
  /-- RESET (R176). -/
  | reset (tag : Byte) (payload : List Byte)
  /-- GET (R177). -/
  | get (tag : Byte) (payload : List Byte)
  /-- SET (R178). -/
  | set (tag : Byte) (payload : List Byte)
  /-- ARM (R3). -/
  | arm (tag : Byte) (payload : List Byte)
  /-- PARK (R6). -/
  | park (tag : Byte) (payload : List Byte)
  /-- DRIVE (R69). -/
  | drive (tag : Byte) (payload : List Byte)
  /-- STEER_MODE (R94). -/
  | steerMode (tag : Byte) (payload : List Byte)
  /-- SET_LIGHT (R148). -/
  | setLight (tag : Byte) (payload : List Byte)
  /-- STORE_STEPS (R105). -/
  | storeSteps (tag : Byte) (payload : List Byte)
  /-- READ_STEPS (R107). -/
  | readSteps (tag : Byte) (payload : List Byte)
  /-- START (R113). -/
  | start (tag : Byte) (payload : List Byte)
  /-- PROBE (R115). -/
  | probe (tag : Byte) (payload : List Byte)
  /-- HALT (R116). -/
  | halt (tag : Byte) (payload : List Byte)
  /-- LINE_SET (R131). -/
  | lineSet (tag : Byte) (payload : List Byte)
  /-- ASSIGN_LINE (R166). -/
  | assignLine (tag : Byte) (payload : List Byte)
  /-- FETCH_NOTICE (R162). -/
  | fetchNotice (tag : Byte) (payload : List Byte)
  /-- UNKNOWN_KIND_REQUEST (R173): a good frame whose KIND is not a request kind. -/
  | unknownKindRequest (kind : Byte) (tag : Byte) (payload : List Byte)
  /-- FRAME_HELD (R172): a good frame completed while a request is in hand. -/
  | frameHeld (kind : Byte) (tag : Byte) (payload : List Byte)
  /-- FRAME_DISCARD (R171): what arrives on RX and discards the frame in assembly. -/
  | frameDiscard (rx : RxByte)
  /-- BYTE_GAP_EXPIRY (R171). -/
  | byteGapExpiry
  /-- REPLY_SENT (R172): the last byte of a reply leaves TX. -/
  | replySent
  /-- CONVERSION_END (R23): the code that the conversion gave. -/
  | conversionEnd (code : Code)
  /-- BRIDGE_TRIGGER_ARRIVAL (R26): the bridge whose trigger arrives. -/
  | bridgeTriggerArrival (bridge : Bridge)
  /-- WATCH_INTERVAL_EXPIRY (R35). -/
  | watchIntervalExpiry
  /-- SHORT_COMPARATOR_ASSERT (R17): the bridge whose comparator asserts. -/
  | shortComparatorAssert (bridge : Bridge)
  /-- SHORT_COMPARATOR_DEASSERT (R17). -/
  | shortComparatorDeassert (bridge : Bridge)
  /-- HOLD_EXPIRY (R9). -/
  | holdExpiry
  /-- GRACE_EXPIRY (R14). -/
  | graceExpiry
  /-- DRIVE_FRAME_EXPIRY (R73). -/
  | driveFrameExpiry
  /-- SERVO_FRAME_EXPIRY (R93). -/
  | servoFrameExpiry
  /-- RELAX_TIMER_EXPIRY (R97). -/
  | relaxTimerExpiry
  /-- CLUTCH_TRAVEL_EXPIRY (R127). -/
  | clutchTravelExpiry
  /-- LIGHT_FRAME_EXPIRY (R146): the levels that the Line Matrix samples at it (R167). -/
  | lightFrameExpiry (pins : PinLevels)
  /-- STALL_TIMER_EXPIRY (R138). -/
  | stallTimerExpiry
  /-- BYTE_RECEIVED (R171). -/
  | byteReceived (byte : Byte)
deriving DecidableEq, Repr

end Sys2Proof
end

