-- ==== Sys2Proof/WellFormed.lean ====
section
/-! DEFINITION. Which commands the link can bring: a frame's payload has at most 64 bytes (10 R169), and
UNKNOWN_KIND_REQUEST names a KIND that is not a request kind (10 R173). A meaning is defined for every
command, well-formed or not. -/

namespace Sys2Proof

/-- The request kind codes of 11 section 11.3. -/
def requestKindCodes : List Byte :=
  [0x01, 0x02, 0x03, 0x04, 0x05, 0x10, 0x11, 0x12, 0x13, 0x14,
   0x20, 0x21, 0x22, 0x23, 0x24, 0x25, 0x26, 0x30]

/-- The payload of a command that is a frame; empty for every other command. -/
def Instr.payload : Instr → List Byte
  | .fullReset => []
  | .softReset => []
  | .identify _ p => p
  | .status _ p => p
  | .reset _ p => p
  | .get _ p => p
  | .set _ p => p
  | .arm _ p => p
  | .park _ p => p
  | .drive _ p => p
  | .steerMode _ p => p
  | .setLight _ p => p
  | .storeSteps _ p => p
  | .readSteps _ p => p
  | .start _ p => p
  | .probe _ p => p
  | .halt _ p => p
  | .lineSet _ p => p
  | .assignLine _ p => p
  | .fetchNotice _ p => p
  | .unknownKindRequest _ _ p => p
  | .frameHeld _ _ p => p
  | .frameDiscard _ => []
  | .byteGapExpiry => []
  | .replySent => []
  | .conversionEnd _ => []
  | .bridgeTriggerArrival _ => []
  | .watchIntervalExpiry => []
  | .shortComparatorAssert _ => []
  | .shortComparatorDeassert _ => []
  | .holdExpiry => []
  | .graceExpiry => []
  | .driveFrameExpiry => []
  | .servoFrameExpiry => []
  | .relaxTimerExpiry => []
  | .clutchTravelExpiry => []
  | .lightFrameExpiry _ => []
  | .stallTimerExpiry => []
  | .byteReceived _ => []

/-- The KIND that an UNKNOWN_KIND_REQUEST names; none for every other command. -/
def Instr.unknownKind : Instr → Option Byte
  | .unknownKindRequest k _ _ => some k
  | _ => none

/-- Check 1: the payload fits a frame (10 R169, LEN is at most 66). -/
def Instr.payloadFits (i : Instr) : Bool := decide (i.payload.length ≤ Config.payloadMax)

/-- Check 2: an UNKNOWN_KIND_REQUEST does not name a request kind (10 R173). -/
def Instr.kindIsUnknown (i : Instr) : Bool :=
  match i.unknownKind with
  | some k => !requestKindCodes.contains k
  | none => true

/-- A command that the link and the part's own events can bring. -/
def Instr.wellFormed (i : Instr) : Bool := i.payloadFits && i.kindIsUnknown

end Sys2Proof
end

