-- ==== Sys2Proof/Decode.lean ====
section
/-! DEFINITION. The decoder over the rows of spec/opcode_table.json that give bits. No row of the table
gives any (every "fields" is empty and none has "fixed"): commands are events and frames of the message
link, so no word spells one (log 4). Frames are read from their bytes by the parser of
Machine/Link.lean. -/

namespace Sys2Proof

/-- The command that a word of the table spells: none, since no row gives bits (log 4). -/
def decodeTableWord (_nbits _w : Nat) : Option Instr := none

end Sys2Proof
end

