-- ==== Sys2Proof/Machine/Types.lean ====
section
/-! DEFINITION. The kinds of value that the state holds: the enumerations of 11 section 11.4, in the
order in which they are coded there, and one record for each block (00 section 0.3). A timer is stopped
(`none`) or running with the length it was started with (log 1). -/

namespace Sys2Proof.Machine

/-! ## Values per axle, bridge and sensor -/

/-- The two axles (00 section 0.6.3). -/
inductive Axle where
  | front | rear
deriving DecidableEq, Repr

/-- The four temperature sensors, in slot order (11 section 11.4). -/
inductive Sensor where
  | board | front | rear | winch
deriving DecidableEq, Repr

/-- One value for each axle. -/
structure PerAxle (α : Type) where
  front : α
  rear : α
deriving DecidableEq, Repr

/-- One value for each bridge. -/
structure PerBridge (α : Type) where
  front : α
  rear : α
  winch : α
deriving DecidableEq, Repr

/-- One value for each temperature sensor. -/
structure PerSensor (α : Type) where
  board : α
  front : α
  rear : α
  winch : α
deriving DecidableEq, Repr

/-- A timer: stopped, or running with the length it was started with (log 1). -/
abbrev Timer := Option Nat

/-! ## Vehicle State Controller (01) -/

/-- The operating states (01 section 1.1). -/
inductive OpState where
  | parked | armed | failsafe | shuttingDown | tripped
deriving DecidableEq, Repr

/-- The causes of a change of operating state (R2). -/
inductive OpCause where
  | reset | arm | linkLost | linkRestored | park | cutoff
  | shutdownComplete | shutdownForced | trip | tripCleared
deriving DecidableEq, Repr

/-- The trip causes (01 section 1.7.1). -/
inductive TripCause where
  | short (bridge : Bridge)
  | overtemp (sensor : Sensor)
  | packOvercurrent
deriving DecidableEq, Repr

/-- A set of trip causes: one flag for each of the eight (01 section 1.7.1). -/
structure CauseSet where
  short : PerBridge Bool
  overtemp : PerSensor Bool
  packOvercurrent : Bool
deriving DecidableEq, Repr

/-- Why the current shutdown began (R12). -/
inductive Origin where
  | none | shutdown | failsafe | cutoff
deriving DecidableEq, Repr

/-- The record of VSC (01 section 1.1.1). -/
structure Vsc where
  op : OpState
  causes : CauseSet
  firstCause : Option TripCause
  comparator : PerBridge Bool
  hold : Timer
  expiryCount : Nat
  origin : Origin
  grace : Timer
  latch : Bool
  measured : Bool
deriving DecidableEq, Repr

/-! ## Scanner (02) -/

/-- The scan modes and the kinds of scan (R23). -/
inductive ScanMode where
  | continuous | watch
deriving DecidableEq, Repr

/-- A scan in progress (R23): its kind, the slot being converted or waited for (slot k of the scan list is
index k - 1) and the codes converted so far. -/
structure Scan where
  kind : ScanMode
  slot : Fin 12
  codes : Vector (Option Code) 12
deriving DecidableEq, Repr

/-- The published results (02 section 2.4.1); `kind` is none before the first completion after a reset. -/
structure ScanResults where
  kind : Option ScanMode
  taps : Vector Nat 4
  raw : Vector Nat 4
  filtered : Vector Nat 4
  minRaw : Nat
  minFiltered : Nat
  pack : Nat
  bridge : PerBridge Nat
  temp : PerSensor Int
  hottest : Int
  overcurrent : Nat
deriving DecidableEq, Repr

/-- The record of SCN (02 section 2.1.2) with the scan completion count (R175). -/
structure Scn where
  mode : ScanMode
  scan : Option Scan
  wait : Option Bridge
  results : ScanResults
  primed : Bool
  filtered : Vector Nat 4
  overcurrent : Nat
  excursion : Bool
  watchTimer : Timer
  completions : Nat
deriving DecidableEq, Repr

/-! ## Supply Supervisor (03) -/

/-- The supply stages, in rising order of severity (03 section 3.1). -/
inductive Stage where
  | normal | caution | reserve | cutoff
deriving DecidableEq, Repr

/-- One value for each of the fourteen consumers (03 section 3.1). -/
structure Consumers (α : Type) where
  servo : α
  light : Vector α 10
  bridge : PerBridge α
deriving DecidableEq, Repr

/-- The allocation record (03 section 3.1). The duty caps, derate flags, budget caps and stage caps that
TRC, WCH and LTC take from the latest allocation are read here (log 28). -/
structure Allocation where
  ceiling : Nat
  base : Nat
  sag : Nat
  rawCeiling : Nat
  demand : Consumers Nat
  grant : Consumers Nat
  unassigned : Nat
  dutyCap : PerBridge Nat
  derate : PerBridge Bool
  budgetCap : Vector Nat 10
  stageCap : Vector Nat 10
deriving DecidableEq, Repr

/-- The record of SUP (03 section 3.1); the stage of the allocation is `stage`. -/
structure Sup where
  stage : Stage
  assessed : Bool
  cutoffCount : Nat
  alloc : Allocation
deriving DecidableEq, Repr

/-! ## Traction Controller (04) -/

/-- The traction states (04 section 4.5). -/
inductive TractionState where
  | off | neutral | forward | reverse | braking | held
deriving DecidableEq, Repr

/-- Why the traction state is HELD (04 section 4.1). -/
inductive HoldReason where
  | none | latch | failsafe | shutdown
deriving DecidableEq, Repr

/-- The dig modes (R71). -/
inductive Dig where
  | both | frontOnly | rearOnly | frontFree | rearFree
deriving DecidableEq, Repr

/-- What a bridge does (04 section 4.2). -/
inductive BridgeMode where
  | drive
  | shortBrake (strength : Nat)
  | bridgeOpen
deriving DecidableEq, Repr

/-- What the WINCH bridge does (R125): DRIVE has a direction, hauling for IN and ASSIST and paying out for
OUT. -/
inductive WinchBridge where
  | haul
  | payOut
  | shortBrake (strength : Nat)
  | bridgeOpen
deriving DecidableEq, Repr

/-- What kept an applied duty from its target (R75). -/
inductive Limiter where
  | none | slew | cap | assist
deriving DecidableEq, Repr

/-- The direction that TRC publishes (R78). -/
inductive Direction where
  | none | forward | reverse
deriving DecidableEq, Repr

/-- The record of TRC (04 section 4.1). `assist` is the assist cap while the assist is active;
`dragInForce` is the DRAG_BRAKE taken up at the last choice of both bridge modes (R67, log 20), and
`ratioInForce` the FRONT_RATIO taken up at the last drive frame (R67, R71, log 36). -/
structure Trc where
  state : TractionState
  hold : HoldReason
  throttle : Int
  digRequested : Dig
  digInForce : Dig
  target : PerAxle Int
  applied : PerAxle Int
  mode : PerAxle BridgeMode
  limiter : PerAxle Limiter
  assist : Option Nat
  braking : Bool
  winchOpen : Bool
  dragInForce : Nat
  ratioInForce : Nat
deriving DecidableEq, Repr

/-! ## Steering Controller (05) -/

/-- The steering modes (R91). -/
inductive SteerMode where
  | front | rear | crab | counter | blend
deriving DecidableEq, Repr

/-- The output states (05 section 5.1). -/
inductive OutState where
  | stopped | pulsing | relaxed | held
deriving DecidableEq, Repr

/-- The record of STC (05 section 5.1). `pulse` holds the widths of the pulses started at the last servo
frame. -/
structure Stc where
  mode : SteerMode
  pendingMode : Option SteerMode
  steer : Int
  target : PerAxle Nat
  output : PerAxle Nat
  out : OutState
  frozen : Bool
  relax : Timer
  framePeriod : Nat
  pulse : PerAxle (Option Nat)
deriving DecidableEq, Repr

/-! ## Program Controller (06) -/

/-- Where a program goes after a step (06 section 6.1.1); a GOTO carries its target and its loop count. -/
inductive Link where
  | stop
  | next
  | goto (target : Slot) (loops : Nat)
deriving DecidableEq, Repr

/-- A LIGHT record: level, fade time and hold time (06 section 6.1.1). -/
structure LightRec where
  level : Nat
  fade : Nat
  hold : Nat
  link : Link
deriving DecidableEq, Repr

/-- The winch actions (06 section 6.1.1). -/
inductive Action where
  | inward | outward | hold | free | assist
deriving DecidableEq, Repr

/-- What ends a winch step, with its amount; FAIRLEAD has none (R104). -/
inductive EndOn where
  | distance (mm : Nat)
  | time (frames : Nat)
  | load (mA : Nat)
  | fairlead
deriving DecidableEq, Repr

/-- A WINCH record (06 section 6.1.1). -/
structure WinchRec where
  action : Action
  endOn : EndOn
  speed : Nat
  link : Link
deriving DecidableEq, Repr

/-- A step record in the normal form of R104: a field that does not belong to its kind is not held. -/
inductive StepRec where
  | empty
  | light (r : LightRec)
  | winch (r : WinchRec)
deriving DecidableEq, Repr

/-- A step in the hand of an executing block: its slot and its record. -/
structure InHand (α : Type) where
  slot : Slot
  step : α
deriving DecidableEq, Repr

/-- The states of a unit context (06 section 6.5). -/
inductive UnitState where
  | idle | running | halting
deriving DecidableEq, Repr

/-- The loop counter of a unit context (06 section 6.5). -/
inductive LoopCounter where
  | notLoaded
  | forever
  | count (n : Nat)
deriving DecidableEq, Repr

/-- The ending causes (06 section 6.7), in the order of 11 section 11.4. -/
inductive EndCause where
  | complete | halted | stall | lineEnd | fullyIn | fairlead | failsafe | shutdown | tripped | cutoff | forced
deriving DecidableEq, Repr

/-- The ending status record (R119). `loops` is FOREVER when none. -/
structure EndingStatus where
  unit : UnitNo
  cause : EndCause
  lastSlot : Slot
  residual : Nat
  loops : Option Nat
  finalPos : Nat
  tag : Byte
deriving DecidableEq, Repr

/-- A unit context (06 section 6.5). -/
structure UnitCtx where
  state : UnitState
  first : Slot
  walked : List Slot
  current : Slot
  loop : LoopCounter
  progress : Nat
  haltCause : Option EndCause
  tag : Byte
  stacked : Option EndingStatus
deriving DecidableEq, Repr

/-- The record of PGC: the store, its use counts and the unit contexts (06). -/
structure Pgc where
  store : Vector StepRec 128
  useCount : Vector Nat 128
  units : Vector UnitCtx 11
deriving DecidableEq, Repr

/-! ## Winch Controller (07) -/

/-- The winch states (R125). -/
inductive WinchState where
  | idle | runningPowered | holding | freewheel | waitClutch
deriving DecidableEq, Repr

/-- The clutch states (07 section 7.3). -/
inductive ClutchState where
  | unknown | engaged | freed | movingToEngage | movingToFree
deriving DecidableEq, Repr

/-- The record of WCH (07 section 7.1). `position` and `travel` are in 0.1 mm; `pulse` is the width of the
clutch pulse started at the last servo frame. -/
structure Wch where
  state : WinchState
  step : Option (InHand WinchRec)
  clutch : ClutchState
  clutchTimer : Timer
  position : Nat
  travel : Nat
  frames : Nat
  lastCurrent : Nat
  applied : Nat
  stall : Timer
  assist : Bool
  pulse : Option Nat
deriving DecidableEq, Repr

/-! ## Light Controller (08) -/

/-- What sets a channel's level (08 section 8.1). -/
inductive Source where
  | manual | program
deriving DecidableEq, Repr

/-- The overlay states (08 section 8.1). -/
inductive Overlay where
  | idle
  | on
  | blink (phase : Nat)
  | hazard
deriving DecidableEq, Repr

/-- The budget classes of the lights (R144 settings). -/
inductive LightClass where
  | essential | decorative
deriving DecidableEq, Repr

/-- The overlay functions (R152). -/
inductive OverlayFn where
  | none | brake | reverse | turnLeft | turnRight
deriving DecidableEq, Repr

/-- The record of one light channel (08 section 8.1); its budget cap and stage cap stand in the latest
allocation. -/
structure Channel where
  manual : Nat
  source : Source
  program : Nat
  step : Option (InHand LightRec)
  fadeStart : Nat
  frames : Nat
  overlay : Overlay
  desired : Nat
  demand : Nat
  applied : Nat
deriving DecidableEq, Repr

/-- The record of LTC (08 section 8.1); `hazard` is the hazard phase while it runs. -/
structure Ltc where
  channels : Vector Channel 10
  hazard : Option Nat
deriving DecidableEq, Repr

/-! ## Line Matrix (09) -/

/-- The functions of an auxiliary line (09 section 9.4.1). -/
inductive LineFn where
  | off | generalInput | drumPulse | fairlead | clutchServo
deriving DecidableEq, Repr

/-- One auxiliary line (09 section 9.4.1). -/
structure Line where
  fn : LineFn
  sample : Option Level
  accepted : Level
deriving DecidableEq, Repr

/-- The record of LMX: AUX0..AUX3 and the changed mask (09 section 9.4.1). -/
structure Lmx where
  lines : Vector Line 4
  changed : Vector Bool 4
deriving DecidableEq, Repr

/-! ## Notice Queue (09) -/

/-- An entry of the notice queue (09 section 9.1). -/
inductive Notice where
  | unitEnded (e : EndingStatus)
  | opstate (new old : OpState) (cause : OpCause)
  | trip (causes : CauseSet) (first : TripCause)
  | failsafe (count : Nat) (atExpiry : OpState)
  | stage (new old : Stage) (filtered ceiling : Nat)
  | watch (minFiltered : Nat) (hottest : Int) (sensor : Sensor) (low hot : Bool)
  | line (mask : Vector Bool 4) (levels : Vector Level 4)
deriving DecidableEq, Repr

/-! ## Link Interface (10) -/

/-- The parser states (10 section 10.1.1). -/
inductive ParserState where
  | hunt | length | body | check
deriving DecidableEq, Repr

/-- A complete, checked request frame (R169). -/
structure Frame where
  kind : Byte
  tag : Byte
  payload : List Byte
deriving DecidableEq, Repr

/-- The reasons of a refusal (R173), in the order of 11 section 11.4. -/
inductive Reason where
  | unknownKind | badLength | badValue | notParked | notArmed | tripped | lowBattery
  | measuring | cellsMismatch | badProgram | inUse | noLine
deriving DecidableEq, Repr

/-- The details of a DONE reply (11 section 11.4); those of a notice are the notice kinds. -/
inductive Detail where
  | none | applied | modePending | deferred | quiet | ended | halting | empty
  | opstate | trip | failsafe | stage | watch | line
deriving DecidableEq, Repr

/-- The outcome of a request with its detail or reason (R173). -/
inductive ReplyOutcome where
  | done (d : Detail)
  | status
  | busy
  | refused (r : Reason)
deriving DecidableEq, Repr

/-- A reply on TX (R173): KIND, TAG, the header and the reply's own fields. -/
structure Reply where
  kind : Byte
  tag : Byte
  outcome : ReplyOutcome
  pending : Nat
  overrun : Bool
  fields : List Byte
deriving DecidableEq, Repr

/-- The record of LNK (10 section 10.1.1), with the reply being sent. `frame` holds the bytes received
since SYNC. -/
structure Lnk where
  parser : ParserState
  frame : List Byte
  gap : Bool
  inHand : Option Frame
  reply : Option Reply
  holding : Option Frame
  overrun : Bool
deriving DecidableEq, Repr

/-! ## Settings (10 section 10.4) -/

/-- The settings of VSC (01 section 1.1.2). -/
structure VscCfg where
  holdTime : Nat
  grace : Nat
  tripTemp : Nat
  neutralBand : Nat
deriving DecidableEq, Repr

/-- The settings of SCN (02 section 2.1.3). -/
structure ScnCfg where
  cellCount : Nat
  watchInterval : Nat
  watchLow : Nat
  watchTemp : Nat
deriving DecidableEq, Repr

/-- The settings of SUP (03 section 3.1.1). -/
structure SupCfg where
  packLimit : Nat
  sagFloor : Nat
  cautionLevel : Nat
  reserveLevel : Nat
  cutoffLevel : Nat
  hyst : Nat
  cutoffConfirm : Nat
  servoReserve : Nat
  warnTemp : Nat
  rated : PerBridge Nat
deriving DecidableEq, Repr

/-- The settings of TRC (04 section 4.1.1). -/
structure TrcCfg where
  throttleSlew : Nat
  dragBrake : Nat
  frontRatio : Nat
  slackLevel : Nat
deriving DecidableEq, Repr

/-- The settings of STC that each axle has (05 section 5.1.1). -/
structure AxleCfg where
  centre : Nat
  travelLeft : Nat
  travelRight : Nat
  reverse : Bool
deriving DecidableEq, Repr

/-- The settings of STC (05 section 5.1.1). -/
structure StcCfg where
  axle : PerAxle AxleCfg
  servoRate : Nat
  servoSlew : Nat
  centreBand : Nat
  blendRatio : Nat
  relaxTime : Nat
deriving DecidableEq, Repr

/-- The settings of WCH (07 section 7.1.1). -/
structure WchCfg where
  linePerPulse : Nat
  lineMax : Nat
  stallCurrent : Nat
  stallTime : Nat
  clutchEngaged : Nat
  clutchFree : Nat
  clutchTime : Nat
deriving DecidableEq, Repr

/-- The settings of LTC that each channel has (08 section 8.1.1). -/
structure ChanCfg where
  rated : Nat
  cls : LightClass
  overlay : OverlayFn
  overlayLevel : Nat
deriving DecidableEq, Repr

/-- The settings of LTC (08 section 8.1.1). -/
structure LtcCfg where
  chan : Vector ChanCfg 10
  turnThreshold : Nat
  slowThreshold : Nat
deriving DecidableEq, Repr

/-- The settings table (10 section 10.4). -/
structure Settings where
  vsc : VscCfg
  scn : ScnCfg
  sup : SupCfg
  trc : TrcCfg
  stc : StcCfg
  wch : WchCfg
  ltc : LtcCfg
deriving DecidableEq, Repr

end Sys2Proof.Machine
end

