-- ==== Sys2Proof/Machine/Defaults.lean ====
section
/-! DEFINITION. What a reset leaves in each block. A full reset and a soft reset leave the same values but
for the matters that a soft reset keeps (00 section 0.4), which are arguments here: the settings, the
comparator levels, the line functions, the store and the line position. -/

namespace Sys2Proof.Machine

/-- The same value for both axles. -/
def PerAxle.both {α : Type} (a : α) : PerAxle α := ⟨a, a⟩

/-- The same value for the three bridges. -/
def PerBridge.all {α : Type} (a : α) : PerBridge α := ⟨a, a, a⟩

/-- The same value for the four sensors. -/
def PerSensor.all {α : Type} (a : α) : PerSensor α := ⟨a, a, a, a⟩

/-- The empty set of trip causes. -/
def CauseSet.empty : CauseSet := ⟨.all false, .all false, false⟩

/-! ## The settings' defaults -/

/-- R144's table: channels 0 to 3 are ESSENTIAL, 4 to 9 DECORATIVE. -/
def ChanCfg.default (c : Chan) : ChanCfg :=
  { rated := 200, cls := if c.val < 4 then .essential else .decorative, overlay := .none, overlayLevel := 255 }

/-- Every setting at the default its owner's chapter gives (10 section 10.4). -/
def Settings.default : Settings :=
  { vsc := { holdTime := 500, grace := 200, tripTemp := 110, neutralBand := 50 }
    scn := { cellCount := 3, watchInterval := 10, watchLow := 3600, watchTemp := 70 }
    sup := { packLimit := 30000, sagFloor := 3300, cautionLevel := 3500, reserveLevel := 3350,
             cutoffLevel := 3200, hyst := 100, cutoffConfirm := 200, servoReserve := 3000, warnTemp := 90,
             rated := ⟨12000, 12000, 8000⟩ }
    trc := { throttleSlew := 20, dragBrake := 300, frontRatio := 1000, slackLevel := 300 }
    stc := { axle := .both { centre := 1500, travelLeft := 400, travelRight := 400, reverse := false },
             servoRate := 100, servoSlew := 2000, centreBand := 60, blendRatio := 500, relaxTime := 0 }
    wch := { linePerPulse := 20, lineMax := 3000, stallCurrent := 6000, stallTime := 500,
             clutchEngaged := 1000, clutchFree := 2000, clutchTime := 300 }
    ltc := { chan := Vector.ofFn ChanCfg.default, turnThreshold := 400, slowThreshold := 300 } }

/-! ## The blocks -/

/-- R1. The comparator levels follow the comparators at all times (R17). -/
def Vsc.atReset (comparator : PerBridge Bool) : Vsc :=
  { op := .parked, causes := .empty, firstCause := none, comparator := comparator, hold := none,
    expiryCount := 0, origin := .none, grace := none, latch := true, measured := false }

/-- R24: the published results are all 0, with no completion kind. -/
def ScanResults.atReset : ScanResults :=
  { kind := none, taps := Vector.replicate 4 0, raw := Vector.replicate 4 0,
    filtered := Vector.replicate 4 0, minRaw := 0, minFiltered := 0, pack := 0, bridge := .all 0,
    temp := .all 0, hottest := 0, overcurrent := 0 }

/-- A scan of a kind at slot 1 with nothing converted (R25). -/
def Scan.begin (kind : ScanMode) : Scan := { kind := kind, slot := 0, codes := Vector.replicate 12 none }

/-- R24. The watch interval timer's expiry is taken at the reset (log 8): a watch scan is at slot 1 and the
timer runs with WATCH_INTERVAL. -/
def Scn.atReset (cfg : ScnCfg) : Scn :=
  { mode := .watch, scan := some (Scan.begin .watch), wait := none, results := .atReset, primed := false,
    filtered := Vector.replicate 4 0, overcurrent := 0, excursion := false,
    watchTimer := some cfg.watchInterval, completions := 0 }

/-- R41: no demand, no grant. -/
def Consumers.zero : Consumers Nat := { servo := 0, light := Vector.replicate 10 0, bridge := .all 0 }

/-- R41. The budget cap of a channel whose RATED is 0 is 255, every other one 0. -/
def Sup.atReset (cfg : LtcCfg) : Sup :=
  { stage := .normal, assessed := false, cutoffCount := 0,
    alloc := { ceiling := 0, base := 0, sag := 0, rawCeiling := 0, demand := .zero, grant := .zero,
               unassigned := 0, dutyCap := .all 0, derate := .all false,
               budgetCap := Vector.ofFn fun c => if cfg.chan[c].rated = 0 then 255 else 0,
               stageCap := Vector.replicate 10 255 } }

/-- R66. The DRAG_BRAKE and the FRONT_RATIO in force are the settings held at the reset (logs 20, 36). -/
def Trc.atReset (cfg : TrcCfg) : Trc :=
  { state := .off, hold := .none, throttle := 0, digRequested := .both, digInForce := .both,
    target := .both 0, applied := .both 0, mode := .both .bridgeOpen, limiter := .both .none,
    assist := none, braking := false, winchOpen := false, dragInForce := cfg.dragBrake,
    ratioInForce := cfg.frontRatio }

/-- The frame period in microseconds that a SERVO_RATE gives (R92). -/
def servoPeriod (rate : Nat) : Nat := 1000000 / rate

/-- R88. -/
def Stc.atReset (cfg : StcCfg) : Stc :=
  let centres : PerAxle Nat := ⟨cfg.axle.front.centre, cfg.axle.rear.centre⟩
  { mode := .front, pendingMode := none, steer := 0, target := centres, output := centres, out := .stopped,
    frozen := false, relax := none, framePeriod := servoPeriod cfg.servoRate, pulse := .both none }

/-- R112. -/
def UnitCtx.atReset : UnitCtx :=
  { state := .idle, first := 0, walked := [], current := 0, loop := .notLoaded, progress := 0,
    haltCause := none, tag := 0, stacked := none }

/-- R103, R108, R112. -/
def Pgc.atReset (store : Vector StepRec 128) : Pgc :=
  { store := store, useCount := Vector.replicate 128 0, units := Vector.replicate 11 .atReset }

/-- R123. -/
def Wch.atReset (position : Nat) : Wch :=
  { state := .idle, step := none, clutch := .unknown, clutchTimer := none, position := position,
    travel := 0, frames := 0, lastCurrent := 0, applied := 0, stall := none, assist := false, pulse := none }

/-- R144. -/
def Channel.atReset : Channel :=
  { manual := 0, source := .manual, program := 0, step := none, fadeStart := 0, frames := 0,
    overlay := .idle, desired := 0, demand := 0, applied := 0 }

/-- R144. -/
def Ltc.atReset : Ltc := { channels := Vector.replicate 10 .atReset, hazard := none }

/-- R165: the functions as given, every last sample none and every accepted level HIGH. -/
def Lmx.atReset (fns : Vector LineFn 4) : Lmx :=
  { lines := Vector.ofFn fun i => { fn := fns[i], sample := none, accepted := .high }
    changed := Vector.replicate 4 false }

/-- R170. -/
def Lnk.atReset : Lnk :=
  { parser := .hunt, frame := [], gap := false, inHand := none, reply := none, holding := none,
    overrun := false }

/-- R159, R2: the OPSTATE notice of a reset taken in an operating state is the only entry. -/
def noticesAtReset (old : OpState) : List Notice := [.opstate .parked old .reset]

end Sys2Proof.Machine
end

