-- ==== Sys2Proof/Machine/State.lean ====
section
/-! DEFINITION. The state of the CW-420 as plain data, the ways a step can stop, and the state after the
full reset of power-on. -/

namespace Sys2Proof.Machine

/-- The state: one record for each block that owns state (00 section 0.3), the settings (10 section 10.4),
and two fields of the model: the queue of commands and the counter of free choices. -/
structure State where
  vsc : Vsc
  scn : Scn
  sup : Sup
  trc : Trc
  stc : Stc
  pgc : Pgc
  wch : Wch
  ltc : Ltc
  lmx : Lmx
  /-- The notice queue, its head first (09 section 9.1.1). -/
  nq : List Notice
  lnk : Lnk
  cfg : Settings
  /-- MODEL: how many orders have been taken from the free value `Config.order` (log 35). -/
  choice : Nat
  /-- MODEL: the commands waiting, first in, first out (log 3). -/
  pending : List Instr
deriving DecidableEq, Repr

/-- The ways the machine can stop with a fault: none. The part stops at no command: what its manual calls
a fault is an operating state (TRIPPED, 01 section 1.7). -/
inductive Fault where
deriving DecidableEq, Repr

/-- The ways a command can have no meaning. -/
inductive Refusal where
  /-- Raised by Machine/Dispatch.lean alone, for a command whose meaning is not written yet; safe: the
  model stops where the part goes on. No arm raises it. -/
  | notModelled (mnemonic : String)
deriving DecidableEq, Repr

/-- The machine right after the full reset of power-on (R1, R24, R41, R66, R88, R103, R112, R123, R144,
R159, R165, R170), with no comparator asserted (log 21) and no command waiting. -/
def State.reset : State :=
  { vsc := Vsc.atReset (.all false)
    scn := Scn.atReset Settings.default.scn
    sup := Sup.atReset Settings.default.ltc
    trc := Trc.atReset Settings.default.trc
    stc := Stc.atReset Settings.default.stc
    pgc := Pgc.atReset (Vector.replicate 128 .empty)
    wch := Wch.atReset 0
    ltc := Ltc.atReset
    lmx := Lmx.atReset (Vector.replicate 4 .off)
    nq := noticesAtReset .parked
    lnk := Lnk.atReset
    cfg := Settings.default
    choice := 0
    pending := [] }

end Sys2Proof.Machine
end

