-- ==== Sys2Proof/Machine/Ops.lean ====
section
/-! DEFINITION. The shared operations on numbers, on values per axle, bridge, sensor and channel, and on
the records of the state. A block changes its own record only, through `State.mod…` (00 section 0.3). -/

namespace Sys2Proof.Machine

/-! ## Arithmetic (00 section 0.6.2) -/

/-- clamp(x, a, b) on unsigned quantities. -/
def clampNat (lo hi x : Nat) : Nat := max lo (min hi x)

/-- clamp(x, a, b) on signed quantities. -/
def clampInt (lo hi x : Int) : Int := max lo (min hi x)

/-- `d` with its magnitude brought down to `cap`, keeping its sign (R75, R79). -/
def limitTo (cap : Nat) (d : Int) : Int :=
  if d.natAbs ≤ cap then d else if d < 0 then -(cap : Int) else (cap : Int)

/-- `x` moved toward `t` by at most `n`. -/
def approach (x t : Int) (n : Nat) : Int :=
  if (t - x).natAbs ≤ n then t else if x < t then x + n else x - n

/-- `x` moved toward `t` by at most `n`, for a width (R93). -/
def approachNat (x t n : Nat) : Nat :=
  if x < t then min t (x + n) else max t (x - n)

/-! ## Values per axle, bridge and sensor -/

/-- The value of one axle. -/
def PerAxle.get {α : Type} (v : PerAxle α) : Axle → α
  | .front => v.front
  | .rear => v.rear

/-- `v` with one axle's value replaced. -/
def PerAxle.put {α : Type} (v : PerAxle α) (x : Axle) (a : α) : PerAxle α :=
  match x with
  | .front => { v with front := a }
  | .rear => { v with rear := a }

/-- A value for each axle, from a function of the axle. -/
def PerAxle.of {α : Type} (f : Axle → α) : PerAxle α := ⟨f .front, f .rear⟩

/-- The value of one bridge. -/
def PerBridge.get {α : Type} (v : PerBridge α) : Bridge → α
  | .front => v.front
  | .rear => v.rear
  | .winch => v.winch

/-- `v` with one bridge's value replaced. -/
def PerBridge.put {α : Type} (v : PerBridge α) (b : Bridge) (a : α) : PerBridge α :=
  match b with
  | .front => { v with front := a }
  | .rear => { v with rear := a }
  | .winch => { v with winch := a }

/-- A value for each bridge, from a function of the bridge. -/
def PerBridge.of {α : Type} (f : Bridge → α) : PerBridge α := ⟨f .front, f .rear, f .winch⟩

/-- The value of one sensor. -/
def PerSensor.get {α : Type} (v : PerSensor α) : Sensor → α
  | .board => v.board
  | .front => v.front
  | .rear => v.rear
  | .winch => v.winch

/-- A value for each sensor, from a function of the sensor. -/
def PerSensor.of {α : Type} (f : Sensor → α) : PerSensor α := ⟨f .board, f .front, f .rear, f .winch⟩

/-- `v` with one sensor's value replaced. -/
def PerSensor.put {α : Type} (v : PerSensor α) (x : Sensor) (a : α) : PerSensor α :=
  match x with
  | .board => { v with board := a }
  | .front => { v with front := a }
  | .rear => { v with rear := a }
  | .winch => { v with winch := a }

/-- The bridge that drives an axle. -/
def Axle.bridge : Axle → Bridge
  | .front => .front
  | .rear => .rear

/-- The ten light channels, in rising order. -/
def allChans : List Chan := [0, 1, 2, 3, 4, 5, 6, 7, 8, 9]

/-- The eleven units, in rising order. -/
def allUnits : List UnitNo := [0, 1, 2, 3, 4, 5, 6, 7, 8, 9, 10]

/-- The unit that runs a light channel: channel c is unit c + 1 (00 section 0.6.3). -/
def unitOf (c : Chan) : UnitNo := c.succ

/-- The light channel that a unit runs; none for unit 0, the winch. -/
def chanOf (u : UnitNo) : Option Chan := if h : u ≠ 0 then some (u.pred h) else none

/-! ## The records of the state -/

/-- `s` with the record `vsc` changed by `f`. -/
def State.modVsc (s : State) (f : Vsc → Vsc) : State := { s with vsc := f s.vsc }

/-- `s` with the record `scn` changed by `f`. -/
def State.modScn (s : State) (f : Scn → Scn) : State := { s with scn := f s.scn }

/-- `s` with the record `sup` changed by `f`. -/
def State.modSup (s : State) (f : Sup → Sup) : State := { s with sup := f s.sup }

/-- `s` with the record `trc` changed by `f`. -/
def State.modTrc (s : State) (f : Trc → Trc) : State := { s with trc := f s.trc }

/-- `s` with the record `stc` changed by `f`. -/
def State.modStc (s : State) (f : Stc → Stc) : State := { s with stc := f s.stc }

/-- `s` with the record `pgc` changed by `f`. -/
def State.modPgc (s : State) (f : Pgc → Pgc) : State := { s with pgc := f s.pgc }

/-- `s` with the record `wch` changed by `f`. -/
def State.modWch (s : State) (f : Wch → Wch) : State := { s with wch := f s.wch }

/-- `s` with the record `ltc` changed by `f`. -/
def State.modLtc (s : State) (f : Ltc → Ltc) : State := { s with ltc := f s.ltc }

/-- `s` with the record `lmx` changed by `f`. -/
def State.modLmx (s : State) (f : Lmx → Lmx) : State := { s with lmx := f s.lmx }

/-- `s` with the record `nq` changed by `f`. -/
def State.modNq (s : State) (f : (List Notice) → (List Notice)) : State := { s with nq := f s.nq }

/-- `s` with the record `lnk` changed by `f`. -/
def State.modLnk (s : State) (f : Lnk → Lnk) : State := { s with lnk := f s.lnk }

/-- `s` with the record `cfg` changed by `f`. -/
def State.modCfg (s : State) (f : Settings → Settings) : State := { s with cfg := f s.cfg }

/-- `s` with one more order taken from the free value `Config.order` (log 35). -/
def State.nextChoice (s : State) : State := { s with choice := s.choice + 1 }

/-- `s` with one light channel's record changed by `f`. -/
def State.modChan (s : State) (c : Chan) (f : Channel → Channel) : State :=
  s.modLtc fun l => { l with channels := l.channels.set c (f l.channels[c]) }

/-- `s` with one unit context changed by `f`. -/
def State.modUnit (s : State) (u : UnitNo) (f : UnitCtx → UnitCtx) : State :=
  s.modPgc fun p => { p with units := p.units.set u (f p.units[u]) }

/-- One light channel's record. -/
def State.chan (s : State) (c : Chan) : Channel := s.ltc.channels[c]

/-- One unit's context. -/
def State.unit (s : State) (u : UnitNo) : UnitCtx := s.pgc.units[u]

/-- Three changes made in an order (logs 9, 10, 11). -/
def runOrder (o : Order3) (a b c : State → State) (s : State) : State :=
  match o with
  | .abc => c (b (a s))
  | .acb => b (c (a s))
  | .bac => c (a (b s))
  | .bca => a (c (b s))
  | .cab => b (a (c s))
  | .cba => a (b (c s))

end Sys2Proof.Machine
end

