-- ==== Sys2Proof/Machine/Flags.lean ====
section
/-! DEFINITION. The flags, levels and quantities that one block publishes and that are formed from the
state: ATTN and PENDING (09 R164), the direction (04 R78), the bridge outputs (04 R68, 07 R125), the demands
(03 R53 to R56), the lines' levels (09 R165). -/

namespace Sys2Proof.Machine

/-- PENDING: the entries of the queue plus the stacked statuses (R164). -/
def State.pendingCount (s : State) : Nat :=
  s.nq.length + allUnits.countP fun u => (s.unit u).stacked.isSome

/-- The ATTN output: active while PENDING is above 0 (R164). -/
def State.attn (s : State) : Bool := decide (0 < s.pendingCount)

/-- The direction: the sign of the throttle in force (R78). -/
def Trc.direction (t : Trc) : Direction :=
  if 0 < t.throttle then .forward else if t.throttle < 0 then .reverse else .none

/-- The magnitude of the duty that a bridge is driven at (R26). -/
def State.duty (s : State) : Bridge → Nat
  | .front => s.trc.applied.front.natAbs
  | .rear => s.trc.applied.rear.natAbs
  | .winch => s.wch.applied

/-- R125: the direction in which an action drives the WINCH bridge. HOLD and FREE do not drive it: their
winch states are not RUNNING_POWERED (R133). -/
def Action.drives : Action → WinchBridge
  | .inward => .haul
  | .assist => .haul
  | .outward => .payOut
  | .hold => .shortBrake 1000
  | .free => .bridgeOpen

/-- R125: the WINCH bridge in RUNNING_POWERED with an applied duty above 0; the state always has a step in
hand (R133, log 26). -/
def drivenBridge : Option (InHand WinchRec) → WinchBridge
  | some h => h.step.action.drives
  | none => .shortBrake 1000

/-- What the WINCH bridge does: the mode of the winch state (R125), open while TRC's override holds it
(R84). -/
def State.winchBridge (s : State) : WinchBridge :=
  if s.trc.winchOpen then .bridgeOpen
  else
    match s.wch.state with
    | .idle => .shortBrake 1000
    | .runningPowered => if s.wch.applied = 0 then .shortBrake 1000 else drivenBridge s.wch.step
    | .holding => .shortBrake 1000
    | .freewheel => .bridgeOpen
    | .waitClutch => .bridgeOpen

/-- The clutch is moving (R13, R141). -/
def ClutchState.moving : ClutchState → Bool
  | .movingToEngage => true
  | .movingToFree => true
  | .unknown => false
  | .engaged => false
  | .freed => false

/-- The demand of the servo reserve (R54, R102). -/
def State.servoDemand (s : State) : Nat :=
  match s.stc.out with
  | .pulsing => s.cfg.sup.servoReserve
  | .held => s.cfg.sup.servoReserve
  | .stopped => 0
  | .relaxed => 0

/-- The demand of the WINCH bridge (R56). -/
def State.winchDemand (s : State) : Nat :=
  match s.wch.state, s.wch.step with
  | .runningPowered, some h => h.step.speed * s.cfg.sup.rated.winch / 1000
  | _, _ => 0

/-- The demand of a bridge (R56): from the target of an axle, not from its applied duty. -/
def State.bridgeDemand (s : State) : Bridge → Nat
  | .front => s.trc.target.front.natAbs * s.cfg.sup.rated.front / 1000
  | .rear => s.trc.target.rear.natAbs * s.cfg.sup.rated.rear / 1000
  | .winch => s.winchDemand

/-- The demands that the fourteen consumers have last published (R53); a light channel's is formed by LTC
(R155). -/
def State.demands (s : State) : Consumers Nat :=
  { servo := s.servoDemand
    light := Vector.ofFn fun c => (s.chan c).demand
    bridge := PerBridge.of s.bridgeDemand }

/-- The lowest-numbered line that holds a function. -/
def State.lineOf (s : State) (f : LineFn) : Option (Fin 4) :=
  [0, 1, 2, 3].find? fun i => s.lmx.lines[i].fn = f

/-- A line holds the function. -/
def State.hasLine (s : State) (f : LineFn) : Bool := (s.lineOf f).isSome

/-- The accepted level of the FAIRLEAD line is active: LOW (R165). False with no FAIRLEAD line (R137). -/
def State.fairleadActive (s : State) : Bool :=
  match s.lineOf .fairlead with
  | some i => s.lmx.lines[i].accepted = .low
  | none => false

/-- The smaller of a channel's budget cap and stage cap in the latest allocation (R63, R156). -/
def State.lightCap (s : State) (c : Chan) : Nat :=
  min s.sup.alloc.budgetCap[c] s.sup.alloc.stageCap[c]

end Sys2Proof.Machine
end

