-- ==== Sys2Proof/Machine/Notices.lean ====
section
/-! DEFINITION. The Notice Queue (09 sections 9.1 to 9.3): offers of the six non-unit kinds (R160), ending
statuses (R161), and where a unit's outstanding status stands (R121, R163). -/

namespace Sys2Proof.Machine

/-- What a block offers to the queue. A TRIP notice is offered at an entry to TRIPPED (R19) or for a cause
added while TRIPPED (R20): the two update a queued entry differently. -/
inductive Offer where
  | opstate (new old : OpState) (cause : OpCause)
  | tripEntered (causes : CauseSet) (first : TripCause)
  | tripAdded (causes : CauseSet) (first : TripCause)
  | failsafe (count : Nat) (atExpiry : OpState)
  | stage (new old : Stage) (filtered ceiling : Nat)
  | watch (minFiltered : Nat) (hottest : Int) (sensor : Sensor) (low hot : Bool)
  | line (mask : Vector Bool 4) (levels : Vector Level 4)
deriving DecidableEq, Repr

/-- The entry that an offer appends. -/
def Offer.fresh : Offer → Notice
  | .opstate new old cause => .opstate new old cause
  | .tripEntered causes first => .trip causes first
  | .tripAdded causes first => .trip causes first
  | .failsafe count st => .failsafe count st
  | .stage new old f b => .stage new old f b
  | .watch m h x low hot => .watch m h x low hot
  | .line mask levels => .line mask levels

/-- What an offer makes of a queued entry of its kind, by the table of 09 section 9.1; none for an entry of
another kind. -/
def Offer.update : Offer → Notice → Option Notice
  | .opstate new _ cause, .opstate _ old _ => some (.opstate new old cause)
  | .tripEntered causes first, .trip _ _ => some (.trip causes first)
  | .tripAdded causes _, .trip _ first => some (.trip causes first)
  | .failsafe count st, .failsafe _ _ => some (.failsafe count st)
  | .stage new _ f b, .stage _ old _ _ => some (.stage new old f b)
  | .watch m h x low hot, .watch _ _ _ _ _ => some (.watch m h x low hot)
  | .line mask levels, .line mask' _ => some (.line (Vector.ofFn fun i => mask[i] || mask'[i]) levels)
  | _, _ => none

/-- R160, case 1: the list with the entry of the offer's kind updated in place; none if there is none. -/
def updateInPlace (o : Offer) : List Notice → Option (List Notice)
  | [] => none
  | n :: rest =>
    match o.update n with
    | some n' => some (n' :: rest)
    | none => (updateInPlace o rest).map (n :: ·)

/-- R160, case 3: the oldest UNIT_ENDED entry's status and the list without it. -/
def displaceEnded : List Notice → Option (EndingStatus × List Notice)
  | [] => none
  | .unitEnded e :: rest => some (e, rest)
  | n :: rest => (displaceEnded rest).map fun p => (p.1, n :: p.2)

/-- The status becomes the stacked status of its unit's context (R121). -/
def stackStatus (e : EndingStatus) (s : State) : State :=
  s.modUnit e.unit fun x => { x with stacked := some e }

/-- R160: a notice of a non-unit kind is offered. A full list with no UNIT_ENDED entry does not occur
(R160, log 26). -/
def offer (o : Offer) (s : State) : State :=
  match updateInPlace o s.nq with
  | some q => s.modNq fun _ => q
  | none =>
    if s.nq.length < Config.noticeCapacity then s.modNq (· ++ [o.fresh])
    else
      match displaceEnded s.nq with
      | some (e, q) => stackStatus e (s.modNq fun _ => q ++ [o.fresh])
      | none => s

/-- R161: an ending status is offered; a full list leaves it stacked in its context. -/
def offerEnding (e : EndingStatus) (s : State) : State :=
  if s.nq.length < Config.noticeCapacity then s.modNq (· ++ [.unitEnded e]) else stackStatus e s

/-- The ending status of a unit in the list, if one is queued. -/
def queuedEnding (u : UnitNo) : List Notice → Option EndingStatus
  | [] => none
  | .unitEnded e :: rest => if e.unit = u then some e else queuedEnding u rest
  | _ :: rest => queuedEnding u rest

/-- The list without the unit's UNIT_ENDED entry; the entries behind it each move one place (R163). -/
def removeEnding (u : UnitNo) : List Notice → List Notice
  | [] => []
  | .unitEnded e :: rest => if e.unit = u then rest else .unitEnded e :: removeEnding u rest
  | n :: rest => n :: removeEnding u rest

/-- A unit's outstanding ending status, queued or stacked (R121). -/
def State.outstanding (s : State) (u : UnitNo) : Option EndingStatus :=
  match queuedEnding u s.nq with
  | some e => some e
  | none => (s.unit u).stacked

/-- A unit's outstanding status is removed from the place that held it (R163). -/
def takeOutstanding (u : UnitNo) (s : State) : State :=
  match queuedEnding u s.nq with
  | some _ => s.modNq (removeEnding u)
  | none => s.modUnit u fun x => { x with stacked := none }

end Sys2Proof.Machine
end

