-- ==== Sys2Proof/Machine/Programs.lean ====
section
/-! DEFINITION. The Program Controller (06): use counts, the validation walk, the links of a running
program and the ending of a unit. -/

namespace Sys2Proof.Machine

/-! ## Use counts (R108) -/

/-- The use counts with those of the listed slots changed by `f`; a walked set holds each slot once. -/
def changeUse (slots : List Slot) (f : Nat → Nat) (v : Vector Nat 128) : Vector Nat 128 :=
  Vector.ofFn fun i => if slots.contains i then f v[i] else v[i]

/-! ## The validation walk (R109 to R111) -/

/-- The details of a failed walk (06 section 6.4), in the order of 11 section 11.4. -/
inductive WalkDetail where
  | runsOffEnd | tooLong | emptyStep | wrongKind | gotoInWinch | badPair
  | noDrumLine | noFairleadLine | noClutchLine | badTarget
deriving DecidableEq, Repr

/-- What a walk gives: the walked set, or the slot at which it failed and the detail. -/
inductive Walk where
  | passed (slots : List Slot)
  | failed (slot : Slot) (detail : WalkDetail)
deriving DecidableEq, Repr

/-- R111: the pairings of action and end-on that the winch can carry out. -/
def pairAllowed : Action → EndOn → Bool
  | .inward, _ => true
  | .outward, .fairlead => false
  | .outward, _ => true
  | .assist, .load _ => false
  | .assist, _ => true
  | .hold, .time _ => true
  | .hold, _ => false
  | .free, .time _ => true
  | .free, .distance _ => true
  | .free, _ => false

/-- The end-on is DISTANCE. -/
def EndOn.isDistance : EndOn → Bool
  | .distance _ => true
  | _ => false

/-- R111: the first failure of a WINCH step, if any. -/
def winchStepFails (s : State) (r : WinchRec) : Option WalkDetail :=
  if !pairAllowed r.action r.endOn then some .badPair
  else if r.endOn.isDistance && !s.hasLine .drumPulse then some .noDrumLine
  else if r.endOn = .fairlead && !s.hasLine .fairlead then some .noFairleadLine
  else if r.action = .free && !s.hasLine .clutchServo then some .noClutchLine
  else none

/-- The walk follows a step's link (R109): `next` gives the walk of the slot above. -/
def followWalk (slot : Slot) (seen : List Slot) (link : Link) (next : Slot → List Slot → Walk) : Walk :=
  match link with
  | .stop => .passed (seen ++ [slot])
  | .goto t _ => if seen.contains t then .passed (seen ++ [slot]) else .failed slot .badTarget
  | .next =>
    if h : slot.val + 1 < 128 then next ⟨slot.val + 1, h⟩ (seen ++ [slot]) else .failed slot .runsOffEnd

/-- R109, R110: the walk of a program, from a slot, with the slots walked before it and the number of slots
that the unit may still pass. -/
def walkFrom (s : State) (winch : Bool) : Nat → Slot → List Slot → Walk
  | 0, slot, _ => .failed slot .tooLong
  | left + 1, slot, seen =>
    match s.pgc.store[slot] with
    | .empty => .failed slot .emptyStep
    | .light r =>
      if winch then .failed slot .wrongKind
      else followWalk slot seen r.link (walkFrom s winch left)
    | .winch r =>
      if !winch then .failed slot .wrongKind
      else
        match r.link with
        | .goto _ _ => .failed slot .gotoInWinch
        | link =>
          match winchStepFails s r with
          | some d => .failed slot d
          | none => followWalk slot seen link (walkFrom s winch left)

/-- R109: the walk of a unit's program from its first slot. -/
def walk (s : State) (u : UnitNo) (first : Slot) : Walk :=
  if u = 0 then walkFrom s true Config.winchWalkMax first []
  else walkFrom s false Config.lightWalkMax first []

/-! ## Links (R118) -/

/-- Where a completed step's link leads: to a slot with the loop counter it then has, or to the end of the
program. -/
inductive Follow where
  | to (slot : Slot) (loop : LoopCounter)
  | ends (loop : LoopCounter)
deriving DecidableEq, Repr

/-- The loop counter at a GOTO: loaded from the step's loop count at the first arrival, 0 as FOREVER
(R118). -/
def loadLoop (loops : Nat) : LoopCounter → LoopCounter
  | .notLoaded => if loops = 0 then .forever else .count loops
  | .forever => .forever
  | .count n => .count n

/-- R118. NEXT from slot 127 does not occur in a walked program (R109, log 26). -/
def followLink (cur : Slot) (link : Link) (loop : LoopCounter) : Follow :=
  match link with
  | .stop => .ends loop
  | .next => if h : cur.val + 1 < 128 then .to ⟨cur.val + 1, h⟩ loop else .ends loop
  | .goto t loops =>
    match loadLoop loops loop with
    | .count (n + 1) => .to t (.count n)
    | .count 0 => .ends (.count 0)
    | other => .to t other

/-- The link of the step at a unit's current slot. -/
def StepRec.link : StepRec → Link
  | .empty => .stop
  | .light r => r.link
  | .winch r => r.link

/-- The context passes to a slot: step progress is set to 0 (R118). -/
def passTo (u : UnitNo) (slot : Slot) (loop : LoopCounter) (s : State) : State :=
  s.modUnit u fun x => { x with current := slot, loop := loop, progress := 0 }

/-! ## Starting and ending a unit (R114, R119) -/

/-- R114: the context of a unit that is started, and the use counts of its walked set. -/
def startContext (u : UnitNo) (first : Slot) (slots : List Slot) (tag : Byte) (s : State) : State :=
  (s.modUnit u fun x =>
      { x with state := .running, first := first, current := first, walked := slots, loop := .notLoaded,
               progress := 0, haltCause := none, tag := tag }).modPgc
    fun p => { p with useCount := changeUse slots (· + 1) p.useCount }

/-- Loops remaining (R119): the counter if it is loaded; if not, the loop count of the program's GOTO, as
FOREVER (none) for 0; and 0 for a program with no GOTO. A GOTO is the last step of a walk (R109). -/
def loopsRemaining (s : State) (x : UnitCtx) : Option Nat :=
  match x.loop with
  | .forever => none
  | .count n => some n
  | .notLoaded =>
    match x.walked.getLast? with
    | none => some 0
    | some slot =>
      match s.pgc.store[slot].link with
      | .goto _ loops => if loops = 0 then none else some loops
      | .stop => some 0
      | .next => some 0

/-- R119: a unit ends; the executing block has reported the residual and the final position. -/
def endUnit (u : UnitNo) (cause : EndCause) (residual finalPos : Nat) (s : State) : State :=
  let x := s.unit u
  let status : EndingStatus :=
    { unit := u, cause := cause, lastSlot := x.current, residual := residual,
      loops := loopsRemaining s x, finalPos := finalPos, tag := x.tag }
  offerEnding status
    ((s.modPgc fun p => { p with useCount := changeUse x.walked (· - 1) p.useCount }).modUnit u
      fun y => { y with state := .idle, haltCause := none })

end Sys2Proof.Machine
end

