-- ==== Sys2Proof/Machine/Scanner.lean ====
section
/-! DEFINITION. The Scanner (02): the scan list, starting and abandoning scans, the conversion arithmetic
and SCN's own part of a scan completion. -/

namespace Sys2Proof.Machine

/-! ## The scan list (02 section 2.1.1) -/

/-- The bridge whose trigger a slot waits for: slots 6, 7 and 8. -/
def slotBridge (k : Fin 12) : Option Bridge :=
  if k = 5 then some .front else if k = 6 then some .rear else if k = 7 then some .winch else none

/-- The slot converted after a slot (R23): a WATCH scan passes over slots 5 to 8; none after slot 12. -/
def nextSlot (kind : ScanMode) (k : Fin 12) : Option (Fin 12) :=
  match kind with
  | .continuous => if h : k.val + 1 < 12 then some ⟨k.val + 1, h⟩ else none
  | .watch => if k = 3 then some 8 else if h : k.val + 1 < 12 then some ⟨k.val + 1, h⟩ else none

/-! ## Starting scans and waits (R25, R26) -/

/-- A scan starts at slot 1 and takes its kind from the mode (R23, R25); a scan in progress is abandoned. -/
def startScan (s : State) : State :=
  s.modScn fun n => { n with scan := some (Scan.begin n.mode), wait := none }

/-- R26: the applied duty of the waited-for bridge is 0: the conversion starts and the wait is cleared. -/
def endWaitOnZero (s : State) : State :=
  match s.scn.wait with
  | some b => if s.duty b = 0 then s.modScn fun n => { n with wait := none } else s
  | none => s

/-- R26: the wait that a slot records when the scan reaches it. -/
def waitAt (s : State) (k : Fin 12) : Option Bridge :=
  match slotBridge k with
  | some b => if s.duty b = 0 then none else some b
  | none => none

/-- R34, step 6, and R24: the watch interval timer is started already expired; the expiry is taken at once
(R35, log 8). -/
def startWatchExpired (s : State) : State :=
  startScan (s.modScn fun n => { n with watchTimer := some s.cfg.scn.watchInterval })

/-- R33: the entry to ARMED from PARKED. -/
def scanContinuous (s : State) : State :=
  startScan (s.modScn fun n => { n with mode := .continuous, watchTimer := none })

/-- R34: an entry to PARKED. -/
def scanWatch (s : State) : State :=
  startWatchExpired (s.modScn fun n =>
    { n with mode := .watch, overcurrent := 0, excursion := false, wait := none, scan := none })

/-- R39: a SET has changed CELL_COUNT. The filtered values keep what they hold, those of cells above the new
count included, until the next completion sets these to 0 (R37, log 46). -/
def cellCountChanged (s : State) : State :=
  s.modScn fun n => { n with scan := none, wait := none, primed := false }

/-! ## Conversion arithmetic (R28 to R31) -/

/-- The code that a scan holds for a slot. -/
def Scan.code (c : Scan) (k : Fin 12) : Nat := (c.codes[k].getD 0).toNat

/-- R28: the voltage of a tap in mV, rounded to the nearest, one half up. -/
def tapVoltage (tap code : Nat) : Nat := (2 * (code * (4400 * tap)) + 4095) / (2 * 4095)

/-- R28: taps 1 to 4. -/
def Scan.taps (c : Scan) : Vector Nat 4 :=
  #v[tapVoltage 1 (c.code 0), tapVoltage 2 (c.code 1), tapVoltage 3 (c.code 2), tapVoltage 4 (c.code 3)]

/-- R29: the raw cells; a difference below 0 is 0, and cells above CELL_COUNT are 0. -/
def rawCells (count : Nat) (taps : Vector Nat 4) : Vector Nat 4 :=
  #v[taps[0], taps[1] - taps[0], if 3 ≤ count then taps[2] - taps[1] else 0,
     if 4 ≤ count then taps[3] - taps[2] else 0]

/-- The lowest of the values of cells 1..CELL_COUNT (R29, R37); CELL_COUNT is at least 2. -/
def minCell (count : Nat) (v : Vector Nat 4) : Nat :=
  let two := min v[0] v[1]
  let three := if 3 ≤ count then min two v[2] else two
  if 4 ≤ count then min three v[3] else three

/-- R30: the pack current in mA. -/
def packCurrent (code : Nat) : Nat := code * 80000 / 4095

/-- R30: a bridge current in mA. -/
def bridgeCurrent (code : Nat) : Nat := code * 40000 / 4095

/-- R31: a temperature in degrees. -/
def temperature (code : Nat) : Int := ((code * 200 / 4095 : Nat) : Int) - 50

/-- R37: a filtered cell, from its filtered value and its raw value. -/
def filterCell (primed : Bool) (filtered raw : Nat) : Nat :=
  if primed then ((filtered : Int) + ((raw : Int) - filtered).tdiv 4).toNat else raw

/-- R37: the filtered cells; those above CELL_COUNT are held at 0. -/
def filterCells (count : Nat) (primed : Bool) (filtered raw : Vector Nat 4) : Vector Nat 4 :=
  Vector.ofFn fun i => if i.val < count then filterCell primed filtered[i] raw[i] else 0

/-- The highest of four temperatures (R31). -/
def hottestOf (t : PerSensor Int) : Int := max (max t.board t.front) (max t.rear t.winch)

/-- The first sensor, in slot order, that gives the hottest temperature (R36). -/
def hottestSensor (t : PerSensor Int) : Sensor :=
  if t.board = hottestOf t then .board
  else if t.front = hottestOf t then .front
  else if t.rear = hottestOf t then .rear
  else .winch

/-- R38: the overcurrent count after a CONTINUOUS completion. -/
def overcurrentNext (packLimit pack count : Nat) : Nat :=
  if packLimit * 5 / 4 < pack then min (count + 1) 255 else 0

/-! ## SCN's part of a completion (R32) -/

/-- The bridge currents of a scan (R30); a WATCH scan publishes 0. -/
def Scan.bridges (c : Scan) : PerBridge Nat :=
  match c.kind with
  | .continuous => ⟨bridgeCurrent (c.code 5), bridgeCurrent (c.code 6), bridgeCurrent (c.code 7)⟩
  | .watch => .all 0

/-- The pack current of a scan (R30); a WATCH scan publishes 0. -/
def Scan.pack (c : Scan) : Nat :=
  match c.kind with
  | .continuous => packCurrent (c.code 4)
  | .watch => 0

/-- The four temperatures of a scan (R31). -/
def Scan.temps (c : Scan) : PerSensor Int :=
  ⟨temperature (c.code 8), temperature (c.code 9), temperature (c.code 10), temperature (c.code 11)⟩

/-- The overcurrent count after a completion (R32, step 3). -/
def countAfter (cfg : Settings) (n : Scn) (c : Scan) : Nat :=
  match c.kind with
  | .continuous => overcurrentNext cfg.sup.packLimit c.pack n.overcurrent
  | .watch => n.overcurrent

/-- The record that a completed scan publishes (R32, steps 1 to 4). -/
def resultsOf (cfg : Settings) (n : Scn) (c : Scan) : ScanResults :=
  let raw := rawCells cfg.scn.cellCount c.taps
  let filtered := filterCells cfg.scn.cellCount n.primed n.filtered raw
  { kind := some c.kind, taps := c.taps, raw := raw, filtered := filtered,
    minRaw := minCell cfg.scn.cellCount raw, minFiltered := minCell cfg.scn.cellCount filtered,
    pack := c.pack, bridge := c.bridges, temp := c.temps, hottest := hottestOf c.temps,
    overcurrent := countAfter cfg n c }

/-- R32, steps 1 to 4, and the scan completion count (R175). -/
def publishScan (c : Scan) (s : State) : State :=
  s.modScn fun n =>
    let r := resultsOf s.cfg n c
    { n with results := r, primed := true, filtered := r.filtered, overcurrent := r.overcurrent,
             scan := none, wait := none, completions := (n.completions + 1) % 65536 }

/-- R36: the low condition of the watch window. -/
def watchLow (s : State) : Bool := decide (s.scn.results.minFiltered < s.cfg.scn.watchLow)

/-- R36: the hot condition of the watch window. -/
def watchHot (s : State) : Bool := decide ((s.cfg.scn.watchTemp : Int) < s.scn.results.hottest)

/-- R36: the watch window check on the published results. -/
def watchCheck (s : State) : State :=
  let outside := watchLow s || watchHot s
  if s.scn.excursion then
    if outside then s else s.modScn fun n => { n with excursion := false }
  else if outside then
    let r := s.scn.results
    offer (.watch r.minFiltered r.hottest (hottestSensor r.temp) (watchLow s) (watchHot s))
      (s.modScn fun n => { n with excursion := true })
  else s

/-- R32, steps 5 and 6: the watch window check of a WATCH scan, the next scan of CONTINUOUS mode. -/
def afterScan (kind : ScanMode) (s : State) : State :=
  match s.scn.mode with
  | .continuous => startScan s
  | .watch => match kind with
    | .watch => watchCheck s
    | .continuous => s

/-- R32: SCN's own part of a scan completion. -/
def scanComplete (c : Scan) (s : State) : State := afterScan c.kind (publishScan c s)

end Sys2Proof.Machine
end

