-- ==== Sys2Proof/Machine/Steering.lean ====
section
/-! DEFINITION. The Steering Controller (05): angles, pulses, the pending mode, relax and wake, and STC's
part of the operating-state entries. -/

namespace Sys2Proof.Machine

/-! ## Angles and pulses (R91, R92) -/

/-- R91, BLEND: k, from BLEND_RATIO and the front applied duty. -/
def blendShare (ratio : Nat) (frontDuty : Int) : Nat := ratio * (1000 - frontDuty.natAbs) / 1000

/-- R91: the steering angle of each axle. -/
def angles (mode : SteerMode) (steer : Int) (ratio : Nat) (frontDuty : Int) : PerAxle Int :=
  match mode with
  | .front => ⟨steer, 0⟩
  | .rear => ⟨0, steer⟩
  | .crab => ⟨steer, steer⟩
  | .counter => ⟨steer, -steer⟩
  | .blend => ⟨steer, (-(steer * (blendShare ratio frontDuty : Int))).tdiv 1000⟩

/-- R92: the pulse of an axle, from its angle. -/
def pulseOf (cfg : AxleCfg) (angle : Int) : Nat :=
  let a := if cfg.reverse then -angle else angle
  let pulse := if 0 ≤ a then cfg.centre + a.natAbs * cfg.travelRight / 1000
               else cfg.centre - a.natAbs * cfg.travelLeft / 1000
  clampNat 500 2500 pulse

/-- R92: the target pulses, from the steer command, the mode and the front duty last published. -/
def targetPulses (s : State) : PerAxle Nat :=
  let a := angles s.stc.mode s.stc.steer s.cfg.stc.blendRatio s.trc.applied.front
  ⟨pulseOf s.cfg.stc.axle.front a.front, pulseOf s.cfg.stc.axle.rear a.rear⟩

/-- R89: the lower edge of an axle's output window. -/
def windowLow (cfg : AxleCfg) : Nat := max 500 (cfg.centre - cfg.travelLeft)

/-- R89: the upper edge of an axle's output window. -/
def windowHigh (cfg : AxleCfg) : Nat := min 2500 (cfg.centre + cfg.travelRight)

/-- R89: a SET has moved an axle's output window; its pulses are brought into it at once. -/
def clampWindow (x : Axle) (s : State) : State :=
  let w := s.cfg.stc.axle.get x
  s.modStc fun t =>
    { t with target := t.target.put x (clampNat (windowLow w) (windowHigh w) (t.target.get x)),
             output := t.output.put x (clampNat (windowLow w) (windowHigh w) (t.output.get x)) }

/-- Both axles' CENTRE (R88, R100, R101). -/
def centres (s : State) : PerAxle Nat := ⟨s.cfg.stc.axle.front.centre, s.cfg.stc.axle.rear.centre⟩

/-! ## Relax and wake (R96 to R99) -/

/-- A steer within ±CENTRE_BAND. -/
def withinCentre (s : State) (steer : Int) : Bool := decide (steer.natAbs ≤ s.cfg.stc.centreBand)

/-- A throttle within ±NEUTRAL_BAND (R11, R98). -/
def withinNeutral (s : State) (throttle : Int) : Bool := decide (throttle.natAbs ≤ s.cfg.vsc.neutralBand)

/-- Both applied duties that TRC last published are 0. -/
def axlesStopped (s : State) : Bool := decide (s.trc.applied.front = 0) && decide (s.trc.applied.rear = 0)

/-- R96: the relax condition. -/
def relaxCondition (s : State) : Bool :=
  decide (s.vsc.op = .armed) && decide (s.cfg.stc.relaxTime ≠ 0) && decide (s.stc.out = .pulsing) &&
    withinCentre s s.stc.steer && axlesStopped s

/-- R96: the relax test. -/
def relaxTest (s : State) : State :=
  if relaxCondition s then
    s.modStc fun t => { t with relax := some (t.relax.getD s.cfg.stc.relaxTime) }
  else s.modStc fun t => { t with relax := none }

/-- R99: a wake in ARMED, with the relax test that follows it. -/
def wake (s : State) : State :=
  relaxTest (s.modStc fun t => { t with out := .pulsing, target := targetPulses s, output := targetPulses s })

/-- R96, R98: TRC has published applied duties. -/
def steerOnDuties (s : State) : State :=
  if s.stc.out = .relaxed ∧ s.vsc.op = .armed ∧ !axlesStopped s then wake s else relaxTest s

/-- R98: a SET of RELAX_TIME to 0 wakes relaxed outputs; every other SET of it makes the relax test
(R96). -/
def relaxTimeSet (s : State) : State :=
  if s.stc.out = .relaxed ∧ s.vsc.op = .armed ∧ s.cfg.stc.relaxTime = 0 then wake s else relaxTest s

/-! ## DRIVE and STEER_MODE -/

/-- R95: the pending mode becomes the mode in force when the steer lies within CENTRE_BAND. -/
def pendingTest (s : State) : State :=
  match s.stc.pendingMode with
  | some m => if withinCentre s s.stc.steer then s.modStc fun t => { t with mode := m, pendingMode := none } else s
  | none => s

/-- R98: a DRIVE whose steer or throttle lies outside its band stops the relax timer and wakes relaxed
outputs. -/
def wakeTest (throttle : Int) (s : State) : State :=
  if withinCentre s s.stc.steer && withinNeutral s throttle then s
  else
    let s := s.modStc fun t => { t with relax := none }
    if s.stc.out = .relaxed then wake s else s

/-- R90: STC takes the clamped steer of a DRIVE, with the clamped throttle as sent. -/
def steerDrive (throttle steer : Int) (s : State) : State :=
  relaxTest (wakeTest throttle (pendingTest (s.modStc fun t => { t with steer := steer })))

/-- R94: STEER_MODE is applied at once. -/
def steerModeAtOnce (s : State) (m : SteerMode) : Bool :=
  match s.vsc.op with
  | .parked => true
  | .tripped => true
  | .armed => decide (m = s.stc.mode) || withinCentre s s.stc.steer
  | .failsafe => decide (m = s.stc.mode) || withinCentre s s.stc.steer
  | .shuttingDown => decide (m = s.stc.mode) || withinCentre s s.stc.steer

/-- R94: the action of STEER_MODE. -/
def steerMode (m : SteerMode) (s : State) : State :=
  if steerModeAtOnce s m then s.modStc fun t => { t with mode := m, pendingMode := none }
  else s.modStc fun t => { t with pendingMode := some m }

/-! ## The servo frame (R92, R93) -/

/-- R93: the outputs slewed toward their targets. -/
def slewOutputs (n : Nat) (t : Stc) : PerAxle Nat :=
  ⟨approachNat t.output.front t.target.front n, approachNat t.output.rear t.target.rear n⟩

/-- R93: what a servo frame does to the steering outputs, by output state. -/
def steerFrame (s : State) : State :=
  s.modStc fun t =>
    match t.out with
    | .stopped => { t with pulse := .both none }
    | .pulsing =>
      let t := if t.frozen then t else { t with target := targetPulses s }
      let out := slewOutputs s.cfg.stc.servoSlew t
      { t with output := out, pulse := ⟨some out.front, some out.rear⟩ }
    | .relaxed => { t with target := targetPulses s, output := targetPulses s, pulse := .both none }
    | .held => { t with pulse := ⟨some t.output.front, some t.output.rear⟩ }

/-- R92: the servo frame timer restarts with the period of the SERVO_RATE held. -/
def restartServoTimer (s : State) : State :=
  s.modStc fun t => { t with framePeriod := servoPeriod s.cfg.stc.servoRate }

/-! ## Operating-state entries (R100, R101) -/

/-- R100: the entry to ARMED from PARKED. -/
def steerArmed (s : State) : State :=
  let s := s.modStc fun t => { t with out := .pulsing, frozen := false, output := centres s }
  relaxTest (s.modStc fun t => { t with target := targetPulses s })

/-- R100: the entry to ARMED from FAILSAFE, before the recovering DRIVE. -/
def steerUnfreeze (s : State) : State := s.modStc fun t => { t with frozen := false }

/-- Relaxed outputs woken at their present targets (R101). -/
def wakeAtPresent (t : Stc) : Stc :=
  match t.out with
  | .relaxed => { t with output := t.target }
  | .stopped => t
  | .pulsing => t
  | .held => t

/-- R101: the entry to FAILSAFE. -/
def steerFailsafe (s : State) : State :=
  s.modStc fun t => { wakeAtPresent t with out := .pulsing, frozen := true, relax := none }

/-- R101: the entry to SHUTTING_DOWN, from ARMED or from FAILSAFE. Relaxed outputs are woken at their present
targets as R101 says, not at targets computed anew as R99 would have it (log 22). -/
def steerShutdown (s : State) : State :=
  s.modStc fun t => { wakeAtPresent t with out := .pulsing, frozen := false, relax := none }

/-- R101: the entry to TRIPPED; stopped outputs stay stopped. -/
def steerTripped (s : State) : State :=
  s.modStc fun t =>
    match t.out with
    | .stopped => { t with relax := none }
    | .pulsing => { t with out := .held, frozen := true, relax := none }
    | .relaxed => { t with output := t.target, out := .held, frozen := true, relax := none }
    | .held => { t with out := .held, frozen := true, relax := none }

/-- R101: an entry to PARKED; the outputs stop at once. -/
def steerParked (s : State) : State :=
  s.modStc fun t =>
    { t with out := .stopped, frozen := false, relax := none, target := centres s, output := centres s,
             steer := 0, pendingMode := none, pulse := .both none }

end Sys2Proof.Machine
end

