-- ==== Sys2Proof/Machine/Lights.lean ====
section
/-! DEFINITION. The Light Controller (08): overlays, levels and caps, light steps, and the light units'
starts and endings. -/

namespace Sys2Proof.Machine

/-! ## Desired levels and demands (R155) -/

/-- A channel's source level (08 section 8.3). -/
def Channel.sourceLevel (ch : Channel) : Nat :=
  match ch.source with
  | .manual => ch.manual
  | .program => ch.program

/-- The overlay is lit: ON, or BLINK or HAZARD in its on-phase (R153 to R155). -/
def overlayLit (o : Overlay) (hazard : Option Nat) : Bool :=
  match o with
  | .idle => false
  | .on => true
  | .blink phase => decide (phase < 50)
  | .hazard =>
    match hazard with
    | some phase => decide (phase < 50)
    | none => false

/-- R155: the desired level of a channel. -/
def desiredLevel (cfg : ChanCfg) (hazard : Option Nat) (ch : Channel) : Nat :=
  max ch.sourceLevel (if overlayLit ch.overlay hazard then cfg.overlayLevel else 0)

/-- R155, R55: the desired level and the demand formed anew. -/
def formLevel (cfg : ChanCfg) (hazard : Option Nat) (ch : Channel) : Channel :=
  let d := desiredLevel cfg hazard ch
  { ch with desired := d, demand := d * cfg.rated / 255 }

/-- R155 for one channel. -/
def formDesired (c : Chan) (s : State) : State :=
  s.modChan c (formLevel s.cfg.ltc.chan[c] s.ltc.hazard)

/-! ## Overlays (R152 to R154) -/

/-- The operating states in which the BRAKE and REVERSE conditions may hold (R152). -/
def OpState.moving : OpState → Bool
  | .parked => false
  | .armed => true
  | .failsafe => true
  | .shuttingDown => true
  | .tripped => false

/-- The front applied duty is at or below SLOW_THRESHOLD (R152). -/
def frontSlow (s : State) : Bool := decide (s.trc.applied.front.natAbs ≤ s.cfg.ltc.slowThreshold)

/-- R152: the overlay condition of a function. -/
def overlayCondition (s : State) : OverlayFn → Bool
  | .none => false
  | .brake => s.vsc.op.moving && s.trc.braking
  | .reverse => s.vsc.op.moving && decide (s.trc.applied.rear < 0)
  | .turnLeft =>
    decide (s.vsc.op = .armed) && decide (s.stc.steer < -(s.cfg.ltc.turnThreshold : Int)) && frontSlow s
  | .turnRight =>
    decide (s.vsc.op = .armed) && decide ((s.cfg.ltc.turnThreshold : Int) < s.stc.steer) && frontSlow s

/-- The function is a turn function (R154). -/
def OverlayFn.isTurn : OverlayFn → Bool
  | .none => false
  | .brake => false
  | .reverse => false
  | .turnLeft => true
  | .turnRight => true

/-- R153: the overlay of a turn channel whose condition holds. -/
def Overlay.blinking : Overlay → Overlay
  | .blink phase => .blink phase
  | .idle => .blink 0
  | .on => .blink 0
  | .hazard => .blink 0

/-- The overlay state that the tests of R152 to R154 give a channel. -/
def overlayNext (s : State) (c : Chan) : Overlay :=
  let fn := s.cfg.ltc.chan[c].overlay
  if fn.isTurn then
    if s.ltc.hazard.isSome then .hazard
    else if overlayCondition s fn then (s.chan c).overlay.blinking else .idle
  else if overlayCondition s fn then .on else .idle

/-- R152 on one channel: a change of overlay state forms the desired level and demand anew. -/
def overlayChannel (s : State) (c : Chan) : Channel :=
  let ch := s.chan c
  if overlayNext s c = ch.overlay then ch
  else formLevel s.cfg.ltc.chan[c] s.ltc.hazard { ch with overlay := overlayNext s c }

/-- R152 on every channel. -/
def overlayTests (s : State) : State :=
  s.modLtc fun l => { l with channels := Vector.ofFn (overlayChannel s) }

/-- R152 on one channel, at a SET of its OVERLAY. -/
def overlayTest (c : Chan) (s : State) : State := s.modChan c fun _ => overlayChannel s c

/-- R154: the hazard phase starts at 0 and every turn channel goes to HAZARD. -/
def hazardStart (s : State) : State := overlayTests (s.modLtc fun l => { l with hazard := some 0 })

/-- R154: the hazard phase stops; every channel in HAZARD returns to IDLE before the test of R152. -/
def hazardStop (s : State) : State :=
  overlayTests (s.modLtc fun l => { l with hazard := none })

/-! ## Applied levels (R156) -/

/-- R156, R63: each channel above its caps in the latest allocation is cut down to them. -/
def cutLights (s : State) : State :=
  s.modLtc fun l =>
    { l with channels := Vector.ofFn fun c =>
        let ch := l.channels[c]
        { ch with applied := min ch.applied (s.lightCap c) } }

/-- R146, step 4: the applied level at a light frame. -/
def takeLevel (c : Chan) (s : State) : State :=
  s.modChan c fun ch => { ch with applied := min ch.desired (s.lightCap c) }

/-! ## Light steps (R149, R150) -/

/-- R149: a step begins. -/
def beginLightStep (c : Chan) (slot : Slot) (r : LightRec) (s : State) : State :=
  s.modChan c fun ch =>
    { ch with step := some ⟨slot, r⟩, fadeStart := ch.program, frames := 0,
              program := if r.fade = 0 then r.level else ch.program }

/-- A LIGHT record at a slot is handed to LTC (R114, R118); another kind does not occur in a walked program
(R110, log 26). -/
def handLight (c : Chan) (slot : Slot) (s : State) : State :=
  match s.pgc.store[slot] with
  | .light r => beginLightStep c slot r s
  | .empty => s
  | .winch _ => s

/-- R149: the program level after `k` frames of a step. -/
def fadeLevel (start : Nat) (r : LightRec) (k : Nat) : Nat :=
  if k < r.fade then ((start : Int) + (((r.level : Int) - start) * k).tdiv r.fade).toNat else r.level

/-- R150: the frames of fade and hold not yet run; `haltedResidual` is the figure at a HALT (log 37). -/
def lightResidual (ch : Channel) : Nat :=
  match ch.step with
  | some h => h.step.fade + h.step.hold - ch.frames
  | none => 0

/-- R150: the residual at a HALT. With the frame that completes the step due at the same moment, a HALT
taken first leaves 0; without it the figure is that of R150's formula (log 37). -/
def haltedResidual (due : Bool) (ch : Channel) : Nat :=
  match ch.step with
  | some h => if h.step.fade + h.step.hold ≤ ch.frames + 1 ∧ due then 0 else lightResidual ch
  | none => 0

/-- R151, R119: a light unit ends with a cause and a residual. -/
def endLightWith (c : Chan) (cause : EndCause) (residual : Nat) (s : State) : State :=
  let s := endUnit (unitOf c) cause residual (s.chan c).program s
  formDesired c (s.modChan c fun ch => { ch with step := none, frames := 0, source := .manual })

/-- R151: a light unit ends; the residual of a unit ended COMPLETE is 0 (R120). -/
def endLightUnit (c : Chan) (cause : EndCause) (s : State) : State :=
  endLightWith c cause (if cause = .complete then 0 else lightResidual (s.chan c)) s

/-- R118: a light step has completed; PGC follows its link. -/
def lightStepDone (c : Chan) (s : State) : State :=
  let x := s.unit (unitOf c)
  match followLink x.current s.pgc.store[x.current].link x.loop with
  | .to slot loop => handLight c slot (passTo (unitOf c) slot loop s)
  | .ends loop => endLightUnit c .complete (s.modUnit (unitOf c) fun y => { y with loop := loop })

/-- R146, step 2: one frame of the step in hand; the step progress is the frames elapsed (R120). -/
def lightStepFrame (c : Chan) (s : State) : State :=
  let ch := s.chan c
  match ch.source, ch.step with
  | .program, some h =>
    let k := ch.frames + 1
    let s := s.modChan c fun ch => { ch with frames := k, program := fadeLevel ch.fadeStart h.step k }
    let s := s.modUnit (unitOf c) fun x => { x with progress := k }
    if h.step.fade + h.step.hold ≤ k then lightStepDone c s else s
  | _, _ => s

/-- R146, step 1: the blink phase advances. -/
def blinkFrame (c : Chan) (s : State) : State :=
  s.modChan c fun ch =>
    match ch.overlay with
    | .blink phase => { ch with overlay := .blink ((phase + 1) % 100) }
    | .idle => ch
    | .on => ch
    | .hazard => ch

/-- R146: what a light frame does to one channel. -/
def channelFrame (s : State) (c : Chan) : State :=
  takeLevel c (formDesired c (lightStepFrame c (blinkFrame c s)))

/-- R146: the hazard phase, then the channels, in rising order (log 12). -/
def lightsFrame (s : State) : State :=
  allChans.foldl channelFrame
    (s.modLtc fun l => { l with hazard := l.hazard.map fun phase => (phase + 1) % 100 })

/-! ## Starting and ending light units -/

/-- R147: a light unit starts; PGC has set its context. -/
def startLightUnit (c : Chan) (first : Slot) (s : State) : State :=
  formDesired c (handLight c first
    (s.modChan c fun ch => { ch with source := .program, program := ch.manual }))

/-- R117: a running light unit is ended with a cause. -/
def haltLight (cause : EndCause) (s : State) (c : Chan) : State :=
  if (s.unit (unitOf c)).state = .running then endLightUnit c cause s else s

/-- R117, R47: the stage has become CUTOFF; every running light unit ends, in rising unit number (R49). -/
def cutoffLights (s : State) : State := allChans.foldl (haltLight .cutoff) s

/-- R148: SET_LIGHT stores the manual level; source MANUAL forms the desired level anew. -/
def setManual (c : Chan) (level : Nat) (s : State) : State :=
  let s := s.modChan c fun ch => { ch with manual := level }
  match (s.chan c).source with
  | .manual => formDesired c s
  | .program => s

end Sys2Proof.Machine
end

