-- ==== Sys2Proof/Machine/Traction.lean ====
section
/-! DEFINITION. The Traction Controller (04): targets, the drive frame's slew and limits, bridge modes, the
classification, cap cuts, and TRC's part of the operating-state entries. -/

namespace Sys2Proof.Machine

/-! ## Targets and bridge modes (R71, R76) -/

/-- What a dig mode makes of an axle that it holds at 0; none for an axle it does not hold (R71). -/
def digHold : Dig → Axle → Option BridgeMode
  | .both, _ => none
  | .frontOnly, .front => none
  | .frontOnly, .rear => some (.shortBrake 1000)
  | .rearOnly, .front => some (.shortBrake 1000)
  | .rearOnly, .rear => none
  | .frontFree, .front => some .bridgeOpen
  | .frontFree, .rear => none
  | .rearFree, .front => none
  | .rearFree, .rear => some .bridgeOpen

/-- R71: the front target before the dig mode acts. -/
def frontTarget (ratio : Nat) (throttle : Int) : Int := clampInt (-1000) 1000 ((throttle * ratio).tdiv 1000)

/-- R71: the target of an axle. -/
def targetOf (ratio : Nat) (t : Trc) (x : Axle) : Int :=
  if t.hold ≠ .none then 0
  else if (digHold t.digInForce x).isSome then 0
  else
    match x with
    | .front => frontTarget ratio t.throttle
    | .rear => t.throttle

/-- R71: both targets formed anew, with the FRONT_RATIO that the last drive frame took up (R67, log 36). -/
def formTargets (s : State) : State :=
  s.modTrc fun t => { t with target := PerAxle.of (targetOf t.ratioInForce t) }

/-- R76: the mode of an axle bridge whose applied duty is 0. -/
def modeAtZero (op : OpState) (drag : Nat) (t : Trc) (x : Axle) : BridgeMode :=
  match op with
  | .parked => .bridgeOpen
  | .tripped => .bridgeOpen
  | .failsafe => .shortBrake 1000
  | .shuttingDown => .shortBrake drag
  | .armed =>
    match digHold t.digInForce x with
    | some m => m
    | none => if t.target.get x ≠ 0 then .bridgeOpen else .shortBrake drag

/-- R76, R68: the mode of an axle bridge. -/
def modeOf (op : OpState) (drag : Nat) (t : Trc) (x : Axle) : BridgeMode :=
  if t.applied.get x ≠ 0 then .drive else modeAtZero op drag t x

/-- R76 on both axles; the DRAG_BRAKE used is then in force (R67, log 20). -/
def chooseModes (s : State) : State :=
  s.modTrc fun t =>
    { t with mode := PerAxle.of (modeOf s.vsc.op s.cfg.trc.dragBrake t), dragInForce := s.cfg.trc.dragBrake }

/-! ## Classification and the braking flag (R77, R78) -/

/-- R77, step 4, for one axle: moving against its target or above it. -/
def axleBraking (applied target : Int) : Bool :=
  decide (applied ≠ 0) && (decide (applied * target < 0) || decide (target.natAbs < applied.natAbs))

/-- Both targets and both applied duties are 0 (R77, step 3). -/
def Trc.still (t : Trc) : Bool :=
  decide (t.target.front = 0) && decide (t.target.rear = 0) &&
    decide (t.applied.front = 0) && decide (t.applied.rear = 0)

/-- R77: the traction state. -/
def classify (op : OpState) (t : Trc) : TractionState :=
  if op = .parked ∨ op = .tripped then .off
  else if t.hold ≠ .none then .held
  else if t.still then .neutral
  else if axleBraking t.applied.front t.target.front || axleBraking t.applied.rear t.target.rear then .braking
  else if 0 < t.throttle then .forward
  else .reverse

/-- The bridge is in SHORT_BRAKE with a strength above 0 (R78). -/
def BridgeMode.brakes : BridgeMode → Bool
  | .drive => false
  | .shortBrake n => decide (0 < n)
  | .bridgeOpen => false

/-- An axle that brakes by R76's FAILSAFE, SHUTTING_DOWN or drag brake cases, not by the dig mode (R78). -/
def brakesByState (op : OpState) (t : Trc) (x : Axle) : Bool :=
  (t.mode.get x).brakes && !(decide (op = .armed) && (digHold t.digInForce x).isSome)

/-- R78: the braking flag. -/
def brakingFlag (op : OpState) (t : Trc) : Bool :=
  match t.state with
  | .braking => true
  | .neutral => decide (0 < t.dragInForce)
  | .held =>
    decide (t.applied.front ≠ 0) || decide (t.applied.rear ≠ 0) ||
      brakesByState op t .front || brakesByState op t .rear
  | .off => false
  | .forward => false
  | .reverse => false

/-- R77, R78: the traction state and the braking flag formed anew. -/
def classifyTraction (s : State) : State :=
  s.modTrc fun t =>
    let t := { t with state := classify s.vsc.op t }
    { t with braking := brakingFlag s.vsc.op t }

/-! ## Publication (R78) -/

/-- TRC has published applied duties: SCN's wait (R26), STC's wake and relax tests (R96, R98) and LTC's
overlay tests (R152) follow. -/
def publishDuties (s : State) : State := overlayTests (steerOnDuties (endWaitOnZero s))

/-! ## The drive frame (R72 to R76) -/

/-- R73, R74: one frame's slew of an applied duty; it does not cross zero. -/
def slewDuty (applied target : Int) (n : Nat) : Int :=
  if applied * target < 0 then approach applied 0 n else approach applied target n

/-- The smaller of an axle's duty cap and the assist cap while assist is active (R75). -/
def axleLimit (s : State) (x : Axle) : Nat :=
  match s.trc.assist with
  | some a => min (s.sup.alloc.dutyCap.get x.bridge) a
  | none => s.sup.alloc.dutyCap.get x.bridge

/-- R75: the limiter of an axle after the slew and the limit. -/
def limiterOf (s : State) (x : Axle) (slewed applied target : Int) : Limiter :=
  if applied = target then .none
  else if slewed.natAbs ≤ axleLimit s x then .slew
  else
    match s.trc.assist with
    | some a => if a < s.sup.alloc.dutyCap.get x.bridge then .assist else .cap
    | none => .cap

/-- R73, steps 2 and 3, for one axle. -/
def slewAxle (x : Axle) (s : State) : State :=
  s.modTrc fun t =>
    let slewed := slewDuty (t.applied.get x) (t.target.get x) s.cfg.trc.throttleSlew
    let a := limitTo (axleLimit s x) slewed
    { t with applied := t.applied.put x a,
             limiter := t.limiter.put x (limiterOf s x slewed a (t.target.get x)) }

/-- R72: the dig requested is taken up. -/
def takeDig (s : State) : State := s.modTrc fun t => { t with digInForce := t.digRequested }

/-- R67, R71: the FRONT_RATIO held is taken up. -/
def takeRatio (s : State) : State := s.modTrc fun t => { t with ratioInForce := s.cfg.trc.frontRatio }

/-- R73: a drive frame in a traction state other than OFF, without the completion test. -/
def driveFrame (s : State) : State :=
  publishDuties (classifyTraction (chooseModes (slewAxle .rear (slewAxle .front
    (formTargets (takeRatio (takeDig s)))))))

/-! ## DRIVE (R70) -/

/-- R70: TRC takes the clamped throttle and the dig mode; `latched` is the latch after the test of R11. -/
def tractionDrive (throttle : Int) (dig : Dig) (latched : Bool) (s : State) : State :=
  classifyTraction (formTargets (s.modTrc fun t =>
    { t with throttle := if latched then 0 else throttle, digRequested := dig,
             hold := if latched then .latch else .none }))

/-! ## Cuts (R79, R86) -/

/-- An axle above a cap is cut down to it, keeping its sign; an axle cut to 0 takes its mode by R76. -/
def cutAxle (x : Axle) (cap : Nat) (why : Limiter) (s : State) : State :=
  if cap < (s.trc.applied.get x).natAbs then
    s.modTrc fun t =>
      let t := { t with applied := t.applied.put x (limitTo cap (t.applied.get x)),
                        limiter := t.limiter.put x why }
      { t with mode := t.mode.put x (modeOf s.vsc.op s.cfg.trc.dragBrake t x) }
  else s

/-- An axle lies above its cap. -/
def anyAbove (capFront capRear : Nat) (s : State) : Bool :=
  decide (capFront < s.trc.applied.front.natAbs) || decide (capRear < s.trc.applied.rear.natAbs)

/-- R79, R86: both axles are cut to their caps; a cut classifies and publishes. -/
def cutAxles (capFront capRear : Nat) (why : Limiter) (s : State) : State :=
  if anyAbove capFront capRear s then
    publishDuties (classifyTraction (cutAxle .rear capRear why (cutAxle .front capFront why s)))
  else s

/-! ## Operating-state entries (R80 to R84) -/

/-- R80: the entry to ARMED from PARKED. -/
def tractionArmed (s : State) : State :=
  publishDuties (classifyTraction (chooseModes (formTargets (takeDig
    (s.modTrc fun t => { t with hold := .latch, throttle := 0 })))))

/-- R80: the entry to ARMED from FAILSAFE, before the recovering DRIVE. -/
def tractionRestored (s : State) : State :=
  classifyTraction (s.modTrc fun t => { t with hold := .latch })

/-- R81: the entry to FAILSAFE. -/
def tractionFailsafe (s : State) : State :=
  publishDuties (classifyTraction (s.modTrc fun t =>
    { t with hold := .failsafe, throttle := 0, target := .both 0, applied := .both 0,
             mode := .both (.shortBrake 1000) }))

/-- R82: the entry to SHUTTING_DOWN; an axle at 0 takes its mode by R76. -/
def tractionShutdown (s : State) : State :=
  publishDuties (classifyTraction (chooseModes (s.modTrc fun t =>
    { t with hold := .shutdown, throttle := 0, target := .both 0 })))

/-- R83, R84: both axle bridges open at once and the traction state OFF. R83 names the hold reason none for
the forced shutdown alone; every entry to PARKED sets it here (log 42). -/
def axlesOpen (t : Trc) : Trc :=
  { t with hold := .none, throttle := 0, target := .both 0, applied := .both 0,
           mode := .both .bridgeOpen, state := .off, braking := false }

/-- R83: an entry to PARKED. -/
def tractionParked (s : State) : State :=
  publishDuties (s.modTrc fun t => { axlesOpen t with limiter := .both .none, winchOpen := false })

/-- R14, step 1, and R83: a forced shutdown opens both axles. -/
def tractionForced (s : State) : State := publishDuties (s.modTrc axlesOpen)

/-- R84: the entry to TRIPPED. -/
def tractionTripped (s : State) : State :=
  publishDuties (s.modTrc fun t => { axlesOpen t with winchOpen := true })

/-! ## Assist (R85, R87) -/

/-- The larger of the two axles' applied duty magnitudes (R85, R139). -/
def largerDuty (s : State) : Nat := max s.trc.applied.front.natAbs s.trc.applied.rear.natAbs

/-- R85: the assist becomes active with the cap that WCH hands over (R139). -/
def assistStart (s : State) : State := s.modTrc fun t => { t with assist := some (largerDuty s) }

/-- R87: the assist becomes inactive and its cap is dropped. -/
def assistEnd (s : State) : State := s.modTrc fun t => { t with assist := none }

end Sys2Proof.Machine
end

