-- ==== Sys2Proof/Machine/Parking.lean ====
section
/-! DEFINITION. Changes of operating state (01 R2), the entry to PARKED (R16) and the completion test of a
shutdown (R13), which the winch's endings make too. -/

namespace Sys2Proof.Machine

/-- R2: the operating state changes and an OPSTATE notice is offered. -/
def changeOp (new : OpState) (cause : OpCause) (s : State) : State :=
  offer (.opstate new s.vsc.op cause) (s.modVsc fun v => { v with op := new })

/-- R128, R16: at an entry to PARKED a clutch move is stopped, and the clutch servo emits no pulse
(R129). -/
def parkClutch (s : State) : State :=
  s.modWch fun w =>
    if w.clutch.moving then { w with clutch := .unknown, clutchTimer := none, pulse := none }
    else { w with pulse := none }

/-- R16 and the entry actions of R34, R83, R101, R128 and R154, after the operating state has changed. -/
def parkedActions (s : State) : State :=
  hazardStop (parkClutch (tractionParked (steerParked (scanWatch s))))

/-- R16: the entry to PARKED with its cause; the latch is set, both timers are stopped and the shutdown
origin is none (R13, R14). -/
def enterParked (cause : OpCause) (s : State) : State :=
  parkedActions (changeOp .parked cause
    (s.modVsc fun v => { v with latch := true, hold := none, grace := none, origin := .none }))

/-- R13: the three conditions of a completed shutdown. -/
def shutdownDone (s : State) : Bool :=
  axlesStopped s && decide ((s.unit 0).state = .idle) && !s.wch.clutch.moving

/-- R13: the completion test. -/
def completionTest (s : State) : State :=
  if s.vsc.op = .shuttingDown ∧ shutdownDone s then enterParked .shutdownComplete s else s

end Sys2Proof.Machine
end

