-- ==== Sys2Proof/Machine/Winch.lean ====
section
/-! DEFINITION. The Winch Controller (07): the clutch, winch steps from hand-over to end, the line position,
stalls, and the endings of the winch program. -/

namespace Sys2Proof.Machine

/-! ## The clutch (R126 to R128) -/

/-- R126: where a step needs the clutch. -/
def clutchNeeded : Action → ClutchState
  | .inward => .engaged
  | .outward => .engaged
  | .assist => .engaged
  | .hold => .engaged
  | .free => .freed

/-- R126: the clutch meets the need of an action; with no CLUTCH_SERVO line, UNKNOWN meets the need for
ENGAGED. -/
def clutchMeets (s : State) (a : Action) : Bool :=
  decide (s.wch.clutch = clutchNeeded a) ||
    (!s.hasLine .clutchServo && decide (s.wch.clutch = .unknown) && decide (clutchNeeded a = .engaged))

/-- R127: a move toward ENGAGED or FREED starts; a move in progress is not restarted. -/
def startClutch (toward : ClutchState) (s : State) : State :=
  if s.wch.clutch.moving then s
  else
    s.modWch fun w =>
      { w with clutch := if toward = .freed then .movingToFree else .movingToEngage,
               clutchTimer := some s.cfg.wch.clutchTime }

/-- R128: the entry to ARMED from PARKED. -/
def clutchArmed (s : State) : State :=
  if s.hasLine .clutchServo && !decide (s.wch.clutch = .engaged) then startClutch .engaged s else s

/-- R127: where a move ends. -/
def ClutchState.arrived : ClutchState → ClutchState
  | .movingToEngage => .engaged
  | .movingToFree => .freed
  | .unknown => .unknown
  | .engaged => .engaged
  | .freed => .freed

/-- R129: the width of the clutch servo pulse; none in UNKNOWN, in PARKED and without the line. -/
def clutchPulse (s : State) : Option Nat :=
  if s.hasLine .clutchServo && !decide (s.vsc.op = .parked) then
    match s.wch.clutch with
    | .engaged => some s.cfg.wch.clutchEngaged
    | .movingToEngage => some s.cfg.wch.clutchEngaged
    | .freed => some s.cfg.wch.clutchFree
    | .movingToFree => some s.cfg.wch.clutchFree
    | .unknown => none
  else none

/-! ## Progress and residual (R120) -/

/-- R120, R143: the progress of a step in hand. -/
def winchProgress (w : Wch) : Nat :=
  match w.step with
  | none => 0
  | some h =>
    match h.step.endOn with
    | .distance _ => w.travel / 10
    | .time _ => w.frames
    | .load _ => w.lastCurrent
    | .fairlead => 0

/-- R120, R140: what is left of the step in hand. -/
def winchResidual (w : Wch) : Nat :=
  match w.step with
  | none => 0
  | some h =>
    match h.step.endOn with
    | .distance mm => mm - w.travel / 10
    | .time n => n - w.frames
    | .load mA => mA - w.lastCurrent
    | .fairlead => 0

/-- The step progress of the winch unit's context, as WCH reports it (R120). -/
def reportProgress (s : State) : State := s.modUnit 0 fun x => { x with progress := winchProgress s.wch }

/-! ## Ending a program (R140) -/

/-- R139, R87: the assist flag is cleared and TRC's assist ends. -/
def assistOff (s : State) : State := assistEnd (s.modWch fun w => { w with assist := false })

/-- The winch's applied duty is set; 0 ends a trigger wait (R26, R125). -/
def setWinchDuty (d : Nat) (s : State) : State := endWaitOnZero (s.modWch fun w => { w with applied := d })

/-- R140: WCH's own part of an ending. -/
def winchIdle (s : State) : State :=
  setWinchDuty 0 (assistOff (s.modWch fun w => { w with state := .idle, stall := none, step := none }))

/-- R140, R119: the winch program ends with a cause. -/
def winchEnd (cause : EndCause) (s : State) : State :=
  let residual := if cause = .complete then 0 else winchResidual s.wch
  winchIdle (endUnit 0 cause residual (s.wch.position / 10) s)

/-- R140, R13: the winch program ends and VSC makes its completion test. -/
def winchEnds (cause : EndCause) (s : State) : State := completionTest (winchEnd cause s)

/-! ## Beginning a step (R132, R133) -/

/-- What a step does after an event: it runs on (or waits), it completes, or the program ends. -/
inductive Verdict where
  | runs
  | completes
  | ends (cause : EndCause)
deriving DecidableEq, Repr

/-- IN and ASSIST haul line in (07 section 7.1). -/
def Action.hauls : Action → Bool
  | .inward => true
  | .assist => true
  | .outward => false
  | .hold => false
  | .free => false

/-- OUT and FREE let line off the drum within a running step (R130, R133). -/
def Action.paysOut : Action → Bool
  | .outward => true
  | .free => true
  | .inward => false
  | .assist => false
  | .hold => false

/-- R133: the winch state that an action begins in. -/
def Action.winchState : Action → WinchState
  | .inward => .runningPowered
  | .outward => .runningPowered
  | .assist => .runningPowered
  | .hold => .holding
  | .free => .freewheel

/-- The greatest line position (07 section 7.4). -/
def positionMax (s : State) : Nat := s.cfg.wch.lineMax * 10

/-- R137: the fairlead's verdict on a step that hauls while the level is active. -/
def fairleadVerdict (e : EndOn) : Verdict := if e = .fairlead then .completes else .ends .fairlead

/-- R133: the tests that a step can fail at its first moment. -/
def beginVerdict (s : State) (r : WinchRec) : Verdict :=
  if r.action.hauls && s.fairleadActive then fairleadVerdict r.endOn
  else if r.action.hauls && decide (s.wch.position = 0) then .ends .fullyIn
  else if r.action.paysOut && decide (positionMax s ≤ s.wch.position) then .ends .lineEnd
  else .runs

/-- The duty of a powered step: min(speed, duty cap) (R133, R134). -/
def poweredDuty (s : State) (r : WinchRec) : Nat := min r.speed s.sup.alloc.dutyCap.winch

/-- R133: the step in hand begins; its tests follow. -/
def beginWinchStep (r : WinchRec) (s : State) : State × Verdict :=
  let s := s.modWch fun w => { w with state := r.action.winchState, stall := none }
  let s := setWinchDuty (if r.action.winchState = .runningPowered then poweredDuty s r else 0) s
  let s := if r.action = .assist then assistStart (s.modWch fun w => { w with assist := true }) else s
  (s, beginVerdict s r)

/-- R132: the winch waits for its clutch. -/
def waitForClutch (s : State) : State :=
  setWinchDuty 0 (assistOff (s.modWch fun w => { w with state := .waitClutch, stall := none }))

/-- R132: PGC hands WCH the record of a slot; a record of another kind does not occur in a walked program
(R110, log 26). -/
def handWinch (slot : Slot) (s : State) : State × Verdict :=
  match s.pgc.store[slot] with
  | .winch r =>
    let s := s.modWch fun w => { w with step := some ⟨slot, r⟩, travel := 0, frames := 0, lastCurrent := 0 }
    if clutchMeets s r.action then beginWinchStep r s
    else (waitForClutch (startClutch (clutchNeeded r.action) s), .runs)
  | .empty => (s, .runs)
  | .light _ => (s, .runs)

/-- What follows a verdict: a completed step's link (R118), whose next step may complete at its beginning
(R133), or the end of the program. `fuel` bounds the steps that one event can begin: links go upward, so
128 is enough (R110). -/
def runWinch : Nat → State × Verdict → State
  | _, (s, .runs) => s
  | _, (s, .ends cause) => winchEnds cause s
  | 0, (s, .completes) => s
  | fuel + 1, (s, .completes) =>
    let s := assistOff s
    let x := s.unit 0
    match followLink x.current s.pgc.store[x.current].link x.loop with
    | .ends loop => winchEnds .complete (s.modUnit 0 fun y => { y with loop := loop })
    | .to slot loop => runWinch fuel (handWinch slot (passTo 0 slot loop s))

/-- A verdict on the step in hand is carried out. -/
def settleWinch (p : State × Verdict) : State := runWinch 128 p

/-- R114: the winch unit starts at its first slot. -/
def startWinch (first : Slot) (s : State) : State := settleWinch (handWinch first s)

/-! ## The line position (R130) -/

/-- The DISTANCE test (R130). -/
def distanceMet (w : Wch) : EndOn → Bool
  | .distance mm => decide (mm * 10 ≤ w.travel)
  | .time _ => false
  | .load _ => false
  | .fairlead => false

/-- R130, step 3: a running stall timer is restarted in RUNNING_POWERED. -/
def restartStall (s : State) : State :=
  if s.wch.state = .runningPowered then
    s.modWch fun w => { w with stall := w.stall.map fun _ => s.cfg.wch.stallTime }
  else s

/-- P moves to a new position; travel counts the change made to it (R130). -/
def movePosition (p : Nat) (s : State) : State :=
  reportProgress (s.modWch fun w =>
    { w with position := p, travel := w.travel + ((p - w.position) + (w.position - p)) })

/-- R130: the tests after a pulse in a running step, in their order. -/
def pulseTests (e : EndOn) (atLimit : Bool) (limitCause : EndCause) (s : State) : State :=
  if distanceMet s.wch e then settleWinch (s, .completes)
  else if atLimit then settleWinch (s, .ends limitCause)
  else restartStall s

/-- P after a pulse that lets line off the drum; it clamps at LINE_MAX (R130). -/
def positionOut (s : State) : Nat := min (s.wch.position + s.cfg.wch.linePerPulse) (positionMax s)

/-- P after a pulse that hauls line in; it clamps at 0 (R130). -/
def positionIn (s : State) : Nat := s.wch.position - s.cfg.wch.linePerPulse

/-- R130: a pulse in a step that hauls. -/
def pulseIn (e : EndOn) (s : State) : State :=
  pulseTests e (decide (positionIn s = 0)) .fullyIn (movePosition (positionIn s) s)

/-- R130: a pulse in a step that lets line off the drum. -/
def pulseOut (e : EndOn) (s : State) : State :=
  pulseTests e (decide (positionOut s = positionMax s)) .lineEnd (movePosition (positionOut s) s)

/-- R130: a drum pulse arrival. -/
def drumPulse (s : State) : State :=
  match s.wch.state, s.wch.step with
  | .runningPowered, some h => if h.step.action.hauls then pulseIn h.step.endOn s else pulseOut h.step.endOn s
  | .freewheel, some h => pulseOut h.step.endOn s
  | _, _ => s.modWch fun w => { w with position := positionOut s }

/-! ## The fairlead (R137) -/

/-- R137: a fairlead change, tested on the accepted level. -/
def fairleadChange (s : State) : State :=
  match s.wch.state, s.wch.step with
  | .runningPowered, some h =>
    if h.step.action.hauls && s.fairleadActive then settleWinch (s, fairleadVerdict h.step.endOn) else s
  | _, _ => s

/-! ## Time, load and stall (R134 to R136, R138) -/

/-- The winch has a step in hand that has begun (R135). -/
def WinchState.begun : WinchState → Bool
  | .runningPowered => true
  | .holding => true
  | .freewheel => true
  | .idle => false
  | .waitClutch => false

/-- R135: the TIME test. -/
def timeMet (w : Wch) : EndOn → Bool
  | .time n => decide (n ≤ w.frames)
  | .distance _ => false
  | .load _ => false
  | .fairlead => false

/-- R135: a light frame counts in a step that has begun and completes a TIME step. -/
def winchTimeFrame (s : State) : State :=
  match s.wch.step with
  | some h =>
    if s.wch.state.begun then
      let s := reportProgress (s.modWch fun w => { w with frames := min (w.frames + 1) 65535 })
      if timeMet s.wch h.step.endOn then settleWinch (s, .completes) else s
    else s
  | none => s

/-- R134: the raise at a light frame. -/
def winchRaise (s : State) : State :=
  match s.wch.state, s.wch.step with
  | .runningPowered, some h => setWinchDuty (poweredDuty s h.step) s
  | _, _ => s

/-- R134, R135: WCH's part of a light frame. -/
def winchFrame (s : State) : State := winchRaise (winchTimeFrame s)

/-- R134, R63: the winch is cut to its new duty cap. -/
def cutWinch (s : State) : State :=
  if s.sup.alloc.dutyCap.winch < s.wch.applied then setWinchDuty s.sup.alloc.dutyCap.winch s else s

/-- R136: the LOAD test. -/
def loadMet (w : Wch) : EndOn → Bool
  | .load mA => decide (mA ≤ w.lastCurrent)
  | .distance _ => false
  | .time _ => false
  | .fairlead => false

/-- R138: the stall timing of a completion. -/
def stallTiming (s : State) : State :=
  s.modWch fun w =>
    if s.cfg.wch.stallCurrent ≤ w.lastCurrent then { w with stall := some (w.stall.getD s.cfg.wch.stallTime) }
    else { w with stall := none }

/-- R136, R138: WCH's part of a scan completion. -/
def winchCompletion (s : State) : State :=
  if s.scn.results.kind = some .continuous ∧ s.wch.state = .runningPowered then
    let s := reportProgress (s.modWch fun w => { w with lastCurrent := s.scn.results.bridge.winch })
    match s.wch.step with
    | some h => if loadMet s.wch h.step.endOn then settleWinch (s, .completes) else stallTiming s
    | none => stallTiming s
  else s

/-! ## Halts (R116, R117, R141, R142) -/

/-- R116, R117: a halt with a cause reaches the winch unit. -/
def winchHalt (cause : EndCause) (s : State) : State :=
  match (s.unit 0).state with
  | .running =>
    if s.wch.clutch.moving then
      s.modUnit 0 fun x => { x with state := .halting, haltCause := some cause }
    else winchEnds cause s
  | .halting => s
  | .idle => s

/-- R117, R142: a trip or a forced shutdown ends a RUNNING or HALTING winch unit at once. -/
def winchKill (cause : EndCause) (s : State) : State :=
  match (s.unit 0).state with
  | .running => winchEnd cause s
  | .halting => winchEnd cause s
  | .idle => s

/-! ## The clutch travel expiry (R127) -/

/-- R127: the winch unit after the clutch has arrived. -/
def afterTravel (s : State) : State :=
  match (s.unit 0).state with
  | .running =>
    match s.wch.state, s.wch.step with
    | .waitClutch, some h =>
      if clutchMeets s h.step.action then settleWinch (beginWinchStep h.step s)
      else startClutch (clutchNeeded h.step.action) s
    | _, _ => s
  | .halting =>
    match (s.unit 0).haltCause with
    | some cause => winchEnds cause s
    | none => s
  | .idle => s

/-- R127, R13: a clutch travel expiry. -/
def clutchArrives (s : State) : State :=
  completionTest (afterTravel (s.modWch fun w => { w with clutch := w.clutch.arrived, clutchTimer := none }))

end Sys2Proof.Machine
end

