-- ==== Sys2Proof/Machine/Vehicle.lean ====
section
/-! DEFINITION. The Vehicle State Controller (01): the entries to ARMED, FAILSAFE, SHUTTING_DOWN and
TRIPPED, the trip causes and the tests at a scan completion. -/

namespace Sys2Proof.Machine

/-! ## Trip causes (01 section 1.7.1) -/

/-- The eight trip causes, in the order of the table. -/
def allCauses : List TripCause :=
  [.short .front, .short .rear, .short .winch, .overtemp .board, .overtemp .front, .overtemp .rear,
   .overtemp .winch, .packOvercurrent]

/-- A cause is a member of the set. -/
def CauseSet.has (c : CauseSet) : TripCause → Bool
  | .short b => c.short.get b
  | .overtemp x => c.overtemp.get x
  | .packOvercurrent => c.packOvercurrent

/-- The set with a cause added. -/
def CauseSet.add (c : CauseSet) : TripCause → CauseSet
  | .short b => { c with short := c.short.put b true }
  | .overtemp x => { c with overtemp := c.overtemp.put x true }
  | .packOvercurrent => { c with packOvercurrent := true }

/-- The set with causes added. -/
def CauseSet.addAll (c : CauseSet) (l : List TripCause) : CauseSet := l.foldl CauseSet.add c

/-! ## Entries -/

/-- R4: an accepted ARM. -/
def enterArmed (s : State) : State :=
  let s := s.modVsc fun v => { v with expiryCount := 0, latch := true, hold := some s.cfg.vsc.holdTime }
  let s := changeOp .armed .arm s
  overlayTests (clutchArmed (tractionArmed (steerArmed (scanContinuous s))))

/-- R8, steps 1 to 4, and the entry actions of R80, R100 and R154. -/
def linkRestored (s : State) : State :=
  let s := s.modVsc fun v => { v with expiryCount := 0, latch := true, hold := some s.cfg.vsc.holdTime }
  let s := changeOp .armed .linkRestored s
  hazardStop (steerUnfreeze (tractionRestored s))

/-- R9: the first hold expiry. -/
def enterFailsafe (s : State) : State :=
  let old := s.vsc.op
  let s := s.modVsc fun v => { v with expiryCount := 1, hold := some s.cfg.vsc.holdTime }
  let s := changeOp .failsafe .linkLost (offer (.failsafe 1 old) s)
  winchHalt .failsafe (hazardStart (tractionFailsafe (steerFailsafe s)))

/-- The ending cause that a shutdown origin gives the winch unit (R12). -/
def Origin.endCause : Origin → EndCause
  | .none => .shutdown
  | .shutdown => .shutdown
  | .failsafe => .failsafe
  | .cutoff => .cutoff

/-- R12: a shutdown begins; the winch is asked last, so that its ending finds the other entry actions made
(log 23). -/
def beginShutdown (origin : Origin) (cause : OpCause) (s : State) : State :=
  let s := s.modVsc fun v => { v with origin := origin, hold := none, grace := some s.cfg.vsc.grace }
  let s := changeOp .shuttingDown cause s
  completionTest (winchHalt origin.endCause (hazardStop (tractionShutdown (steerShutdown s))))

/-- R10: the second hold expiry. -/
def secondExpiry (s : State) : State :=
  let s := s.modVsc fun v => { v with expiryCount := 2 }
  beginShutdown .failsafe .linkLost (offer (.failsafe 2 .failsafe) s)

/-- R19: the entry to TRIPPED, with the causes added and the first of them. -/
def enterTripped (added : List TripCause) (first : TripCause) (s : State) : State :=
  let s := s.modVsc fun v =>
    { v with causes := v.causes.addAll added, firstCause := some first, hold := none, grace := none,
             origin := .none }
  let s := changeOp .tripped .trip (offer (.tripEntered s.vsc.causes first) s)
  winchKill .tripped (hazardStart (tractionTripped (steerTripped s)))

/-- R20: causes that arrive in TRIPPED; only those not yet members are added. -/
def addCauses (added : List TripCause) (s : State) : State :=
  match added.filter fun c => !s.vsc.causes.has c with
  | [] => s
  | first :: rest =>
    let s := s.modVsc fun v => { v with causes := v.causes.addAll (first :: rest) }
    offer (.tripAdded s.vsc.causes first) s

/-- R17, R18: causes arrive in any operating state. -/
def tripWith (added : List TripCause) (s : State) : State :=
  match added with
  | [] => s
  | first :: rest =>
    if s.vsc.op = .tripped then addCauses (first :: rest) s else enterTripped (first :: rest) first s

/-- R17: a comparator's assertion event. -/
def assertShort (b : Bridge) (s : State) : State :=
  tripWith [.short b] (s.modVsc fun v => { v with comparator := v.comparator.put b true })

/-- R14: a grace expiry forces the shutdown. -/
def forceShutdown (s : State) : State :=
  enterParked .shutdownForced (parkClutch (winchKill .forced (tractionForced s)))

/-! ## PARK in TRIPPED (R21) -/

/-- The temperature at or above which a sensor keeps the part in TRIPPED (01 section 1.1.2). -/
def releaseTemp (s : State) : Int := (s.cfg.vsc.tripTemp : Int) - 15

/-- R21: the conditions still present. -/
def presentConditions (s : State) : CauseSet :=
  { short := s.vsc.comparator
    overtemp := PerSensor.of fun x => decide (releaseTemp s ≤ s.scn.results.temp.get x)
    packOvercurrent := false }

/-- R21: an accepted PARK in TRIPPED. -/
def leaveTripped (s : State) : State :=
  enterParked .tripCleared (s.modVsc fun v => { v with causes := .empty, firstCause := none })

/-! ## The tests at a scan completion (R15, R18) -/

/-- R18: the causes that a completion brings, in the order of the table. -/
def completionCauses (s : State) : List TripCause :=
  allCauses.filter fun c =>
    match c with
    | .short _ => false
    | .overtemp x => decide ((s.cfg.vsc.tripTemp : Int) ≤ s.scn.results.temp.get x)
    | .packOvercurrent =>
      decide (s.scn.results.kind = some .continuous) && decide (4 ≤ s.scn.results.overcurrent)

/-- R15: the operating states from which CUTOFF begins a shutdown. -/
def OpState.driven : OpState → Bool
  | .armed => true
  | .failsafe => true
  | .parked => false
  | .shuttingDown => false
  | .tripped => false

/-- R15: the stage test; `became` says that the stage became CUTOFF at this completion. -/
def cutoffTest (became : Bool) (s : State) : State :=
  if became && s.vsc.op.driven then beginShutdown .cutoff .cutoff s else s

/-- R1, R18, R15: VSC's part of a scan completion: the trip test before the stage test. -/
def vehicleCompletion (became : Bool) (s : State) : State :=
  let s := s.modVsc fun v => { v with measured := true }
  match completionCauses s with
  | [] => cutoffTest became s
  | added => tripWith added s

end Sys2Proof.Machine
end

