-- ==== Sys2Proof/Machine/Resets.lean ====
section
/-! DEFINITION. The full reset and the soft reset (00 section 0.4, R1, R176). -/

namespace Sys2Proof.Machine

/-- The functions of the four lines. -/
def lineFns (s : State) : Vector LineFn 4 := Vector.ofFn fun i => s.lmx.lines[i].fn

/-- Every block at its reset value, with the matters on which the two kinds of reset differ as arguments:
the settings, the store, the line functions, the line position, and the operating state that the OPSTATE
notice names as replaced (R2). The comparator levels follow the comparators (R17). -/
def resetTo (cfg : Settings) (store : Vector StepRec 128) (fns : Vector LineFn 4) (position : Nat)
    (old : OpState) (s : State) : State :=
  { vsc := Vsc.atReset s.vsc.comparator
    scn := Scn.atReset cfg.scn
    sup := Sup.atReset cfg.ltc
    trc := Trc.atReset cfg.trc
    stc := Stc.atReset cfg.stc
    pgc := Pgc.atReset store
    wch := Wch.atReset position
    ltc := Ltc.atReset
    lmx := Lmx.atReset fns
    nq := noticesAtReset old
    lnk := Lnk.atReset
    cfg := cfg
    choice := s.choice
    pending := s.pending }

/-- R17: the assertion event of a comparator that is asserted at a reset. -/
def assertedAtReset (b : Bridge) (s : State) : State :=
  if s.vsc.comparator.get b then tripWith [.short b] s else s

/-- A comparator is asserted. -/
def anyAsserted (c : PerBridge Bool) : Bool := c.front || c.rear || c.winch

/-- R17: the assertion events at once after a reset; the order of several is free (log 11). -/
def assertionsAtReset (s : State) : State :=
  if anyAsserted s.vsc.comparator then
    runOrder (Config.order s.choice) (assertedAtReset .front) (assertedAtReset .rear)
      (assertedAtReset .winch) s.nextChoice
  else s

/-- R1: a full reset; the OPSTATE notice gives PARKED as the state replaced (R2). -/
def fullReset (s : State) : State :=
  assertionsAtReset
    (resetTo Settings.default (Vector.replicate 128 .empty) (Vector.replicate 4 .off) 0 .parked s)

/-- R1, R176: a soft reset keeps the settings, the store (R103), the line functions (R165) and the line
position (R123). -/
def softReset (s : State) : State :=
  assertionsAtReset (resetTo s.cfg s.pgc.store (lineFns s) s.wch.position s.vsc.op s)

end Sys2Proof.Machine
end

