-- ==== Sys2Proof/Machine/Lines.lean ====
section
/-! DEFINITION. The Line Matrix (09 section 9.4): functions, sampling and debounce, and the hand-out of
accepted changes. -/

namespace Sys2Proof.Machine

/-- The four auxiliary lines. -/
def allLines : List (Fin 4) := [0, 1, 2, 3]

/-- The function makes the line an input that is sampled (R167). -/
def LineFn.sampled : LineFn → Bool
  | .generalInput => true
  | .drumPulse => true
  | .fairlead => true
  | .off => false
  | .clutchServo => false

/-- At most one line may hold the function (09 section 9.4.1). -/
def LineFn.single : LineFn → Bool
  | .drumPulse => true
  | .fairlead => true
  | .clutchServo => true
  | .off => false
  | .generalInput => false

/-- The level that a light frame finds at a line. -/
def pinLevel (p : PinLevels) (i : Fin 4) : Level :=
  if i = 0 then p.aux0 else if i = 1 then p.aux1 else if i = 2 then p.aux2 else p.aux3

/-- R167: a line after a sample. -/
def Line.take (l : Line) (level : Level) : Line :=
  if l.fn.sampled then
    match l.sample with
    | none => { l with sample := some level, accepted := level }
    | some last =>
      if level = last ∧ level ≠ l.accepted then { l with accepted := level }
      else { l with sample := some level }
  else l

/-- R167: a sample is an accepted change. -/
def Line.accepts (l : Line) (level : Level) : Bool :=
  l.fn.sampled && decide (l.sample = some level) && decide (level ≠ l.accepted)

/-- R167: the lines after the samples of a light frame. -/
def sampleLines (pins : PinLevels) (s : State) : State :=
  s.modLmx fun m => { m with lines := Vector.ofFn fun i => m.lines[i].take (pinLevel pins i) }

/-- R168: the accepted levels of the four lines. -/
def acceptedLevels (s : State) : Vector Level 4 := Vector.ofFn fun i => s.lmx.lines[i].accepted

/-- R168: a change on a GENERAL_INPUT line sets its flag and offers a LINE notice. -/
def generalChange (i : Fin 4) (s : State) : State :=
  offer (.line (Vector.ofFn fun k => decide (k = i)) (acceptedLevels s))
    (s.modLmx fun m => { m with changed := m.changed.set i true })

/-- R167: an accepted change is handed to the user of a function. -/
def handChange (fn : LineFn) (level : Level) (i : Fin 4) (s : State) : State :=
  match fn with
  | .drumPulse => match level with
    | .low => drumPulse s
    | .high => s
  | .fairlead => fairleadChange s
  | .generalInput => generalChange i s
  | .off => s
  | .clutchServo => s

/-- The lines of a function that accepted a change are handed out; `before` is the state before the
samples. -/
def handOut (before : State) (pins : PinLevels) (fn : LineFn) (s : State) : State :=
  allLines.foldl (fun s i =>
    if before.lmx.lines[i].fn = fn ∧ before.lmx.lines[i].accepts (pinLevel pins i) then
      handChange fn (pinLevel pins i) i s
    else s) s

/-- R167: LMX's part of a light frame; the order of the three kinds of change is free (log 10). -/
def linesFrame (order : Order3) (pins : PinLevels) (s : State) : State :=
  runOrder order (handOut s pins .drumPulse) (handOut s pins .fairlead) (handOut s pins .generalInput)
    (sampleLines pins s)

/-- R166: a line with a new function; an input line is then seeded at the next light frame. -/
def Line.given (l : Line) (fn : LineFn) : Line :=
  if fn.sampled then { fn := fn, sample := none, accepted := .high } else { l with fn := fn }

/-- R166: the new function is given to a line; the clutch state becomes UNKNOWN when it gains or loses
CLUTCH_SERVO (R126). A request that names the function held changes nothing. -/
def assignLine (i : Fin 4) (fn : LineFn) (s : State) : State :=
  let old := s.lmx.lines[i].fn
  if old = fn then s
  else
    let s := s.modLmx fun m => { m with lines := m.lines.set i (m.lines[i].given fn) }
    if old = .clutchServo ∨ fn = .clutchServo then s.modWch fun w => { w with clutch := .unknown } else s

/-- R166, check 6: another line that holds a function that only one may hold. -/
def holderOf (i : Fin 4) (fn : LineFn) (s : State) : Option (Fin 4) :=
  if fn.single then allLines.find? fun k => decide (k ≠ i) && decide (s.lmx.lines[k].fn = fn) else none

end Sys2Proof.Machine
end

