-- ==== Sys2Proof/Machine/Supply.lean ====
section
/-! DEFINITION. The Supply Supervisor (03): the stage, the ceiling, the allocation and the caps, computed at
each scan completion (R44), and their publication with its cuts (R63). -/

namespace Sys2Proof.Machine

/-! ## The stage (R45 to R48) -/

/-- R45: the cutoff confirmation count after a completion with minimum filtered cell `f`. -/
def cutoffCountNext (cutoffLevel f count : Nat) : Nat := if f < cutoffLevel then min (count + 1) 255 else 0

/-- The severity of a stage, in rising order (03 section 3.1). -/
def Stage.severity : Stage → Nat
  | .normal => 0
  | .caution => 1
  | .reserve => 2
  | .cutoff => 3

/-- The more severe of two stages (R46). -/
def Stage.worse (a b : Stage) : Stage := if a.severity < b.severity then b else a

/-- R46: the escalation stage. -/
def escalation (cfg : SupCfg) (f : Nat) : Stage :=
  if f < cfg.reserveLevel then .reserve else if f < cfg.cautionLevel then .caution else .normal

/-- NORMAL at or above the release point of CAUTION, CAUTION below it (R46, R48). -/
def releasedStage (cfg : SupCfg) (f : Nat) : Stage :=
  if cfg.cautionLevel + cfg.hyst ≤ f then .normal else .caution

/-- R46: the release stage, from the stage held. R48 gives CUTOFF's. -/
def release (cfg : SupCfg) (held : Stage) (f : Nat) : Stage :=
  match held with
  | .normal => .normal
  | .caution => releasedStage cfg f
  | .reserve => if f < cfg.reserveLevel + cfg.hyst then .reserve else releasedStage cfg f
  | .cutoff => if f < cfg.reserveLevel + cfg.hyst then .cutoff else releasedStage cfg f

/-- R45 to R48: the stage after a completion, from the stage held and the count after the update. -/
def stageNext (cfg : SupCfg) (held : Stage) (count f : Nat) : Stage :=
  match held with
  | .cutoff => release cfg .cutoff f
  | held => if cfg.cutoffConfirm ≤ count then .cutoff else (escalation cfg f).worse (release cfg held f)

/-! ## The ceiling (R50 to R52) -/

/-- R50: the stage base in mA. -/
def stageBase (packLimit : Nat) : Stage → Nat
  | .normal => packLimit
  | .caution => packLimit * 3 / 4
  | .reserve => packLimit / 4
  | .cutoff => 0

/-- R51: the sag factor, in two-hundredths. -/
def sagFactor (sagFloor minRaw : Nat) : Nat := min (minRaw - sagFloor) 200

/-- R51: the raw ceiling. -/
def rawCeilingOf (base sag : Nat) : Nat := base * sag / 200

/-- R52: the ceiling falls at once and climbs by at most 2 000 mA. -/
def ceilingNext (raw previous : Nat) : Nat := if raw ≤ previous then raw else min raw (previous + 2000)

/-! ## The allocation (R57) -/

/-- What a class is granted: the residual it was served from, the total of its demands, and so its members'
grants. -/
structure ClassShare where
  residual : Nat
  total : Nat
deriving DecidableEq, Repr

/-- R57: the class is granted in full. -/
def ClassShare.full (k : ClassShare) : Bool := decide (k.total ≤ k.residual)

/-- R57: the grant of a member, from its demand. -/
def ClassShare.grant (k : ClassShare) (demand : Nat) : Nat :=
  if k.full then demand else k.residual * demand / k.total

/-- The light channels of a class (R55). -/
def classChans (cfg : LtcCfg) (c : LightClass) : List Chan := allChans.filter fun i => cfg.chan[i].cls = c

/-- The sum of a quantity over channels. -/
def sumChans (l : List Chan) (f : Chan → Nat) : Nat := (l.map f).sum

/-- The sum of the three bridges' values. -/
def PerBridge.total (v : PerBridge Nat) : Nat := v.front + v.rear + v.winch

/-- The four classes' shares (R57), and what is left of the residual after class D. -/
structure Shares where
  a : ClassShare
  b : ClassShare
  c : ClassShare
  d : ClassShare
  unassigned : Nat
deriving DecidableEq, Repr

/-- R57: the classes are served in the order A, B, C, D; each residual is reduced by the grants made. -/
def shareOut (cfg : LtcCfg) (ceiling : Nat) (demand : Consumers Nat) : Shares :=
  let ess := classChans cfg .essential
  let dec := classChans cfg .decorative
  let a : ClassShare := ⟨ceiling, demand.servo⟩
  let b : ClassShare := ⟨a.residual - a.grant demand.servo, sumChans ess fun i => demand.light[i]⟩
  let c : ClassShare :=
    ⟨b.residual - sumChans ess fun i => b.grant demand.light[i], demand.bridge.total⟩
  let d : ClassShare :=
    ⟨c.residual - (PerBridge.of fun x => c.grant (demand.bridge.get x)).total,
     sumChans dec fun i => demand.light[i]⟩
  { a := a, b := b, c := c, d := d,
    unassigned := d.residual - sumChans dec fun i => d.grant demand.light[i] }

/-- The share of a light channel's class (R55). -/
def Shares.light (k : Shares) (c : LightClass) : ClassShare :=
  match c with
  | .essential => k.b
  | .decorative => k.d

/-- R57: the grants of all consumers. -/
def grantsOf (cfg : LtcCfg) (k : Shares) (demand : Consumers Nat) : Consumers Nat :=
  { servo := k.a.grant demand.servo
    light := Vector.ofFn fun i => (k.light cfg.chan[i].cls).grant demand.light[i]
    bridge := PerBridge.of fun x => k.c.grant (demand.bridge.get x) }

/-! ## The caps (R59 to R62) -/

/-- R59: the budget duty cap of a bridge. -/
def budgetDuty (k : ClassShare) (grant rated : Nat) : Nat :=
  if k.full then 1000 else clampNat 0 1000 (grant * 1000 / rated)

/-- R60: a bridge's derate flag, from its temperature. -/
def derateNext (warn : Nat) (flag : Bool) (temp : Int) : Bool :=
  if flag then !decide (temp < (warn : Int) - 10) else decide ((warn : Int) ≤ temp)

/-- The temperature sensor of a bridge (R60). -/
def bridgeTemp (t : PerSensor Int) : Bridge → Int
  | .front => t.front
  | .rear => t.rear
  | .winch => t.winch

/-- R60: the duty cap of a bridge. -/
def dutyCapOf (stage : Stage) (derated : Bool) (budget : Nat) : Nat :=
  if stage = .reserve ∨ derated then min budget 500 else budget

/-- R61: the budget cap of a light channel. -/
def budgetLight (k : ClassShare) (grant rated : Nat) : Nat :=
  if rated = 0 then 255 else if k.full then 255 else clampNat 0 255 (grant * 255 / rated)

/-- R62: the stage cap of a light channel. -/
def stageLight : Stage → LightClass → Nat
  | .normal, _ => 255
  | .caution, .essential => 255
  | .caution, .decorative => 128
  | .reserve, .essential => 128
  | .reserve, .decorative => 0
  | .cutoff, _ => 0

/-! ## The computation (R44) -/

/-- R44, steps 2 to 5: the allocation of a completion in a stage, from the previous one. -/
def allocate (cfg : Settings) (stage : Stage) (r : ScanResults) (demand : Consumers Nat) (old : Allocation) :
    Allocation :=
  let base := stageBase cfg.sup.packLimit stage
  let sag := sagFactor cfg.sup.sagFloor r.minRaw
  let raw := rawCeilingOf base sag
  let ceiling := ceilingNext raw old.ceiling
  let k := shareOut cfg.ltc ceiling demand
  let grant := grantsOf cfg.ltc k demand
  let derate : PerBridge Bool :=
    PerBridge.of fun b => derateNext cfg.sup.warnTemp (old.derate.get b) (bridgeTemp r.temp b)
  { ceiling := ceiling, base := base, sag := sag, rawCeiling := raw, demand := demand, grant := grant,
    unassigned := k.unassigned,
    dutyCap := PerBridge.of fun b =>
      dutyCapOf stage (derate.get b) (budgetDuty k.c (grant.bridge.get b) (cfg.sup.rated.get b))
    derate := derate
    budgetCap := Vector.ofFn fun i =>
      budgetLight (k.light cfg.ltc.chan[i].cls) grant.light[i] cfg.ltc.chan[i].rated
    stageCap := Vector.ofFn fun i => stageLight stage cfg.ltc.chan[i].cls }

/-- R44: SUP's record after a completion. -/
def supNext (s : State) : Sup :=
  let r := s.scn.results
  let count := cutoffCountNext s.cfg.sup.cutoffLevel r.minFiltered s.sup.cutoffCount
  let stage := stageNext s.cfg.sup s.sup.stage count r.minFiltered
  { stage := stage, assessed := true, cutoffCount := count,
    alloc := allocate s.cfg stage r s.demands s.sup.alloc }

/-- R49: a STAGE notice is offered if the stage has changed. -/
def stageNotice (old : Stage) (s : State) : State :=
  if s.sup.stage = old then s
  else offer (.stage s.sup.stage old s.scn.results.minFiltered s.sup.alloc.ceiling) s

/-- R13, R79, R86: the axles are cut to their caps; a cut makes the completion test. -/
def cutAndTest (capFront capRear : Nat) (why : Limiter) (s : State) : State :=
  if anyAbove capFront capRear s then completionTest (cutAxles capFront capRear why s) else s

/-- R63, R79: the consumers above their new caps are cut. -/
def cutConsumers (s : State) : State :=
  let cap := s.sup.alloc.dutyCap
  cutAndTest cap.front cap.rear .cap (cutLights (cutWinch s))

/-- The stage has become CUTOFF (R15, R47). -/
def becameCutoff (old : Stage) (s : State) : Bool := decide (s.sup.stage = .cutoff) && !decide (old = .cutoff)

/-- R44, R49, R63, R117: SUP's part of a scan completion; the endings of light units stand behind the STAGE
notice. DESIGN CHOICE (log 49): both are offered before the OPSTATE notice of a shutdown that a cap cut of the same
publication completes (R13), which R49's order does not place. -/
def supplyCompletion (s : State) : State :=
  let old := s.sup.stage
  let s := stageNotice old (s.modSup fun _ => supNext s)
  let s := if becameCutoff old s then cutoffLights s else s
  cutConsumers s

end Sys2Proof.Machine
end

