-- ==== Sys2Proof/Machine/Frames.lean ====
section
/-! DEFINITION. The part's own events: conversions and the scan completion, the drive, servo and light
frames, and the expiries. An event whose condition does not hold changes nothing (log 2). -/

namespace Sys2Proof.Machine

/-! ## Scan completion (R32) -/

/-- R86, R79: the step of the assist cap; a fall cuts the axles to it, and a cut in SHUTTING_DOWN makes the
completion test (R13). -/
def assistStep (s : State) : State :=
  match s.trc.assist with
  | some cap =>
    if s.scn.results.kind = some .continuous then
      if s.scn.results.bridge.winch < s.cfg.trc.slackLevel then
        let cap := cap - 50
        cutAndTest cap cap .assist (s.modTrc fun t => { t with assist := some cap })
      else s.modTrc fun t => { t with assist := some (min (cap + 25) 1000) }
    else s
  | none => s

/-- R44, R15, R18: SUP computes, then VSC reads the stage that SUP has just published. In SHUTTING_DOWN a
cut that brings both axles to 0 completes the shutdown (R13, R79) before a trip cause of the same completion
is taken, which then trips the part from PARKED: the spec leaves the order of the two open (log 40). -/
def supplyAndVehicle (s : State) : State :=
  let old := s.sup.stage
  let s' := supplyCompletion s
  vehicleCompletion (becameCutoff old s') s'

/-- R32: the completed scan is presented to SUP and VSC, to TRC and to WCH, in an order that the spec leaves
free (log 9). -/
def completionEvent (order : Order3) (s : State) : State :=
  runOrder order supplyAndVehicle assistStep winchCompletion s

/-- R32: the end of the conversion of slot 12. -/
def completeScan (c : Scan) (s : State) : State :=
  completionEvent (Config.order s.choice) (scanComplete c s).nextChoice

/-! ## Conversions (R23, R26, R27) -/

/-- R23: the code is placed in the working results and the next slot is reached, or the scan completes. -/
def conversionEnd (code : Code) (s : State) : State :=
  match s.scn.scan, s.scn.wait with
  | some c, none =>
    let c := { c with codes := c.codes.set c.slot (some code) }
    match nextSlot c.kind c.slot with
    | some k => s.modScn fun n => { n with scan := some { c with slot := k }, wait := waitAt s k }
    | none => completeScan c s
  | _, _ => s

/-- R26, R27: a trigger starts the conversion that waits for its bridge and is ignored otherwise. -/
def bridgeTrigger (b : Bridge) (s : State) : State :=
  if s.scn.wait = some b then s.modScn fun n => { n with wait := none } else s

/-- R35: the watch interval timer restarts; a watch scan starts if no scan is in progress. -/
def watchExpiry (s : State) : State :=
  match s.scn.watchTimer with
  | none => s
  | some _ =>
    let s := s.modScn fun n => { n with watchTimer := some s.cfg.scn.watchInterval }
    match s.scn.scan with
    | none => startScan s
    | some _ => s

/-! ## Vehicle events -/

/-- R17: a comparator that stays asserted gives no further event. -/
def comparatorAsserts (b : Bridge) (s : State) : State :=
  if s.vsc.comparator.get b then s else assertShort b s

/-- R17: a comparator de-asserts; the cause stays in the set. -/
def comparatorDeasserts (b : Bridge) (s : State) : State :=
  s.modVsc fun v => { v with comparator := v.comparator.put b false }

/-- R7, R9, R10: a hold expiry; a stopped timer has none. -/
def holdExpiry (s : State) : State :=
  match s.vsc.hold with
  | none => s
  | some _ =>
    match s.vsc.op with
    | .armed => enterFailsafe s
    | .failsafe => secondExpiry s
    | .parked => s
    | .shuttingDown => s
    | .tripped => s

/-- R14: a grace expiry taken in SHUTTING_DOWN. -/
def graceExpiry (s : State) : State :=
  match s.vsc.grace with
  | none => s
  | some _ => if s.vsc.op = .shuttingDown then forceShutdown s else s

/-! ## Frames -/

/-- R73, R13: a drive frame expiry; in OFF the frame does nothing. -/
def driveFrameExpiry (s : State) : State :=
  if s.trc.state = .off then s else completionTest (driveFrame s)

/-- R93, R129, R92: a servo frame expiry. -/
def servoFrameExpiry (s : State) : State :=
  restartServoTimer ((steerFrame s).modWch fun w => { w with pulse := clutchPulse s })

/-- R97: a relax timer expiry, taken in ARMED with the outputs PULSING. From here on the output pulses are
equal to the targets, those of an output that still slews included (05 section 5.3.1, log 39). -/
def relaxExpiry (s : State) : State :=
  match s.stc.relax with
  | none => s
  | some _ =>
    if s.vsc.op = .armed ∧ s.stc.out = .pulsing then
      s.modStc fun t => { t with out := .relaxed, relax := none, output := t.target }
    else s

/-- R127: a clutch travel expiry. -/
def clutchExpiry (s : State) : State :=
  match s.wch.clutchTimer with
  | none => s
  | some _ => clutchArrives s

/-- R138: a stall timer expiry, taken in RUNNING_POWERED. -/
def stallExpiry (s : State) : State :=
  match s.wch.stall with
  | none => s
  | some _ => if s.wch.state = .runningPowered then winchEnds .stall s else s

/-- R146, R134, R135, R167: a light frame: LTC, WCH and LMX act on their own states, in an order that the
spec leaves free, and so is the order of the changes that LMX hands out (log 10). -/
def lightFrame (blocks changes : Order3) (pins : PinLevels) (s : State) : State :=
  runOrder blocks lightsFrame winchFrame (linesFrame changes pins) s

/-- R146: a light frame expiry. -/
def lightFrameExpiry (pins : PinLevels) (s : State) : State :=
  lightFrame (Config.order s.choice) (Config.order (s.choice + 1)) pins s.nextChoice.nextChoice

end Sys2Proof.Machine
end

