-- ==== Sys2Proof/Machine/Operands.lean ====
section
/-! DEFINITION. The wire: numbers in bytes (11 R179), the codes of named values (11 R181), the records of
11 section 11.3, the check byte (10 R169) and the frame of a reply (11 section 11.2). -/

namespace Sys2Proof.Machine

/-! ## Numbers (R179) -/

/-- A field of one byte. -/
def u8 (n : Nat) : List Byte := [BitVec.ofNat 8 n]

/-- A field of two bytes, least significant first. -/
def u16 (n : Nat) : List Byte := [BitVec.ofNat 8 n, BitVec.ofNat 8 (n / 256)]

/-- A field of four bytes, least significant first. -/
def u32 (n : Nat) : List Byte := u16 n ++ u16 (n / 65536)

/-- A signed field of two bytes, two's complement. -/
def i16 (x : Int) : List Byte := u16 (BitVec.ofInt 16 x).toNat

/-- An axle's applied duty in two bytes (R179). The field is unsigned; what it holds for a duty below 0 is
free (log 33). -/
def dutyField (d : Int) : List Byte :=
  u16 (if 0 ≤ d then d.toNat else (Config.negativeDuty d).toNat)

/-- A flag: 0 clear or stopped, 1 set or running. -/
def flagByte (b : Bool) : List Byte := u8 b.toNat

/-- A named value that may be absent: its code, or 0xFF. -/
def optCode {α : Type} (code : α → Nat) : Option α → List Byte
  | some a => u8 (code a)
  | none => u8 0xFF

/-- A two-byte unsigned request field. -/
def read16 (low high : Byte) : Nat := low.toNat + 256 * high.toNat

/-- A two-byte signed request field, read in full before it is clamped (R179). -/
def readInt16 (low high : Byte) : Int := (BitVec.ofNat 16 (read16 low high)).toInt

/-- A mask: bit n stands for the n-th flag. -/
def maskOf (flags : List Bool) : Nat := flags.foldr (fun b n => b.toNat + 2 * n) 0

/-- A per-axle field, FRONT then REAR. -/
def perAxle {α : Type} (f : α → List Byte) (v : PerAxle α) : List Byte := f v.front ++ f v.rear

/-- A per-bridge field, FRONT, REAR, WINCH. -/
def perBridge {α : Type} (f : α → List Byte) (v : PerBridge α) : List Byte :=
  f v.front ++ f v.rear ++ f v.winch

/-! ## Codes (R181) -/

/-- Operating state. -/
def OpState.code : OpState → Nat
  | .parked => 0
  | .armed => 1
  | .failsafe => 2
  | .shuttingDown => 3
  | .tripped => 4

/-- OPSTATE cause. -/
def OpCause.code : OpCause → Nat
  | .reset => 0
  | .arm => 1
  | .linkLost => 2
  | .linkRestored => 3
  | .park => 4
  | .cutoff => 5
  | .shutdownComplete => 6
  | .shutdownForced => 7
  | .trip => 8
  | .tripCleared => 9

/-- Trip cause: mask bit and first cause. -/
def TripCause.code : TripCause → Nat
  | .short .front => 0
  | .short .rear => 1
  | .short .winch => 2
  | .overtemp .board => 3
  | .overtemp .front => 4
  | .overtemp .rear => 5
  | .overtemp .winch => 6
  | .packOvercurrent => 7

/-- The mask of a set of trip causes. -/
def CauseSet.mask (c : CauseSet) : Nat := maskOf (allCauses.map c.has)

/-- Shutdown origin. -/
def Origin.code : Origin → Nat
  | .none => 0
  | .shutdown => 1
  | .failsafe => 2
  | .cutoff => 3

/-- Completion kind; none is 0. -/
def scanKindCode : Option ScanMode → Nat
  | none => 0
  | some .continuous => 1
  | some .watch => 2

/-- Sensor. -/
def Sensor.code : Sensor → Nat
  | .board => 0
  | .front => 1
  | .rear => 2
  | .winch => 3

/-- Traction state. -/
def TractionState.code : TractionState → Nat
  | .off => 0
  | .neutral => 1
  | .forward => 2
  | .reverse => 3
  | .braking => 4
  | .held => 5

/-- Hold reason. -/
def HoldReason.code : HoldReason → Nat
  | .none => 0
  | .latch => 1
  | .failsafe => 2
  | .shutdown => 3

/-- Limiter. -/
def Limiter.code : Limiter → Nat
  | .none => 0
  | .slew => 1
  | .cap => 2
  | .assist => 3

/-- Dig mode. -/
def Dig.code : Dig → Nat
  | .both => 0
  | .frontOnly => 1
  | .rearOnly => 2
  | .frontFree => 3
  | .rearFree => 4

/-- The dig mode of a request byte; none for an unknown one. -/
def digOf (b : Byte) : Option Dig :=
  match b.toNat with
  | 0 => some .both
  | 1 => some .frontOnly
  | 2 => some .rearOnly
  | 3 => some .frontFree
  | 4 => some .rearFree
  | _ => none

/-- Bridge mode. -/
def BridgeMode.code : BridgeMode → Nat
  | .drive => 0
  | .shortBrake _ => 1
  | .bridgeOpen => 2

/-- The short-brake strength; 0 for a mode that has none (R180). -/
def BridgeMode.strength : BridgeMode → Nat
  | .drive => 0
  | .shortBrake n => n
  | .bridgeOpen => 0

/-- Direction. -/
def Direction.code : Direction → Nat
  | .none => 0
  | .forward => 1
  | .reverse => 2

/-- Steering mode. -/
def SteerMode.code : SteerMode → Nat
  | .front => 0
  | .rear => 1
  | .crab => 2
  | .counter => 3
  | .blend => 4

/-- The steering mode of a request byte; none for an unknown one. -/
def steerModeOf (b : Byte) : Option SteerMode :=
  match b.toNat with
  | 0 => some .front
  | 1 => some .rear
  | 2 => some .crab
  | 3 => some .counter
  | 4 => some .blend
  | _ => none

/-- Output state. -/
def OutState.code : OutState → Nat
  | .stopped => 0
  | .pulsing => 1
  | .relaxed => 2
  | .held => 3

/-- Action. -/
def Action.code : Action → Nat
  | .inward => 0
  | .outward => 1
  | .hold => 2
  | .free => 3
  | .assist => 4

/-- End-on. -/
def EndOn.code : EndOn → Nat
  | .distance _ => 0
  | .time _ => 1
  | .load _ => 2
  | .fairlead => 3

/-- Unit state. -/
def UnitState.code : UnitState → Nat
  | .idle => 0
  | .running => 1
  | .halting => 2

/-- Ending cause. -/
def EndCause.code : EndCause → Nat
  | .complete => 0
  | .halted => 1
  | .stall => 2
  | .lineEnd => 3
  | .fullyIn => 4
  | .fairlead => 5
  | .failsafe => 6
  | .shutdown => 7
  | .tripped => 8
  | .cutoff => 9
  | .forced => 10

/-- Walk detail. -/
def WalkDetail.code : WalkDetail → Nat
  | .runsOffEnd => 0
  | .tooLong => 1
  | .emptyStep => 2
  | .wrongKind => 3
  | .gotoInWinch => 4
  | .badPair => 5
  | .noDrumLine => 6
  | .noFairleadLine => 7
  | .noClutchLine => 8
  | .badTarget => 9

/-- Winch state. -/
def WinchState.code : WinchState → Nat
  | .idle => 0
  | .runningPowered => 1
  | .holding => 2
  | .freewheel => 3
  | .waitClutch => 4

/-- Clutch state. -/
def ClutchState.code : ClutchState → Nat
  | .unknown => 0
  | .engaged => 1
  | .freed => 2
  | .movingToEngage => 3
  | .movingToFree => 4

/-- Source. -/
def Source.code : Source → Nat
  | .manual => 0
  | .program => 1

/-- Overlay state. -/
def Overlay.code : Overlay → Nat
  | .idle => 0
  | .on => 1
  | .blink _ => 2
  | .hazard => 3

/-- Line function. -/
def LineFn.code : LineFn → Nat
  | .off => 0
  | .generalInput => 1
  | .drumPulse => 2
  | .fairlead => 3
  | .clutchServo => 4

/-- The line function of a request byte; none for an unknown one. -/
def lineFnOf (b : Byte) : Option LineFn :=
  match b.toNat with
  | 0 => some .off
  | 1 => some .generalInput
  | 2 => some .drumPulse
  | 3 => some .fairlead
  | 4 => some .clutchServo
  | _ => none

/-- Reason of a refusal. -/
def Reason.code : Reason → Nat
  | .unknownKind => 0x01
  | .badLength => 0x02
  | .badValue => 0x03
  | .notParked => 0x04
  | .notArmed => 0x05
  | .tripped => 0x06
  | .lowBattery => 0x07
  | .measuring => 0x08
  | .cellsMismatch => 0x09
  | .badProgram => 0x0A
  | .inUse => 0x0B
  | .noLine => 0x0C

/-- Detail of a DONE reply. -/
def Detail.code : Detail → Nat
  | .none => 0x00
  | .applied => 0x20
  | .modePending => 0x21
  | .deferred => 0x22
  | .quiet => 0x23
  | .ended => 0x24
  | .halting => 0x25
  | .empty => 0x26
  | .opstate => 0x31
  | .trip => 0x32
  | .failsafe => 0x33
  | .stage => 0x34
  | .watch => 0x35
  | .line => 0x36

/-- OUTCOME. -/
def ReplyOutcome.code : ReplyOutcome → Nat
  | .done _ => 0x00
  | .status => 0x01
  | .busy => 0x02
  | .refused _ => 0x03

/-- DETAIL: the reason of a refusal, UNIT_ENDED for STATUS, NONE for BUSY (R173, R181). -/
def ReplyOutcome.detail : ReplyOutcome → Nat
  | .done d => d.code
  | .status => 0x30
  | .busy => 0x00
  | .refused r => r.code

/-- Stage. -/
def Stage.code : Stage → Nat
  | .normal => 0
  | .caution => 1
  | .reserve => 2
  | .cutoff => 3

/-- HIGH is 1 in a mask of levels (11 section 11.3.3). -/
def Level.isHigh : Level → Bool
  | .high => true
  | .low => false

/-! ## Records (11 sections 11.3.1 to 11.3.3) -/

/-- A loop counter (R179). -/
def LoopCounter.wire : LoopCounter → Nat
  | .notLoaded => 0xFFFE
  | .forever => 0xFFFF
  | .count n => n

/-- The link's code. -/
def Link.code : Link → Nat
  | .stop => 0
  | .next => 1
  | .goto _ _ => 2

/-- The goto target of a link; 0 for another link (R104). -/
def Link.target : Link → Nat
  | .stop => 0
  | .next => 0
  | .goto t _ => t.val

/-- The loop count of a link; 0 for another link (R104). -/
def Link.loops : Link → Nat
  | .stop => 0
  | .next => 0
  | .goto _ n => n

/-- The amount of an end-on; 0 for FAIRLEAD (R104). -/
def EndOn.amount : EndOn → Nat
  | .distance mm => mm
  | .time n => n
  | .load mA => mA
  | .fairlead => 0

/-- 11 section 11.3.1: a step record in eight bytes. -/
def StepRec.bytes : StepRec → List Byte
  | .empty => List.replicate 8 0
  | .light r =>
    u8 (1 + 16 * r.link.code) ++ u8 r.link.target ++ u8 r.link.loops ++ u8 r.level ++ u16 r.fade ++ u16 r.hold
  | .winch r =>
    u8 (2 + 16 * r.link.code) ++ u8 r.link.target ++ u8 r.link.loops ++
      u8 (r.action.code + 16 * r.endOn.code) ++ u16 r.speed ++ u16 r.endOn.amount

/-- The link that bytes 0 to 2 of a record name; none for an unknown link or a goto target above 127
(R105). -/
def linkOf (code : Nat) (target loops : Byte) : Option Link :=
  match code with
  | 0 => some .stop
  | 1 => some .next
  | 2 => if h : target.toNat < 128 then some (.goto ⟨target.toNat, h⟩ loops.toNat) else none
  | _ => none

/-- The action of a code. -/
def actionOf : Nat → Option Action
  | 0 => some .inward
  | 1 => some .outward
  | 2 => some .hold
  | 3 => some .free
  | 4 => some .assist
  | _ => none

/-- The end-on of a code with its amount clamped to its range (R106). -/
def endOnOf (code amount : Nat) : Option EndOn :=
  match code with
  | 0 => some (.distance (clampNat 1 20000 amount))
  | 1 => some (.time (clampNat 1 65535 amount))
  | 2 => some (.load (clampNat 1 40000 amount))
  | 3 => some .fairlead
  | _ => none

/-- R105, order 3, and R106: the record of eight bytes in normal form with its fields clamped; none for a
record that is refused. -/
def recordOf (b0 target loops b3 b4 b5 b6 b7 : Byte) : Option StepRec :=
  match b0.toNat % 16 with
  | 0 => some .empty
  | 1 =>
    match linkOf (b0.toNat / 16) target loops with
    | some link =>
      some (.light { level := b3.toNat, fade := clampNat 0 1000 (read16 b4 b5),
                     hold := clampNat 0 1000 (read16 b6 b7), link := link })
    | none => none
  | 2 =>
    match linkOf (b0.toNat / 16) target loops, actionOf (b3.toNat % 16),
        endOnOf (b3.toNat / 16) (read16 b6 b7) with
    | some link, some action, some endOn =>
      some (.winch { action := action, endOn := endOn, speed := clampNat 0 1000 (read16 b4 b5),
                     link := link })
    | _, _, _ => none
  | _ => none

/-- 11 section 11.3.2: an ending status record in ten bytes. -/
def EndingStatus.bytes (e : EndingStatus) : List Byte :=
  u8 e.unit.val ++ u8 e.cause.code ++ u8 e.lastSlot.val ++ u16 e.residual ++ u16 (e.loops.getD 0xFFFF) ++
    u16 e.finalPos ++ u8 e.tag.toNat

/-- The place of a unit's current slot in its walked set, 1 for the first (R113). -/
def UnitCtx.place (x : UnitCtx) : Nat := x.walked.findIdx (· == x.current) + 1

/-- 11 section 11.3: the progress block of a unit in eight bytes. -/
def UnitCtx.progressBlock (x : UnitCtx) : List Byte :=
  u8 x.state.code ++ u8 x.current.val ++ u8 x.place ++ u16 x.progress ++ u16 x.loop.wire ++
    optCode EndCause.code x.haltCause

/-- The detail that names a notice's kind; an ending status has the outcome STATUS instead. -/
def Notice.outcome : Notice → ReplyOutcome
  | .unitEnded _ => .status
  | .opstate _ _ _ => .done .opstate
  | .trip _ _ => .done .trip
  | .failsafe _ _ => .done .failsafe
  | .stage _ _ _ _ => .done .stage
  | .watch _ _ _ _ _ => .done .watch
  | .line _ _ => .done .line

/-- 11 section 11.3.3: the record of a notice. -/
def Notice.bytes : Notice → List Byte
  | .unitEnded e => e.bytes
  | .opstate new old cause => u8 new.code ++ u8 old.code ++ u8 cause.code
  | .trip causes first => u8 causes.mask ++ u8 first.code
  | .failsafe count st => u8 count ++ u8 st.code
  | .stage new old f b => u8 new.code ++ u8 old.code ++ u16 f ++ u16 b
  | .watch m h x low hot => u16 m ++ i16 h ++ u8 x.code ++ u8 (maskOf [low, hot])
  | .line mask levels => u8 (maskOf mask.toList) ++ u8 (maskOf (levels.toList.map Level.isHigh))

/-! ## The check byte and the frame (R169, 11 section 11.2) -/

/-- One bit of the CRC-8 with polynomial x⁸+x²+x+1, most significant bit first. -/
def crcBit (c : Byte) : Byte := if c.msb then (c <<< 1) ^^^ 0x07 else c <<< 1

/-- One byte of the CRC-8. -/
def crcByte (c b : Byte) : Byte :=
  crcBit (crcBit (crcBit (crcBit (crcBit (crcBit (crcBit (crcBit (c ^^^ b))))))))

/-- R169: the check of LEN, KIND, TAG and the payload; the initial value is 0. -/
def crc8 (l : List Byte) : Byte := l.foldl crcByte 0

/-- The header fields of a reply (R173). -/
def Reply.header (r : Reply) : List Byte :=
  u8 r.outcome.code ++ u8 r.outcome.detail ++ u8 r.pending ++ flagByte r.overrun

/-- LEN, KIND, TAG and payload of a reply. -/
def Reply.body (r : Reply) : List Byte :=
  u8 (r.header.length + r.fields.length + 2) ++ [r.kind, r.tag] ++ r.header ++ r.fields

/-- 11 section 11.2: the bytes of a reply on TX. -/
def Reply.bytes (r : Reply) : List Byte := [0xC3] ++ r.body ++ [crc8 r.body]

end Sys2Proof.Machine
end

