-- ==== Sys2Proof/Machine/Settings.lean ====
section
/-! DEFINITION. The settings table (10 section 10.4): the numbers of 11 section 11.4.1, ranges, defaults and
parked-only marks of the owners' chapters, the checks of SET (R178) and what a changed setting does at
once. -/

namespace Sys2Proof.Machine

/-! ## The settings -/

/-- A setting without an index (10 section 10.4). -/
inductive PlainId where
  | holdTime
  | grace
  | tripTemp
  | neutralBand
  | cellCount
  | watchInterval
  | watchLow
  | watchTemp
  | packLimit
  | sagFloor
  | cautionLevel
  | reserveLevel
  | cutoffLevel
  | hyst
  | cutoffConfirm
  | servoReserve
  | warnTemp
  | frontRated
  | rearRated
  | winchRated
  | throttleSlew
  | dragBrake
  | frontRatio
  | slackLevel
  | servoRate
  | servoSlew
  | centreBand
  | blendRatio
  | relaxTime
  | linePerPulse
  | lineMax
  | stallCurrent
  | stallTime
  | clutchEngaged
  | clutchFree
  | clutchTime
  | turnThreshold
  | slowThreshold
deriving DecidableEq, Repr

/-- A setting kept per axle (05 section 5.1.1). -/
inductive AxleId where
  | centre | travelLeft | travelRight | reverse
deriving DecidableEq, Repr

/-- A setting kept per channel (08 section 8.1.1). -/
inductive ChanId where
  | rated | cls | overlay | overlayLevel
deriving DecidableEq, Repr

/-- A setting number of 11 section 11.4.1. -/
inductive SettingId where
  | plain (p : PlainId)
  | axle (a : AxleId)
  | chan (k : ChanId)
deriving DecidableEq, Repr

/-- A setting with its index. -/
inductive Key where
  | plain (p : PlainId)
  | axle (a : AxleId) (x : Axle)
  | chan (k : ChanId) (c : Chan)
deriving DecidableEq, Repr

/-- 11 section 11.4.1: the setting of a number; none for an unknown setting (R177). -/
def settingOf (b : Byte) : Option SettingId :=
  match b.toNat with
  | 0x01 => some (.plain .holdTime)
  | 0x02 => some (.plain .grace)
  | 0x03 => some (.plain .tripTemp)
  | 0x04 => some (.plain .neutralBand)
  | 0x08 => some (.plain .cellCount)
  | 0x09 => some (.plain .watchInterval)
  | 0x0A => some (.plain .watchLow)
  | 0x0B => some (.plain .watchTemp)
  | 0x10 => some (.plain .packLimit)
  | 0x11 => some (.plain .sagFloor)
  | 0x12 => some (.plain .cautionLevel)
  | 0x13 => some (.plain .reserveLevel)
  | 0x14 => some (.plain .cutoffLevel)
  | 0x15 => some (.plain .hyst)
  | 0x16 => some (.plain .cutoffConfirm)
  | 0x17 => some (.plain .servoReserve)
  | 0x18 => some (.plain .warnTemp)
  | 0x19 => some (.plain .frontRated)
  | 0x1A => some (.plain .rearRated)
  | 0x1B => some (.plain .winchRated)
  | 0x20 => some (.plain .throttleSlew)
  | 0x21 => some (.plain .dragBrake)
  | 0x22 => some (.plain .frontRatio)
  | 0x23 => some (.plain .slackLevel)
  | 0x28 => some (.axle .centre)
  | 0x29 => some (.axle .travelLeft)
  | 0x2A => some (.axle .travelRight)
  | 0x2B => some (.axle .reverse)
  | 0x2C => some (.plain .servoRate)
  | 0x2D => some (.plain .servoSlew)
  | 0x2E => some (.plain .centreBand)
  | 0x2F => some (.plain .blendRatio)
  | 0x30 => some (.plain .relaxTime)
  | 0x38 => some (.plain .linePerPulse)
  | 0x39 => some (.plain .lineMax)
  | 0x3A => some (.plain .stallCurrent)
  | 0x3B => some (.plain .stallTime)
  | 0x3C => some (.plain .clutchEngaged)
  | 0x3D => some (.plain .clutchFree)
  | 0x3E => some (.plain .clutchTime)
  | 0x40 => some (.chan .rated)
  | 0x41 => some (.chan .cls)
  | 0x42 => some (.chan .overlay)
  | 0x43 => some (.chan .overlayLevel)
  | 0x44 => some (.plain .turnThreshold)
  | 0x45 => some (.plain .slowThreshold)
  | _ => none

/-- The axle of an index (10 section 10.4). -/
def axleOf (b : Byte) : Option Axle :=
  match b.toNat with
  | 0 => some .front
  | 1 => some .rear
  | _ => none

/-- The light channel of an index or a request byte. -/
def chanNo (b : Byte) : Option Chan := if h : b.toNat < 10 then some ⟨b.toNat, h⟩ else none

/-- R177: the setting at an index; none for an index that is refused. -/
def keyOf (i : SettingId) (index : Byte) : Option Key :=
  match i with
  | .plain p => some (.plain p)
  | .axle a => (axleOf index).map (.axle a)
  | .chan k => (chanNo index).map (.chan k)

/-- R177: the index that a reply reports; 0 for a setting without an index. -/
def Key.index : Key → Nat
  | .plain _ => 0
  | .axle _ .front => 0
  | .axle _ .rear => 1
  | .chan _ c => c.val

/-! ## Ranges, defaults and marks -/

/-- The range and the default of a setting without an index: lowest, highest, default. -/
def PlainId.range : PlainId → Nat × Nat × Nat
  | .holdTime => (100, 2000, 500)
  | .grace => (50, 500, 200)
  | .tripTemp => (80, 140, 110)
  | .neutralBand => (0, 200, 50)
  | .cellCount => (2, 4, 3)
  | .watchInterval => (1, 60, 10)
  | .watchLow => (3000, 4000, 3600)
  | .watchTemp => (40, 100, 70)
  | .packLimit => (5000, 60000, 30000)
  | .sagFloor => (3000, 3600, 3300)
  | .cautionLevel => (3300, 3800, 3500)
  | .reserveLevel => (3100, 3700, 3350)
  | .cutoffLevel => (3000, 3500, 3200)
  | .hyst => (20, 300, 100)
  | .cutoffConfirm => (1, 255, 200)
  | .servoReserve => (0, 6000, 3000)
  | .warnTemp => (60, 120, 90)
  | .frontRated => (1000, 20000, 12000)
  | .rearRated => (1000, 20000, 12000)
  | .winchRated => (1000, 20000, 8000)
  | .throttleSlew => (1, 1000, 20)
  | .dragBrake => (0, 1000, 300)
  | .frontRatio => (900, 1100, 1000)
  | .slackLevel => (0, 5000, 300)
  | .servoRate => (50, 333, 100)
  | .servoSlew => (1, 2000, 2000)
  | .centreBand => (0, 200, 60)
  | .blendRatio => (0, 1000, 500)
  | .relaxTime => (0, 60, 0)
  | .linePerPulse => (1, 500, 20)
  | .lineMax => (100, 20000, 3000)
  | .stallCurrent => (500, 40000, 6000)
  | .stallTime => (100, 2000, 500)
  | .clutchEngaged => (500, 2500, 1000)
  | .clutchFree => (500, 2500, 2000)
  | .clutchTime => (100, 1000, 300)
  | .turnThreshold => (100, 900, 400)
  | .slowThreshold => (0, 1000, 300)

/-- The parked-only settings (10 section 10.4). -/
def PlainId.parkedOnly : PlainId → Bool
  | .holdTime => false
  | .grace => false
  | .tripTemp => false
  | .neutralBand => false
  | .cellCount => true
  | .watchInterval => false
  | .watchLow => false
  | .watchTemp => false
  | .packLimit => false
  | .sagFloor => false
  | .cautionLevel => false
  | .reserveLevel => false
  | .cutoffLevel => false
  | .hyst => false
  | .cutoffConfirm => false
  | .servoReserve => false
  | .warnTemp => false
  | .frontRated => true
  | .rearRated => true
  | .winchRated => true
  | .throttleSlew => false
  | .dragBrake => false
  | .frontRatio => false
  | .slackLevel => false
  | .servoRate => true
  | .servoSlew => false
  | .centreBand => false
  | .blendRatio => false
  | .relaxTime => false
  | .linePerPulse => true
  | .lineMax => true
  | .stallCurrent => false
  | .stallTime => false
  | .clutchEngaged => false
  | .clutchFree => false
  | .clutchTime => false
  | .turnThreshold => false
  | .slowThreshold => false

/-- 08 section 8.1.1: the codes of CLASS. -/
def LightClass.code : LightClass → Nat
  | .essential => 0
  | .decorative => 1

/-- 08 section 8.1.1: the codes of OVERLAY. -/
def OverlayFn.code : OverlayFn → Nat
  | .none => 0
  | .brake => 1
  | .reverse => 2
  | .turnLeft => 3
  | .turnRight => 4

/-- The CLASS of a code (11 section 11.4). -/
def classOf (n : Nat) : LightClass := if n = 0 then .essential else .decorative

/-- The OVERLAY of a code (11 section 11.4). -/
def overlayOf (n : Nat) : OverlayFn :=
  if n = 0 then .none else if n = 1 then .brake else if n = 2 then .reverse
  else if n = 3 then .turnLeft else .turnRight

/-- Lowest, highest and default of a setting; a named setting's are its codes (R177, log 19). -/
def Key.range : Key → Nat × Nat × Nat
  | .plain p => p.range
  | .axle .centre _ => (1000, 2000, 1500)
  | .axle .travelLeft _ => (0, 1000, 400)
  | .axle .travelRight _ => (0, 1000, 400)
  | .axle .reverse _ => (0, 1, 0)
  | .chan .rated _ => (0, 2000, 200)
  | .chan .cls c => (0, 1, (ChanCfg.default c).cls.code)
  | .chan .overlay _ => (0, 4, 0)
  | .chan .overlayLevel _ => (0, 255, 255)

/-- The lowest value of a setting. -/
def Key.low (k : Key) : Nat := k.range.1

/-- The highest value of a setting. -/
def Key.high (k : Key) : Nat := k.range.2.1

/-- The default of a setting. -/
def Key.default (k : Key) : Nat := k.range.2.2

/-- The setting is parked-only (10 section 10.4). -/
def Key.parkedOnly : Key → Bool
  | .plain p => p.parkedOnly
  | .axle _ _ => false
  | .chan _ _ => false

/-- R178, check 3: the setting takes named values. -/
def Key.named : Key → Bool
  | .plain _ => false
  | .axle a _ => decide (a = .reverse)
  | .chan k _ => decide (k = .cls) || decide (k = .overlay)

/-! ## The values held -/

/-- The value held of a setting without an index. -/
def Settings.plain (c : Settings) : PlainId → Nat
  | .holdTime => c.vsc.holdTime
  | .grace => c.vsc.grace
  | .tripTemp => c.vsc.tripTemp
  | .neutralBand => c.vsc.neutralBand
  | .cellCount => c.scn.cellCount
  | .watchInterval => c.scn.watchInterval
  | .watchLow => c.scn.watchLow
  | .watchTemp => c.scn.watchTemp
  | .packLimit => c.sup.packLimit
  | .sagFloor => c.sup.sagFloor
  | .cautionLevel => c.sup.cautionLevel
  | .reserveLevel => c.sup.reserveLevel
  | .cutoffLevel => c.sup.cutoffLevel
  | .hyst => c.sup.hyst
  | .cutoffConfirm => c.sup.cutoffConfirm
  | .servoReserve => c.sup.servoReserve
  | .warnTemp => c.sup.warnTemp
  | .frontRated => c.sup.rated.front
  | .rearRated => c.sup.rated.rear
  | .winchRated => c.sup.rated.winch
  | .throttleSlew => c.trc.throttleSlew
  | .dragBrake => c.trc.dragBrake
  | .frontRatio => c.trc.frontRatio
  | .slackLevel => c.trc.slackLevel
  | .servoRate => c.stc.servoRate
  | .servoSlew => c.stc.servoSlew
  | .centreBand => c.stc.centreBand
  | .blendRatio => c.stc.blendRatio
  | .relaxTime => c.stc.relaxTime
  | .linePerPulse => c.wch.linePerPulse
  | .lineMax => c.wch.lineMax
  | .stallCurrent => c.wch.stallCurrent
  | .stallTime => c.wch.stallTime
  | .clutchEngaged => c.wch.clutchEngaged
  | .clutchFree => c.wch.clutchFree
  | .clutchTime => c.wch.clutchTime
  | .turnThreshold => c.ltc.turnThreshold
  | .slowThreshold => c.ltc.slowThreshold

/-- The value held of a setting of an axle; off is 0 and on is 1. -/
def AxleCfg.value (c : AxleCfg) : AxleId → Nat
  | .centre => c.centre
  | .travelLeft => c.travelLeft
  | .travelRight => c.travelRight
  | .reverse => c.reverse.toNat

/-- The value held of a setting of a channel. -/
def ChanCfg.value (c : ChanCfg) : ChanId → Nat
  | .rated => c.rated
  | .cls => c.cls.code
  | .overlay => c.overlay.code
  | .overlayLevel => c.overlayLevel

/-- R177: the value held, a named setting's by its code. -/
def Settings.value (c : Settings) : Key → Nat
  | .plain p => c.plain p
  | .axle a x => (c.stc.axle.get x).value a
  | .chan k i => c.ltc.chan[i].value k

/-- The settings with the value of a setting without an index replaced. -/
def Settings.putPlain (c : Settings) (p : PlainId) (v : Nat) : Settings :=
  match p with
  | .holdTime => { c with vsc := { c.vsc with holdTime := v } }
  | .grace => { c with vsc := { c.vsc with grace := v } }
  | .tripTemp => { c with vsc := { c.vsc with tripTemp := v } }
  | .neutralBand => { c with vsc := { c.vsc with neutralBand := v } }
  | .cellCount => { c with scn := { c.scn with cellCount := v } }
  | .watchInterval => { c with scn := { c.scn with watchInterval := v } }
  | .watchLow => { c with scn := { c.scn with watchLow := v } }
  | .watchTemp => { c with scn := { c.scn with watchTemp := v } }
  | .packLimit => { c with sup := { c.sup with packLimit := v } }
  | .sagFloor => { c with sup := { c.sup with sagFloor := v } }
  | .cautionLevel => { c with sup := { c.sup with cautionLevel := v } }
  | .reserveLevel => { c with sup := { c.sup with reserveLevel := v } }
  | .cutoffLevel => { c with sup := { c.sup with cutoffLevel := v } }
  | .hyst => { c with sup := { c.sup with hyst := v } }
  | .cutoffConfirm => { c with sup := { c.sup with cutoffConfirm := v } }
  | .servoReserve => { c with sup := { c.sup with servoReserve := v } }
  | .warnTemp => { c with sup := { c.sup with warnTemp := v } }
  | .frontRated => { c with sup := { c.sup with rated := { c.sup.rated with front := v } } }
  | .rearRated => { c with sup := { c.sup with rated := { c.sup.rated with rear := v } } }
  | .winchRated => { c with sup := { c.sup with rated := { c.sup.rated with winch := v } } }
  | .throttleSlew => { c with trc := { c.trc with throttleSlew := v } }
  | .dragBrake => { c with trc := { c.trc with dragBrake := v } }
  | .frontRatio => { c with trc := { c.trc with frontRatio := v } }
  | .slackLevel => { c with trc := { c.trc with slackLevel := v } }
  | .servoRate => { c with stc := { c.stc with servoRate := v } }
  | .servoSlew => { c with stc := { c.stc with servoSlew := v } }
  | .centreBand => { c with stc := { c.stc with centreBand := v } }
  | .blendRatio => { c with stc := { c.stc with blendRatio := v } }
  | .relaxTime => { c with stc := { c.stc with relaxTime := v } }
  | .linePerPulse => { c with wch := { c.wch with linePerPulse := v } }
  | .lineMax => { c with wch := { c.wch with lineMax := v } }
  | .stallCurrent => { c with wch := { c.wch with stallCurrent := v } }
  | .stallTime => { c with wch := { c.wch with stallTime := v } }
  | .clutchEngaged => { c with wch := { c.wch with clutchEngaged := v } }
  | .clutchFree => { c with wch := { c.wch with clutchFree := v } }
  | .clutchTime => { c with wch := { c.wch with clutchTime := v } }
  | .turnThreshold => { c with ltc := { c.ltc with turnThreshold := v } }
  | .slowThreshold => { c with ltc := { c.ltc with slowThreshold := v } }

/-- An axle's settings with a value replaced. -/
def AxleCfg.put (c : AxleCfg) (a : AxleId) (v : Nat) : AxleCfg :=
  match a with
  | .centre => { c with centre := v }
  | .travelLeft => { c with travelLeft := v }
  | .travelRight => { c with travelRight := v }
  | .reverse => { c with reverse := decide (v = 1) }

/-- A channel's settings with a value replaced. -/
def ChanCfg.put (c : ChanCfg) (k : ChanId) (v : Nat) : ChanCfg :=
  match k with
  | .rated => { c with rated := v }
  | .cls => { c with cls := classOf v }
  | .overlay => { c with overlay := overlayOf v }
  | .overlayLevel => { c with overlayLevel := v }

/-- The settings with a value stored. -/
def Settings.put (c : Settings) (k : Key) (v : Nat) : Settings :=
  match k with
  | .plain p => c.putPlain p v
  | .axle a x => { c with stc := { c.stc with axle := c.stc.axle.put x ((c.stc.axle.get x).put a v) } }
  | .chan k i => { c with ltc := { c.ltc with chan := c.ltc.chan.set i (c.ltc.chan[i].put k v) } }

/-! ## SET (R178) -/

/-- R43: the order of the stage levels with a new value, tested against the levels held. -/
def levelOrder (c : SupCfg) (k : Key) (v : Nat) : Bool :=
  match k with
  | .plain .cautionLevel => decide (c.reserveLevel < v)
  | .plain .reserveLevel => decide (v < c.cautionLevel) && decide (c.cutoffLevel < v)
  | .plain .cutoffLevel => decide (v < c.reserveLevel)
  | _ => true

/-- R178, checks 2 to 5: the value that a SET stores, or its refusal. -/
def setCheck (s : State) (k : Key) (v : Nat) : Except Reason Nat :=
  if k.parkedOnly ∧ s.vsc.op ≠ .parked then .error .notParked
  else if k.named ∧ k.high < v then .error .badValue
  else if levelOrder s.cfg.sup k (clampNat k.low k.high v) then .ok (clampNat k.low k.high v)
  else .error .badValue

/-- R124: P is pulled down to LINE_MAX. -/
def lineMaxSet (s : State) : State := s.modWch fun w => { w with position := min w.position (positionMax s) }

/-- What a changed setting without an index does at the SET (R39, R96, R98, R124, R145). -/
def plainChanged (p : PlainId) (s : State) : State :=
  match p with
  | .cellCount => cellCountChanged s
  | .centreBand => relaxTest s
  | .relaxTime => relaxTimeSet s
  | .lineMax => lineMaxSet s
  | .turnThreshold => overlayTests s
  | .slowThreshold => overlayTests s
  | _ => s

/-- R89: a changed CENTRE or TRAVEL moves the axle's output window. -/
def axleChanged (a : AxleId) (x : Axle) (s : State) : State :=
  match a with
  | .centre => clampWindow x s
  | .travelLeft => clampWindow x s
  | .travelRight => clampWindow x s
  | .reverse => s

/-- R145: what a changed setting of a channel does. A turn channel that leaves its function while the
hazard runs goes to IDLE and is then tested (R154). -/
def chanChanged (k : ChanId) (c : Chan) (s : State) : State :=
  match k with
  | .rated => formDesired c s
  | .cls => s
  | .overlay => overlayTest c s
  | .overlayLevel => formDesired c s

/-- What a change of value starts (R178). -/
def settingChanged (k : Key) (s : State) : State :=
  match k with
  | .plain p => plainChanged p s
  | .axle a x => axleChanged a x s
  | .chan k c => chanChanged k c s

/-- R178: a value that has passed its checks is stored; the value already held starts no action. -/
def storeSetting (k : Key) (v : Nat) (s : State) : State :=
  if s.cfg.value k = v then s else settingChanged k (s.modCfg fun c => c.put k v)

end Sys2Proof.Machine
end

