-- ==== Sys2Proof/Machine/Status.lean ====
section
/-! DEFINITION. The STATUS snapshot (10 R175): each page's fields in the order that R175 lists them, in the
widths of 11 R179 (log 17). -/

namespace Sys2Proof.Machine

/-- A timer runs. -/
def running (t : Timer) : Bool := t.isSome

/-- VEHICLE (R22, R175). -/
def pageVehicle (s : State) : List Byte :=
  u8 s.vsc.op.code ++ u8 s.vsc.expiryCount ++ u8 s.vsc.origin.code ++ flagByte s.vsc.latch ++
    flagByte s.vsc.measured ++ flagByte (running s.vsc.hold) ++ flagByte (running s.vsc.grace) ++
    u8 s.vsc.causes.mask ++ optCode TripCause.code s.vsc.firstCause ++ perBridge flagByte s.vsc.comparator

/-- Four quantities of two bytes, 1 to 4. -/
def four (v : Vector Nat 4) : List Byte := u16 v[0] ++ u16 v[1] ++ u16 v[2] ++ u16 v[3]

/-- SCAN (R40, R175): the published results of the last completed scan, and the excursion flag. -/
def pageScan (s : State) : List Byte :=
  let r := s.scn.results
  u8 (scanKindCode r.kind) ++ four r.taps ++ four r.raw ++ four r.filtered ++ u16 r.minRaw ++
    u16 r.minFiltered ++ u32 r.pack ++ perBridge u16 r.bridge ++ i16 r.temp.board ++ i16 r.temp.front ++
    i16 r.temp.rear ++ i16 r.temp.winch ++ i16 r.hottest ++ u8 r.overcurrent ++ flagByte s.scn.excursion

/-- SUPPLY (R65, R175). -/
def pageSupply (s : State) : List Byte :=
  let a := s.sup.alloc
  u8 s.sup.stage.code ++ flagByte s.sup.assessed ++ u8 s.sup.cutoffCount ++ u16 a.ceiling ++ u16 a.base ++
    u8 a.sag ++ u16 a.rawCeiling ++ u16 a.unassigned ++ u16 a.demand.servo ++ perBridge u16 a.demand.bridge ++
    u16 a.grant.servo ++ perBridge u16 a.grant.bridge ++ perBridge u16 a.dutyCap ++
    perBridge flagByte a.derate

/-- TRACTION (R175); the assist cap is 0 while the assist is inactive (R180). The winch bridge override has no
code in 11 section 11.4 and is sent as a flag, 0 clear and 1 OPEN (log 47). -/
def pageTraction (s : State) : List Byte :=
  let t := s.trc
  u8 t.state.code ++ u8 t.hold.code ++ i16 t.throttle ++ u8 t.digRequested.code ++ u8 t.digInForce.code ++
    perAxle i16 t.target ++ perAxle dutyField t.applied ++ perAxle (fun l => u8 l.code) t.limiter ++
    perAxle (fun m => u8 m.code) t.mode ++ perAxle (fun m => u16 m.strength) t.mode ++
    flagByte t.assist.isSome ++ u16 (t.assist.getD 0) ++ u8 t.direction.code ++ flagByte t.braking ++
    flagByte t.winchOpen

/-- STEERING (R175). -/
def pageSteering (s : State) : List Byte :=
  let t := s.stc
  u8 t.mode.code ++ optCode SteerMode.code t.pendingMode ++ i16 t.steer ++ u8 t.out.code ++
    perAxle u16 t.target ++ perAxle u16 t.output ++ flagByte (running t.relax)

/-- A figure of the step in hand, or 0 with none in hand, where it does not apply (R143, R180, log 38). -/
def ofStep (w : Wch) (n : Nat) : Nat := if w.step.isSome then n else 0

/-- WINCH (R143, R175). -/
def pageWinch (s : State) : List Byte :=
  let w := s.wch
  u8 w.state.code ++ u8 w.clutch.code ++ u16 (w.position / 10) ++ u16 w.applied ++
    u16 s.sup.alloc.dutyCap.winch ++ optCode (fun h => h.step.action.code) w.step ++
    optCode (fun h => h.step.endOn.code) w.step ++ u16 (ofStep w (w.travel / 10)) ++
    u16 (ofStep w w.frames) ++ u16 (ofStep w w.lastCurrent) ++ flagByte (running w.stall) ++ flagByte w.assist

/-- The place of a unit's outstanding status: none, queued or stacked (R121, 11 section 11.4). -/
def placeCode (s : State) (u : UnitNo) : Nat :=
  if (queuedEnding u s.nq).isSome then 1 else if (s.unit u).stacked.isSome then 2 else 0

/-- R108: the use counts that a unit's page reports: those of the slots of its walked set, upward from its first
slot. A slot in no active unit's walked set has the use count 0, so the eleven pages report every use count.
DESIGN CHOICE (log 43): R175 names no place for them, and the model follows R108 where R180 has no further field. -/
def pageUses (s : State) (u : UnitNo) : List Byte :=
  ((s.unit u).walked.take Config.lightWalkMax).flatMap fun slot => u8 s.pgc.useCount[slot]

/-- UNIT (R122, R175, R108). The step progress is that of R120 at the request, which moves while a step runs;
R122's list of the events that change a context does not name that (log 45). -/
def pageUnit (s : State) (u : UnitNo) : List Byte :=
  let x := s.unit u
  u8 x.state.code ++ u8 x.first.val ++ u8 x.current.val ++ u16 x.loop.wire ++ u16 x.progress ++
    optCode EndCause.code x.haltCause ++ u8 x.tag.toNat ++ u8 (placeCode s u) ++ pageUses s u

/-- The phase that a channel reports (R179). -/
def phaseOf (hazard : Option Nat) : Overlay → Option Nat
  | .idle => none
  | .on => none
  | .blink phase => some phase
  | .hazard => hazard

/-- LIGHT (R158, R65, R175): the channel's fields, then its demand, grant and caps in the latest allocation.
Of the step in hand the page carries the slot and the frames elapsed, not the record (log 48). -/
def pageLight (s : State) (c : Chan) : List Byte :=
  let ch := s.chan c
  let a := s.sup.alloc
  u8 ch.manual ++ u8 ch.source.code ++ u8 ch.program ++ optCode (fun h => h.slot.val) ch.step ++
    u16 ch.frames ++ u8 ch.overlay.code ++ optCode id (phaseOf s.ltc.hazard ch.overlay) ++ u8 ch.desired ++
    u16 ch.demand ++ u8 ch.applied ++ u8 a.budgetCap[c] ++ u8 a.stageCap[c] ++ u16 a.demand.light[c] ++
    u16 a.grant.light[c] ++ u8 a.budgetCap[c] ++ u8 a.stageCap[c] ++ optCode id s.ltc.hazard

/-- The functions of AUX0..AUX3. -/
def functionBytes (s : State) : List Byte := s.lmx.lines.toList.flatMap fun l => u8 l.fn.code

/-- LINES (R168, R175). -/
def pageLines (s : State) : List Byte :=
  functionBytes s ++ u8 (maskOf (s.lmx.lines.toList.map fun l => Level.isHigh l.accepted)) ++
    u8 (maskOf s.lmx.changed.toList)

/-- The unit of a request byte; none above 10. -/
def unitNo (b : Byte) : Option UnitNo := if h : b.toNat < 11 then some ⟨b.toNat, h⟩ else none

/-- R175: a page's index as reported and its content; none for an unknown page or an index refused. -/
def pageOf (s : State) (page index : Byte) : Option (Nat × List Byte) :=
  match page.toNat with
  | 0 => some (0, pageVehicle s)
  | 1 => some (0, pageScan s)
  | 2 => some (0, pageSupply s)
  | 3 => some (0, pageTraction s)
  | 4 => some (0, pageSteering s)
  | 5 => some (0, pageWinch s)
  | 6 => (unitNo index).map fun u => (u.val, pageUnit s u)
  | 7 => (chanNo index).map fun c => (c.val, pageLight s c)
  | 8 => some (0, pageLines s)
  | _ => none

/-- R175: the reply's own fields. -/
def statusFields (s : State) (page index : Byte) : Option (List Byte) :=
  (pageOf s page index).map fun p => u8 page.toNat ++ u8 p.1 ++ u16 s.scn.completions ++ p.2

end Sys2Proof.Machine
end

