-- ==== Sys2Proof/Machine/Requests.lean ====
section
/-! DEFINITION. The owners' handling of each request (10 section 10.2.1): from the state at the arrival and
the payload to the state after the request and the answer (10 R173). A refusal carries the fields that its
owning rule lists, and no others (log 16). -/

namespace Sys2Proof.Machine

/-- What an owner answers: the outcome with its detail or reason, and the reply's own fields. -/
structure Answer where
  outcome : ReplyOutcome
  fields : List Byte
deriving DecidableEq, Repr

/-- DONE with a detail and fields. -/
def doneWith (d : Detail) (fields : List Byte) : Answer := ⟨.done d, fields⟩

/-- REFUSED with a reason and fields. -/
def refusedWith (r : Reason) (fields : List Byte) : Answer := ⟨.refused r, fields⟩

/-- R173, step 2: a payload whose length the kind does not allow. -/
def badLength : Answer := refusedWith .badLength []

/-! ## Identity, status and reset (R174 to R176) -/

/-- R174: the reply of IDENTIFY. -/
def identity : List Byte :=
  u16 Config.partCode ++ u8 Config.revision ++ u8 11 ++ u8 128 ++ u8 Config.noticeCapacity ++ u8 4 ++ u8 10 ++
    u8 Config.payloadMax

/-- IDENTIFY (R174). -/
def onIdentify (s : State) (p : List Byte) : State × Answer :=
  match p with
  | [] => (s, doneWith .none identity)
  | _ => (s, badLength)

/-- STATUS (R175). -/
def onStatus (s : State) (p : List Byte) : State × Answer :=
  match p with
  | [page, index] =>
    match statusFields s page index with
    | some fields => (s, doneWith .none fields)
    | none => (s, refusedWith .badValue [])
  | _ => (s, badLength)

/-- RESET (R176): the soft reset follows when the reply has left TX. -/
def onReset (s : State) (p : List Byte) : State × Answer :=
  match p with
  | [] => (s, doneWith .none [])
  | _ => (s, badLength)

/-! ## Settings (R177, R178) -/

/-- The setting that a request names with its index; none if either is refused (R177). -/
def namedKey (setting index : Byte) : Option Key := (settingOf setting).bind fun i => keyOf i index

/-- R177: the fields of a GET reply. -/
def getFields (s : State) (setting : Byte) (k : Key) : List Byte :=
  u8 setting.toNat ++ u8 k.index ++ u16 (s.cfg.value k) ++ u16 k.low ++ u16 k.high ++ u16 k.default ++
    flagByte k.parkedOnly

/-- GET (R177). -/
def onGet (s : State) (p : List Byte) : State × Answer :=
  match p with
  | [setting, index] =>
    match namedKey setting index with
    | some k => (s, doneWith .none (getFields s setting k))
    | none => (s, refusedWith .badValue [])
  | _ => (s, badLength)

/-- The fields of a SET reply: setting, index, value stored or held. -/
def setFields (setting : Byte) (index value : Nat) : List Byte := u8 setting.toNat ++ u8 index ++ u16 value

/-- SET (R178). -/
def onSet (s : State) (p : List Byte) : State × Answer :=
  match p with
  | [setting, index, low, high] =>
    match namedKey setting index with
    | some k =>
      match setCheck s k (read16 low high) with
      | .ok v => (storeSetting k v s, doneWith .none (setFields setting k.index v))
      | .error r => (s, refusedWith r (setFields setting k.index (s.cfg.value k)))
    | none => (s, refusedWith .badValue (setFields setting index.toNat 0))
  | _ => (s, badLength)

/-! ## Arming and parking (R3 to R6, R21) -/

/-- The four taps and cells, in rising order. -/
def allTaps : List (Fin 4) := [0, 1, 2, 3]

/-- R3, check 3: the first tap above CELL_COUNT that reads above 1 000 mV. -/
def tapTooHigh (s : State) : Option (Fin 4) :=
  allTaps.find? fun i => decide (s.cfg.scn.cellCount ≤ i.val) && decide (1000 < s.scn.results.taps[i])

/-- R3, check 3: the first cell of 1..CELL_COUNT that reads below 2 500 mV. -/
def cellTooLow (s : State) : Option (Fin 4) :=
  allTaps.find? fun i => decide (i.val < s.cfg.scn.cellCount) && decide (s.scn.results.raw[i] < 2500)

/-- R3: the refusal of an ARM in PARKED, if a check fails. -/
def armRefusal (s : State) : Option Answer :=
  if !s.vsc.measured then some (refusedWith .measuring [])
  else if s.sup.stage = .cutoff then some (refusedWith .lowBattery [])
  else
    match tapTooHigh s, cellTooLow s with
    | some i, _ =>
      some (refusedWith .cellsMismatch (u8 1 ++ u8 (i.val + 1) ++ u16 s.scn.results.taps[i]))
    | none, some i =>
      some (refusedWith .cellsMismatch (u8 0 ++ u8 (i.val + 1) ++ u16 s.scn.results.raw[i]))
    | none, none => none

/-- R3, R4: ARM taken in PARKED. -/
def armParked (s : State) : State × Answer :=
  match armRefusal s with
  | some a => (s, a)
  | none => (enterArmed s, doneWith .none [])

/-- ARM (R3 to R5). -/
def onArm (s : State) (p : List Byte) : State × Answer :=
  match p with
  | [] =>
    match s.vsc.op with
    | .parked => armParked s
    | .armed => (s, doneWith .none [])
    | .failsafe => (s, refusedWith .notParked [])
    | .shuttingDown => (s, refusedWith .notParked [])
    | .tripped => (s, refusedWith .tripped (u8 s.vsc.causes.mask))
  | _ => (s, badLength)

/-- R21: PARK taken in TRIPPED. -/
def parkTripped (s : State) : State × Answer :=
  if presentConditions s = .empty then (leaveTripped s, doneWith .none [])
  else (s, refusedWith .tripped (u8 (presentConditions s).mask))

/-- PARK (R6). -/
def onPark (s : State) (p : List Byte) : State × Answer :=
  match p with
  | [] =>
    match s.vsc.op with
    | .parked => (s, doneWith .none [])
    | .armed => (beginShutdown .shutdown .park s, doneWith .none [])
    | .failsafe => (beginShutdown .shutdown .park s, doneWith .none [])
    | .shuttingDown => (s, doneWith .none [])
    | .tripped => parkTripped s
  | _ => (s, badLength)

/-! ## DRIVE (R8, R11, R69, R70, R90) -/

/-- R8: a DRIVE taken in FAILSAFE returns the part to ARMED. -/
def driveReturns (s : State) : State := if s.vsc.op = .failsafe then linkRestored s else s

/-- R7, R8, R11: the hold timer is restarted, and a throttle within the band clears the latch. -/
def driveKeepsAlive (throttle : Int) (s : State) : State :=
  s.modVsc fun v =>
    { v with hold := some s.cfg.vsc.holdTime, latch := v.latch && !withinNeutral s throttle }

/-- R70: TRC's part of a DRIVE, after the latch test. -/
def driveTraction (throttle : Int) (dig : Dig) (s : State) : State := tractionDrive throttle dig s.vsc.latch s

/-- R69: a DRIVE that is taken, with its clamped throttle and steer: VSC, then TRC, then STC; the overlay
tests of R152 follow. -/
def driveTaken (throttle steer : Int) (dig : Dig) (s : State) : State :=
  overlayTests (steerDrive throttle steer (driveTraction throttle dig
    (driveKeepsAlive throttle (driveReturns s))))

/-- R75: an axle's duty cap and derate flag, which the DRIVE reply reports together; which stands first is free.
DESIGN CHOICE (log 41): 11 R180 and section 11.3 have no cap in this reply, and the model follows R75. -/
def driveCap (s : State) (x : Axle) : List Byte :=
  let cap := u16 (s.sup.alloc.dutyCap.get x.bridge)
  let derate := flagByte (s.sup.alloc.derate.get x.bridge)
  match Config.capSide with
  | .before => cap ++ derate
  | .after => derate ++ cap

/-- An axle's fields in a DRIVE reply: those of R70 and 11 section 11.3, and the duty cap of R75. -/
def driveAxle (s : State) (x : Axle) : List Byte :=
  i16 (s.trc.target.get x) ++ dutyField (s.trc.applied.get x) ++ u8 (s.trc.limiter.get x).code ++ driveCap s x

/-- R70: the fields of a DRIVE reply. -/
def driveFields (throttle steer : Int) (s : State) : List Byte :=
  i16 throttle ++ i16 steer ++ i16 s.trc.throttle ++ flagByte s.vsc.latch ++ u8 s.trc.digInForce.code ++
    u8 s.trc.digRequested.code ++ u8 s.trc.state.code ++ driveAxle s .front ++ driveAxle s .rear

/-- R173: a throttle or steer beyond ±1000 is clamped. -/
def permille (x : Int) : Int := clampInt (-1000) 1000 x

/-- DRIVE (R69). -/
def onDrive (s : State) (p : List Byte) : State × Answer :=
  match p with
  | [t0, t1, s0, s1, d] =>
    match digOf d with
    | none => (s, refusedWith .badValue [])
    | some dig =>
      if s.vsc.op.driven then
        let t := permille (readInt16 t0 t1)
        let steer := permille (readInt16 s0 s1)
        (driveTaken t steer dig s, doneWith .none (driveFields t steer (driveTaken t steer dig s)))
      else (s, refusedWith .notArmed [])
  | _ => (s, badLength)

/-! ## Steering and lights (R94, R148) -/

/-- STEER_MODE (R94). -/
def onSteerMode (s : State) (p : List Byte) : State × Answer :=
  match p with
  | [b] =>
    match steerModeOf b with
    | none => (s, refusedWith .badValue [])
    | some m =>
      let s' := steerMode m s
      (s', doneWith (if steerModeAtOnce s m then .applied else .modePending)
        (u8 s'.stc.mode.code ++ optCode SteerMode.code s'.stc.pendingMode))
  | _ => (s, badLength)

/-- R148: the detail of a SET_LIGHT reply. -/
def Source.detail : Source → Detail
  | .manual => .applied
  | .program => .deferred

/-- SET_LIGHT (R148). -/
def onSetLight (s : State) (p : List Byte) : State × Answer :=
  match p with
  | [b, level] =>
    match chanNo b with
    | none => (s, refusedWith .badValue [])
    | some c =>
      let s' := setManual c level.toNat s
      let ch := s'.chan c
      (s', doneWith ch.source.detail (u8 c.val ++ u8 ch.manual ++ u8 ch.source.code ++ u8 ch.applied ++
        u8 s'.sup.alloc.budgetCap[c] ++ u8 s'.sup.alloc.stageCap[c]))
  | _ => (s, badLength)

/-! ## The program store (R105 to R107) -/

/-- The records of a STORE_STEPS payload, eight bytes each; none for a record that R105, order 3,
refuses. -/
def recordsOf : List Byte → List (Option StepRec)
  | b0 :: b1 :: b2 :: b3 :: b4 :: b5 :: b6 :: b7 :: rest => recordOf b0 b1 b2 b3 b4 b5 b6 b7 :: recordsOf rest
  | _ => []

/-- The use count of a slot number. -/
def State.useOf (s : State) (slot : Nat) : Nat := s.pgc.useCount[slot]?.getD 0

/-- The record of a slot number. -/
def State.stepAt (s : State) (slot : Nat) : StepRec := s.pgc.store[slot]?.getD .empty

/-- R105, order 4: the lowest slot of a run that has a use count above 0. -/
def slotInUse (s : State) (first count : Nat) : Option Nat :=
  ((List.range count).map (first + ·)).find? fun k => decide (0 < s.useOf k)

/-- R106: the records are written into their slots. -/
def writeSteps (first : Nat) (records : List StepRec) (s : State) : State :=
  s.modPgc fun p =>
    { p with store := Vector.ofFn fun i =>
        if first ≤ i.val ∧ i.val < first + records.length then records.getD (i.val - first) .empty
        else p.store[i] }

/-- R105, orders 3 and 4, and R106: the records of a run of slots that lies within the store. -/
def storeRecords (s : State) (first : Nat) (records : List (Option StepRec)) : State × Answer :=
  match records.findIdx? Option.isNone with
  | some i => (s, refusedWith .badValue (u8 (first + i)))
  | none =>
    match slotInUse s first records.length with
    | some slot => (s, refusedWith .inUse (u8 slot ++ u8 (s.useOf slot)))
    | none =>
      let steps := records.filterMap id
      (writeSteps first steps s,
        doneWith .none (u8 first ++ u8 steps.length ++ steps.flatMap StepRec.bytes))

/-- STORE_STEPS (R105). The first slot beyond 127 is the first slot itself where that lies beyond
(log 25). -/
def onStoreSteps (s : State) (p : List Byte) : State × Answer :=
  match p with
  | first :: count :: rest =>
    if 1 ≤ count.toNat ∧ count.toNat ≤ 6 ∧ rest.length = 8 * count.toNat then
      if 128 < first.toNat + count.toNat then (s, refusedWith .badValue (u8 (max first.toNat 128)))
      else storeRecords s first.toNat (recordsOf rest)
    else (s, badLength)
  | _ => (s, badLength)

/-- R107: a slot's record and its use count. -/
def slotBytes (s : State) (slot : Nat) : List Byte := (s.stepAt slot).bytes ++ u8 (s.useOf slot)

/-- R107: the count used. -/
def readCount (first count : Nat) : Nat := min (clampNat 1 6 count) (128 - first)

/-- READ_STEPS (R107). -/
def onReadSteps (s : State) (p : List Byte) : State × Answer :=
  match p with
  | [first, count] =>
    if 127 < first.toNat then (s, refusedWith .badValue [])
    else
      let n := readCount first.toNat count.toNat
      (s, doneWith .none (u8 first.toNat ++ u8 n ++
        ((List.range n).map (first.toNat + ·)).flatMap (slotBytes s)))
  | _ => (s, badLength)

/-! ## Units (R113 to R116) -/

/-- The slot of a request byte; none above 127. -/
def slotNo (b : Byte) : Option Slot := if h : b.toNat < 128 then some ⟨b.toNat, h⟩ else none

/-- R113, step 5, and R114: the unit is started and the executing block takes its first step. -/
def startUnit (u : UnitNo) (first : Slot) (slots : List Slot) (tag : Byte) (s : State) : State :=
  let s := startContext u first slots tag s
  match chanOf u with
  | none => startWinch first s
  | some c => startLightUnit c first s

/-- R113, step 3: the unit may not start in this operating state or at this stage. -/
def startForbidden (s : State) (u : UnitNo) : Option Reason :=
  if u = 0 then if s.vsc.op = .armed then none else some .notArmed
  else if s.sup.stage = .cutoff then some .lowBattery else none

/-- R113, steps 3 to 5. -/
def startIdle (s : State) (u : UnitNo) (first : Slot) (tag : Byte) : State × Answer :=
  match startForbidden s u with
  | some r => (s, refusedWith r [])
  | none =>
    match walk s u first with
    | .failed slot d => (s, refusedWith .badProgram (u8 slot.val ++ u8 d.code))
    | .passed slots => (startUnit u first slots tag s, doneWith .none (u8 slots.length))

/-- R113, step 1, and R115: an outstanding status is carried in the reply and taken. -/
def answerStatus (s : State) (u : UnitNo) (e : EndingStatus) : State × Answer :=
  (takeOutstanding u s, ⟨.status, e.bytes⟩)

/-- The line position in whole mm (R130, R143). -/
def positionField (s : State) : List Byte := u16 (s.wch.position / 10)

/-- R113, step 2, R115, R131 and R143: BUSY with the unit's progress, and for the winch unit with P on one side
of it. DESIGN CHOICE (log 44): 11 R180 and section 11.3 have no P beside the block in the BUSY replies of START and
PROBE, and the model follows R143. -/
def busyWith (s : State) (side : Side) (u : UnitNo) : Answer :=
  let block := (s.unit u).progressBlock
  ⟨.busy,
    if u = 0 then
      match side with
      | .before => positionField s ++ block
      | .after => block ++ positionField s
    else block⟩

/-- START (R113). -/
def onStart (s : State) (p : List Byte) : State × Answer :=
  match p with
  | [b, f, tag] =>
    match unitNo b, slotNo f with
    | some u, some first =>
      match s.outstanding u with
      | some e => answerStatus s u e
      | none => if (s.unit u).state = .idle then startIdle s u first tag else (s, busyWith s (Config.busySide 0x22) u)
    | _, _ => (s, refusedWith .badValue [])
  | _ => (s, badLength)

/-- PROBE (R115). -/
def onProbe (s : State) (p : List Byte) : State × Answer :=
  match p with
  | [b] =>
    match unitNo b with
    | some u =>
      match s.outstanding u with
      | some e => answerStatus s u e
      | none => if (s.unit u).state = .idle then (s, doneWith .quiet []) else (s, busyWith s (Config.busySide 0x23) u)
    | none => (s, refusedWith .badValue [])
  | _ => (s, badLength)

/-- R116, R150: HALT of a RUNNING light unit; whether a light frame is due at the same moment is free
(log 37). -/
def haltChannel (c : Chan) (s : State) : State :=
  endLightWith c .halted (haltedResidual (Config.frameDue s.choice) (s.chan c)) s.nextChoice

/-- R116: HALT of a RUNNING unit. -/
def haltUnit (u : UnitNo) (s : State) : State :=
  match chanOf u with
  | none => winchHalt .halted s
  | some c => haltChannel c s

/-- R116: the winch unit waits for its clutch. -/
def haltWaits (s : State) (u : UnitNo) : Bool := decide (u = 0) && s.wch.clutch.moving

/-- HALT (R116). -/
def onHalt (s : State) (p : List Byte) : State × Answer :=
  match p with
  | [b] =>
    match unitNo b with
    | some u =>
      match (s.unit u).state with
      | .running => (haltUnit u s, doneWith (if haltWaits s u then .halting else .ended) [])
      | .halting => (s, doneWith .halting [])
      | .idle => (s, doneWith .quiet [])
    | none => (s, refusedWith .badValue [])
  | _ => (s, badLength)

/-! ## The line position (R131) -/

/-- LINE_SET (R131). DONE carries P; BUSY carries P and then the progress block, in the order in which 11
section 11.3 lists them (R143, log 44). -/
def onLineSet (s : State) (p : List Byte) : State × Answer :=
  match p with
  | [low, high] =>
    if (s.unit 0).state = .idle then
      let mm := clampNat 0 s.cfg.wch.lineMax (read16 low high)
      (s.modWch fun w => { w with position := mm * 10 }, doneWith .none (u16 mm))
    else (s, busyWith s .before 0)
  | _ => (s, badLength)

/-! ## Lines and notices (R162, R166) -/

/-- The line of a request byte; none above 3. -/
def lineNo (b : Byte) : Option (Fin 4) := if h : b.toNat < 4 then some ⟨b.toNat, h⟩ else none

/-- R166, checks 4 to 6. -/
def assignKnown (s : State) (i : Fin 4) (fn : LineFn) : State × Answer :=
  if (s.unit 0).state ≠ .idle then (s, refusedWith .inUse (functionBytes s))
  else if s.vsc.op ≠ .parked then (s, refusedWith .notParked (functionBytes s))
  else
    match holderOf i fn s with
    | some k => (s, refusedWith .badValue (u8 k.val))
    | none => (assignLine i fn s, doneWith .none (functionBytes (assignLine i fn s)))

/-- ASSIGN_LINE (R166). -/
def onAssignLine (s : State) (p : List Byte) : State × Answer :=
  match p with
  | [b, f] =>
    match lineNo b with
    | none => (s, refusedWith .noLine (functionBytes s))
    | some i =>
      match lineFnOf f with
      | none => (s, refusedWith .badValue (functionBytes s))
      | some fn => assignKnown s i fn
  | _ => (s, badLength)

/-- R168: taking a LINE entry empties the changed mask. -/
def afterTaking (n : Notice) (s : State) : State :=
  match n with
  | .line _ _ => s.modLmx fun m => { m with changed := Vector.replicate 4 false }
  | _ => s

/-- The lowest-numbered unit whose context holds a stacked status (R162). -/
def firstStacked (s : State) : Option (UnitNo × EndingStatus) :=
  allUnits.findSome? fun u => (s.unit u).stacked.map fun e => (u, e)

/-- FETCH_NOTICE (R162). -/
def onFetchNotice (s : State) (p : List Byte) : State × Answer :=
  match p with
  | [] =>
    match s.nq with
    | n :: rest => (afterTaking n (s.modNq fun _ => rest), ⟨n.outcome, n.bytes⟩)
    | [] =>
      match firstStacked s with
      | some (u, e) => (s.modUnit u fun x => { x with stacked := none }, ⟨.status, e.bytes⟩)
      | none => (s, doneWith .empty [])
  | _ => (s, badLength)

end Sys2Proof.Machine
end

