-- ==== Sys2Proof/Machine/Link.lean ====
section
/-! DEFINITION. The Link Interface (10): the parser, the request in hand, the holding buffer, the overrun
flag and the reply. -/

namespace Sys2Proof.Machine

/-! ## Handling a request (R173) -/

/-- The request kinds (10 section 10.2.1). -/
inductive Kind where
  | identify | status | reset | get | set | arm | park | drive | steerMode | setLight
  | storeSteps | readSteps | start | probe | halt | lineSet | assignLine | fetchNotice
deriving DecidableEq, Repr

/-- The request kind codes (11 section 11.3). -/
def Kind.code : Kind → Byte
  | .identify => 0x01
  | .status => 0x02
  | .reset => 0x03
  | .get => 0x04
  | .set => 0x05
  | .arm => 0x10
  | .park => 0x11
  | .drive => 0x12
  | .steerMode => 0x13
  | .setLight => 0x14
  | .storeSteps => 0x20
  | .readSteps => 0x21
  | .start => 0x22
  | .probe => 0x23
  | .halt => 0x24
  | .lineSet => 0x25
  | .assignLine => 0x26
  | .fetchNotice => 0x30

/-- The request kinds in the order of 11 section 11.3. -/
def allKinds : List Kind :=
  [.identify, .status, .reset, .get, .set, .arm, .park, .drive, .steerMode, .setLight, .storeSteps,
   .readSteps, .start, .probe, .halt, .lineSet, .assignLine, .fetchNotice]

/-- R173, step 1: the request kind of a KIND byte; none for UNKNOWN_KIND. -/
def kindOf (b : Byte) : Option Kind := allKinds.find? fun k => decide (k.code = b)

/-- R173, steps 2 and 3: the request is handed to its owner. -/
def Kind.handle : Kind → State → List Byte → State × Answer
  | .identify => onIdentify
  | .status => onStatus
  | .reset => onReset
  | .get => onGet
  | .set => onSet
  | .arm => onArm
  | .park => onPark
  | .drive => onDrive
  | .steerMode => onSteerMode
  | .setLight => onSetLight
  | .storeSteps => onStoreSteps
  | .readSteps => onReadSteps
  | .start => onStart
  | .probe => onProbe
  | .halt => onHalt
  | .lineSet => onLineSet
  | .assignLine => onAssignLine
  | .fetchNotice => onFetchNotice

/-- R173: a frame is answered by its KIND. -/
def answerFrame (f : Frame) (s : State) : State × Answer :=
  match kindOf f.kind with
  | none => (s, refusedWith .unknownKind [])
  | some k => k.handle s f.payload

/-- R173: the KIND of a reply (log 15). -/
def replyKind (kind : Byte) : Byte := if kind.toNat < 128 then kind + 0x80 else Config.unknownReplyKind kind

/-- R173: the reply that LNK builds from an answer, with PENDING after the request's effects and the
overrun flag. -/
def replyTo (f : Frame) (a : Answer) (s : State) : Reply :=
  { kind := replyKind f.kind, tag := f.tag, outcome := a.outcome, pending := s.pendingCount,
    overrun := s.lnk.overrun, fields := a.fields }

/-- R172, R173: the reply is built and its sending starts; the overrun flag is cleared. -/
def sendReply (f : Frame) (p : State × Answer) : State :=
  p.1.modLnk fun l => { l with reply := some (replyTo f p.2 p.1), overrun := false }

/-- R172, R173: a frame becomes the request in hand and is handled at once. -/
def takeRequest (f : Frame) (s : State) : State :=
  sendReply f (answerFrame f (s.modLnk fun l => { l with inHand := some f }))

/-! ## Frames (R172) -/

/-- The parser in HUNT with no frame in assembly and the byte gap timer stopped (R171). -/
def Lnk.hunting (l : Lnk) : Lnk := { l with parser := .hunt, frame := [], gap := false }

/-- R172: a good frame that the parser has completed. -/
def frameArrives (f : Frame) (s : State) : State :=
  let s := s.modLnk Lnk.hunting
  match s.lnk.inHand with
  | none => takeRequest f s
  | some _ =>
    match s.lnk.holding with
    | none => s.modLnk fun l => { l with holding := some f }
    | some _ => s.modLnk fun l => { l with overrun := true }

/-- The request in hand is a RESET that was answered DONE (R176). -/
def Frame.resets (f : Frame) : Bool := decide (f.kind = Kind.reset.code) && f.payload.isEmpty

/-- R172: the request in hand becomes none, and a held frame's arrival is taken at once. -/
def nextRequest (s : State) : State :=
  let s' := s.modLnk fun l => { l with inHand := none, reply := none, holding := none }
  match s.lnk.holding with
  | some g => takeRequest g s'
  | none => s'

/-- R172, R176: the last byte of a reply leaves TX; the soft reset is taken at that moment (log 7). -/
def replySent (s : State) : State :=
  match s.lnk.inHand with
  | none => s
  | some f => if f.resets then softReset s else nextRequest s

/-! ## The parser (R171) -/

/-- R171: the frame in assembly is discarded. -/
def discardFrame (s : State) : State := s.modLnk Lnk.hunting

/-- R171: a byte in HUNT. -/
def huntByte (b : Byte) (s : State) : State :=
  if b = 0xC3 then s.modLnk fun l => { l with parser := .length, frame := [], gap := true } else s

/-- R171: a byte in LENGTH. -/
def lengthByte (b : Byte) (s : State) : State :=
  if 2 ≤ b.toNat ∧ b.toNat ≤ 66 then s.modLnk fun l => { l with parser := .body, frame := [b], gap := true }
  else discardFrame s

/-- The number of body bytes that a frame in assembly announces. -/
def announced (frame : List Byte) : Nat := (frame.headD 0).toNat

/-- R171: a byte in BODY; after the LEN-th body byte the state is CHECK. -/
def bodyByte (b : Byte) (s : State) : State :=
  s.modLnk fun l =>
    { l with frame := l.frame ++ [b], gap := true,
             parser := if announced l.frame ≤ l.frame.length then .check else .body }

/-- The frame that LEN, KIND, TAG and the payload make; none for fewer than three bytes, which does not
occur in CHECK (log 26). -/
def frameOf : List Byte → Option Frame
  | _ :: kind :: tag :: payload => some { kind := kind, tag := tag, payload := payload }
  | _ => none

/-- R171: a byte in CHECK. -/
def checkByte (b : Byte) (s : State) : State :=
  if b = crc8 s.lnk.frame then
    match frameOf s.lnk.frame with
    | some f => frameArrives f s
    | none => discardFrame s
  else discardFrame s

/-- R171: a byte received on RX. -/
def byteIn (b : Byte) (s : State) : State :=
  match s.lnk.parser with
  | .hunt => huntByte b s
  | .length => lengthByte b s
  | .body => bodyByte b s
  | .check => checkByte b s

/-- R171: what arrives on RX; a framing error discards the byte and a frame in assembly. -/
def receive (rx : RxByte) (s : State) : State :=
  match rx with
  | .good b => byteIn b s
  | .framingError => if s.lnk.parser = .hunt then s else discardFrame s

/-- R171: a byte gap expiry; a stopped timer has none. -/
def gapExpiry (s : State) : State := if s.lnk.gap then discardFrame s else s

end Sys2Proof.Machine
end

