-- ==== Sys2Proof/Machine/Commands.lean ====
section
/-! DEFINITION. The meaning of every command, one definition each. A request command is the arrival of a
good frame of its kind (10 R172, R173, log 5). No command ends in a fault or a refusal of the model. -/

namespace Sys2Proof.Machine

/-- What a command answers. -/
abbrev Result := Host.Outcome State Fault Refusal

/-! ## Resets -/

/-- FULL_RESET (R1). -/
def execFullReset (s : State) : Result := .next (fullReset s)

/-- SOFT_RESET (R1, R176, log 7). -/
def execSoftReset (s : State) : Result := .next (softReset s)

/-! ## Requests -/

/-- IDENTIFY (R174). -/
def execIdentify (tag : Byte) (payload : List Byte) (s : State) : Result :=
  .next (frameArrives { kind := Kind.identify.code, tag := tag, payload := payload } s)

/-- STATUS (R175). -/
def execStatus (tag : Byte) (payload : List Byte) (s : State) : Result :=
  .next (frameArrives { kind := Kind.status.code, tag := tag, payload := payload } s)

/-- RESET (R176). -/
def execReset (tag : Byte) (payload : List Byte) (s : State) : Result :=
  .next (frameArrives { kind := Kind.reset.code, tag := tag, payload := payload } s)

/-- GET (R177). -/
def execGet (tag : Byte) (payload : List Byte) (s : State) : Result :=
  .next (frameArrives { kind := Kind.get.code, tag := tag, payload := payload } s)

/-- SET (R178). -/
def execSet (tag : Byte) (payload : List Byte) (s : State) : Result :=
  .next (frameArrives { kind := Kind.set.code, tag := tag, payload := payload } s)

/-- ARM (R3 to R5). -/
def execArm (tag : Byte) (payload : List Byte) (s : State) : Result :=
  .next (frameArrives { kind := Kind.arm.code, tag := tag, payload := payload } s)

/-- PARK (R6, R21). -/
def execPark (tag : Byte) (payload : List Byte) (s : State) : Result :=
  .next (frameArrives { kind := Kind.park.code, tag := tag, payload := payload } s)

/-- DRIVE (R69). -/
def execDrive (tag : Byte) (payload : List Byte) (s : State) : Result :=
  .next (frameArrives { kind := Kind.drive.code, tag := tag, payload := payload } s)

/-- STEER_MODE (R94). -/
def execSteerMode (tag : Byte) (payload : List Byte) (s : State) : Result :=
  .next (frameArrives { kind := Kind.steerMode.code, tag := tag, payload := payload } s)

/-- SET_LIGHT (R148). -/
def execSetLight (tag : Byte) (payload : List Byte) (s : State) : Result :=
  .next (frameArrives { kind := Kind.setLight.code, tag := tag, payload := payload } s)

/-- STORE_STEPS (R105, R106). -/
def execStoreSteps (tag : Byte) (payload : List Byte) (s : State) : Result :=
  .next (frameArrives { kind := Kind.storeSteps.code, tag := tag, payload := payload } s)

/-- READ_STEPS (R107). -/
def execReadSteps (tag : Byte) (payload : List Byte) (s : State) : Result :=
  .next (frameArrives { kind := Kind.readSteps.code, tag := tag, payload := payload } s)

/-- START (R113, R114). -/
def execStart (tag : Byte) (payload : List Byte) (s : State) : Result :=
  .next (frameArrives { kind := Kind.start.code, tag := tag, payload := payload } s)

/-- PROBE (R115). -/
def execProbe (tag : Byte) (payload : List Byte) (s : State) : Result :=
  .next (frameArrives { kind := Kind.probe.code, tag := tag, payload := payload } s)

/-- HALT (R116). -/
def execHalt (tag : Byte) (payload : List Byte) (s : State) : Result :=
  .next (frameArrives { kind := Kind.halt.code, tag := tag, payload := payload } s)

/-- LINE_SET (R131). -/
def execLineSet (tag : Byte) (payload : List Byte) (s : State) : Result :=
  .next (frameArrives { kind := Kind.lineSet.code, tag := tag, payload := payload } s)

/-- ASSIGN_LINE (R166). -/
def execAssignLine (tag : Byte) (payload : List Byte) (s : State) : Result :=
  .next (frameArrives { kind := Kind.assignLine.code, tag := tag, payload := payload } s)

/-- FETCH_NOTICE (R162). -/
def execFetchNotice (tag : Byte) (payload : List Byte) (s : State) : Result :=
  .next (frameArrives { kind := Kind.fetchNotice.code, tag := tag, payload := payload } s)

/-- UNKNOWN_KIND_REQUEST (R173). -/
def execUnknownKindRequest (kind tag : Byte) (payload : List Byte) (s : State) : Result :=
  .next (frameArrives { kind := kind, tag := tag, payload := payload } s)

/-- FRAME_HELD (R172). -/
def execFrameHeld (kind tag : Byte) (payload : List Byte) (s : State) : Result :=
  .next (frameArrives { kind := kind, tag := tag, payload := payload } s)

/-! ## The serial link -/

/-- FRAME_DISCARD (R171, log 6). -/
def execFrameDiscard (rx : RxByte) (s : State) : Result := .next (receive rx s)

/-- BYTE_GAP_EXPIRY (R171). -/
def execByteGapExpiry (s : State) : Result := .next (gapExpiry s)

/-- REPLY_SENT (R172, R176). -/
def execReplySent (s : State) : Result := .next (replySent s)

/-- BYTE_RECEIVED (R171, log 6). -/
def execByteReceived (byte : Byte) (s : State) : Result := .next (receive (.good byte) s)

/-! ## The part's own events -/

/-- CONVERSION_END (R23, R32). -/
def execConversionEnd (code : Code) (s : State) : Result := .next (conversionEnd code s)

/-- BRIDGE_TRIGGER_ARRIVAL (R26, R27). -/
def execBridgeTriggerArrival (bridge : Bridge) (s : State) : Result := .next (bridgeTrigger bridge s)

/-- WATCH_INTERVAL_EXPIRY (R35). -/
def execWatchIntervalExpiry (s : State) : Result := .next (watchExpiry s)

/-- SHORT_COMPARATOR_ASSERT (R17). -/
def execShortComparatorAssert (bridge : Bridge) (s : State) : Result := .next (comparatorAsserts bridge s)

/-- SHORT_COMPARATOR_DEASSERT (R17). -/
def execShortComparatorDeassert (bridge : Bridge) (s : State) : Result := .next (comparatorDeasserts bridge s)

/-- HOLD_EXPIRY (R9, R10). -/
def execHoldExpiry (s : State) : Result := .next (holdExpiry s)

/-- GRACE_EXPIRY (R14). -/
def execGraceExpiry (s : State) : Result := .next (graceExpiry s)

/-- DRIVE_FRAME_EXPIRY (R73). -/
def execDriveFrameExpiry (s : State) : Result := .next (driveFrameExpiry s)

/-- SERVO_FRAME_EXPIRY (R93, R129). -/
def execServoFrameExpiry (s : State) : Result := .next (servoFrameExpiry s)

/-- RELAX_TIMER_EXPIRY (R97). -/
def execRelaxTimerExpiry (s : State) : Result := .next (relaxExpiry s)

/-- CLUTCH_TRAVEL_EXPIRY (R127). -/
def execClutchTravelExpiry (s : State) : Result := .next (clutchExpiry s)

/-- LIGHT_FRAME_EXPIRY (R146, R134, R135, R167). -/
def execLightFrameExpiry (pins : PinLevels) (s : State) : Result := .next (lightFrameExpiry pins s)

/-- STALL_TIMER_EXPIRY (R138). -/
def execStallTimerExpiry (s : State) : Result := .next (stallExpiry s)

end Sys2Proof.Machine
end

