-- ==== Sys2Proof/Machine/Dispatch.lean ====
section
/-! DEFINITION. The effect of each command on everything but the queue: one arm per constructor. -/

namespace Sys2Proof.Machine

/-- The effect of a command. -/
def exec (i : Instr) (s : State) : Host.Outcome State Fault Refusal :=
  match i with
  | .fullReset => Sys2Proof.Machine.execFullReset s
  | .softReset => Sys2Proof.Machine.execSoftReset s
  | .identify tag payload => Sys2Proof.Machine.execIdentify tag payload s
  | .status tag payload => Sys2Proof.Machine.execStatus tag payload s
  | .reset tag payload => Sys2Proof.Machine.execReset tag payload s
  | .get tag payload => Sys2Proof.Machine.execGet tag payload s
  | .set tag payload => Sys2Proof.Machine.execSet tag payload s
  | .arm tag payload => Sys2Proof.Machine.execArm tag payload s
  | .park tag payload => Sys2Proof.Machine.execPark tag payload s
  | .drive tag payload => Sys2Proof.Machine.execDrive tag payload s
  | .steerMode tag payload => Sys2Proof.Machine.execSteerMode tag payload s
  | .setLight tag payload => Sys2Proof.Machine.execSetLight tag payload s
  | .storeSteps tag payload => Sys2Proof.Machine.execStoreSteps tag payload s
  | .readSteps tag payload => Sys2Proof.Machine.execReadSteps tag payload s
  | .start tag payload => Sys2Proof.Machine.execStart tag payload s
  | .probe tag payload => Sys2Proof.Machine.execProbe tag payload s
  | .halt tag payload => Sys2Proof.Machine.execHalt tag payload s
  | .lineSet tag payload => Sys2Proof.Machine.execLineSet tag payload s
  | .assignLine tag payload => Sys2Proof.Machine.execAssignLine tag payload s
  | .fetchNotice tag payload => Sys2Proof.Machine.execFetchNotice tag payload s
  | .unknownKindRequest kind tag payload => Sys2Proof.Machine.execUnknownKindRequest kind tag payload s
  | .frameHeld kind tag payload => Sys2Proof.Machine.execFrameHeld kind tag payload s
  | .frameDiscard rx => Sys2Proof.Machine.execFrameDiscard rx s
  | .byteGapExpiry => Sys2Proof.Machine.execByteGapExpiry s
  | .replySent => Sys2Proof.Machine.execReplySent s
  | .conversionEnd code => Sys2Proof.Machine.execConversionEnd code s
  | .bridgeTriggerArrival bridge => Sys2Proof.Machine.execBridgeTriggerArrival bridge s
  | .watchIntervalExpiry => Sys2Proof.Machine.execWatchIntervalExpiry s
  | .shortComparatorAssert bridge => Sys2Proof.Machine.execShortComparatorAssert bridge s
  | .shortComparatorDeassert bridge => Sys2Proof.Machine.execShortComparatorDeassert bridge s
  | .holdExpiry => Sys2Proof.Machine.execHoldExpiry s
  | .graceExpiry => Sys2Proof.Machine.execGraceExpiry s
  | .driveFrameExpiry => Sys2Proof.Machine.execDriveFrameExpiry s
  | .servoFrameExpiry => Sys2Proof.Machine.execServoFrameExpiry s
  | .relaxTimerExpiry => Sys2Proof.Machine.execRelaxTimerExpiry s
  | .clutchTravelExpiry => Sys2Proof.Machine.execClutchTravelExpiry s
  | .lightFrameExpiry pins => Sys2Proof.Machine.execLightFrameExpiry pins s
  | .stallTimerExpiry => Sys2Proof.Machine.execStallTimerExpiry s
  | .byteReceived byte => Sys2Proof.Machine.execByteReceived byte s

end Sys2Proof.Machine
end

