-- ==== Sys2Proof/Safety.lean ====
section
/-! DEFINITION. What holds of the CW-420 at all times: the invariants that the spec's prose gives, as
predicates on the state. Each holds at State.reset and is kept by every command; none speaks of the
queue. -/

namespace Sys2Proof.Machine

/-! ## Notices (09 R160) -/

/-- The six non-unit kinds of a notice (09 section 9.1). -/
inductive NoticeKind where
  | opstate | trip | failsafe | stage | watch | line
deriving DecidableEq, Repr

/-- The non-unit kind of an entry; none for UNIT_ENDED. -/
def Notice.kind : Notice → Option NoticeKind
  | .unitEnded _ => none
  | .opstate _ _ _ => some .opstate
  | .trip _ _ => some .trip
  | .failsafe _ _ => some .failsafe
  | .stage _ _ _ _ => some .stage
  | .watch _ _ _ _ _ => some .watch
  | .line _ _ => some .line

/-- R160: the list never holds more than 8 entries, nor two entries of the same non-unit kind. -/
def QueueOk (q : List Notice) : Prop := q.length ≤ 8 ∧ (q.filterMap Notice.kind).Nodup

/-! ## The operating state (01) -/

/-- R7, R9, R12 to R16, R19, R154, R77, R84: what the operating state fixes. -/
structure VehicleOk (s : State) : Prop where
  /-- R7: the hold timer runs in ARMED and in FAILSAFE. -/
  hold : s.vsc.hold.isSome = true ↔ s.vsc.op = .armed ∨ s.vsc.op = .failsafe
  /-- R12 to R14, R19: the grace timer runs in SHUTTING_DOWN. -/
  grace : s.vsc.grace.isSome = true ↔ s.vsc.op = .shuttingDown
  /-- R12 to R14, R19: a shutdown in progress has an origin. -/
  origin : s.vsc.origin ≠ .none ↔ s.vsc.op = .shuttingDown
  /-- R19, R21: the first cause stands while the part is TRIPPED. -/
  first : s.vsc.firstCause.isSome = true ↔ s.vsc.op = .tripped
  /-- R15: while the stage is CUTOFF the operating state is PARKED, SHUTTING_DOWN or TRIPPED. -/
  cutoff : s.sup.stage = .cutoff → s.vsc.op ≠ .armed ∧ s.vsc.op ≠ .failsafe
  /-- R4, R8, R9: the hold expiries since ARMED was last entered. -/
  count : (s.vsc.op = .armed → s.vsc.expiryCount = 0) ∧ (s.vsc.op = .failsafe → s.vsc.expiryCount = 1)
  /-- R154: the hazard phase runs in FAILSAFE and in TRIPPED. -/
  hazard : s.ltc.hazard.isSome = true ↔ s.vsc.op = .failsafe ∨ s.vsc.op = .tripped
  /-- R77, R80 to R84: the traction state is OFF in PARKED and in TRIPPED. -/
  off : s.trc.state = .off ↔ s.vsc.op = .parked ∨ s.vsc.op = .tripped
  /-- R83, R84: TRC holds the WINCH bridge open while the part is TRIPPED. -/
  winchOpen : s.trc.winchOpen = true ↔ s.vsc.op = .tripped

/-! ## Bridges (04 R68) -/

/-- R68 for one axle: DRIVE exactly when the applied duty is not 0; no bridge drives in PARKED and
TRIPPED, where both axle bridges are OPEN. -/
structure AxleOk (s : State) (x : Axle) : Prop where
  drive : s.trc.mode.get x = .drive ↔ s.trc.applied.get x ≠ 0
  still : s.vsc.op = .parked ∨ s.vsc.op = .tripped → s.trc.mode.get x = .bridgeOpen

/-! ## The traction state and the braking flag (04 R77, R78) -/

/-- R77: an axle brakes: its applied duty is not 0, and stands against its target or above it. -/
def axleBrakes (s : State) (x : Axle) : Prop :=
  let a := s.trc.applied.get x
  let target := s.trc.target.get x
  a ≠ 0 ∧ ((0 < a ∧ target < 0) ∨ (a < 0 ∧ 0 < target) ∨ target.natAbs < a.natAbs)

/-- R77: the operating state lets the axles be driven, and nothing holds them. -/
def axlesFree (s : State) : Prop := s.vsc.op ≠ .parked ∧ s.vsc.op ≠ .tripped ∧ s.trc.hold = .none

/-- R77: both targets and both applied duties are 0. -/
def axlesIdle (s : State) : Prop := s.trc.target = ⟨0, 0⟩ ∧ s.trc.applied = ⟨0, 0⟩

/-- R77, R78: the traction state is the classification in its order, and the braking flag is set while one of
its four conditions holds. The DRAG_BRAKE of the second is the one in force (log 20). -/
structure TractionOk (s : State) : Prop where
  off : s.vsc.op = .parked ∨ s.vsc.op = .tripped → s.trc.state = .off
  held : s.vsc.op ≠ .parked → s.vsc.op ≠ .tripped → s.trc.hold ≠ .none → s.trc.state = .held
  neutral : axlesFree s → axlesIdle s → s.trc.state = .neutral
  braking : axlesFree s → ¬ axlesIdle s → (∃ x, axleBrakes s x) → s.trc.state = .braking
  moving : axlesFree s → ¬ axlesIdle s → (∀ x, ¬ axleBrakes s x) →
    s.trc.state = if 0 < s.trc.throttle then .forward else .reverse
  flag : s.trc.braking = true ↔
    s.trc.state = .braking ∨ (s.trc.state = .neutral ∧ 0 < s.trc.dragInForce) ∨
    (s.trc.state = .held ∧ ((∃ x, s.trc.applied.get x ≠ 0) ∨
      ∃ x, 0 < (s.trc.mode.get x).strength ∧
        ¬ (s.vsc.op = .armed ∧ (digHold s.trc.digInForce x).isSome = true)))

/-! ## Scans and trigger waits (02 R23, R26) -/

/-- R23, R26: a trigger wait stands only at the slot of its bridge in a CONTINUOUS scan, and only while that
bridge is driven; a WATCH scan is at no triggered slot. -/
structure ScanOk (s : State) : Prop where
  wait : ∀ b, s.scn.wait = some b → s.duty b ≠ 0 ∧ ∃ c, s.scn.scan = some c ∧ c.kind = .continuous ∧
    c.slot = match b with
      | .front => 5
      | .rear => 6
      | .winch => 7
  watch : ∀ c, s.scn.scan = some c → c.kind = .watch → c.slot.val < 4 ∨ 8 ≤ c.slot.val

/-! ## Caps (03 R63, 04 R75, R85, 07 R134, 08 R156) -/

/-- R63: no consumer lies above its cap in the latest allocation; R85: nor an axle above the assist cap. -/
structure CapsOk (s : State) : Prop where
  axle : ∀ x, (s.trc.applied.get x).natAbs ≤ s.sup.alloc.dutyCap.get x.bridge
  assist : ∀ cap, s.trc.assist = some cap → ∀ x, (s.trc.applied.get x).natAbs ≤ cap
  winch : s.wch.applied ≤ s.sup.alloc.dutyCap.winch
  light : ∀ c : Chan, (s.chan c).applied ≤ min s.sup.alloc.budgetCap[c] s.sup.alloc.stageCap[c]

/-! ## Grants and overlays (03 R57, 08 R152 to R154) -/

/-- R57: the grants and what is unassigned make up the ceiling, and no consumer is granted more than it
demands. -/
structure GrantsOk (a : Allocation) : Prop where
  sum : a.grant.servo + (a.grant.light.toList).sum +
    (a.grant.bridge.front + a.grant.bridge.rear + a.grant.bridge.winch) + a.unassigned = a.ceiling
  servo : a.grant.servo ≤ a.demand.servo
  light : ∀ c : Chan, a.grant.light[c] ≤ a.demand.light[c]
  bridge : ∀ b, a.grant.bridge.get b ≤ a.demand.bridge.get b

/-- R152: the condition of a channel's overlay function, from what TRC, STC and VSC publish. -/
def overlayHolds (s : State) (c : Chan) : Prop :=
  let fn := s.cfg.ltc.chan[c].overlay
  let moving : Prop := s.vsc.op = .armed ∨ s.vsc.op = .failsafe ∨ s.vsc.op = .shuttingDown
  let slow : Prop := s.trc.applied.front.natAbs ≤ s.cfg.ltc.slowThreshold
  (fn = .brake ∧ moving ∧ s.trc.braking = true) ∨
  (fn = .reverse ∧ moving ∧ s.trc.applied.rear < 0) ∨
  (fn = .turnLeft ∧ s.vsc.op = .armed ∧ s.stc.steer < -(s.cfg.ltc.turnThreshold : Int) ∧ slow) ∨
  (fn = .turnRight ∧ s.vsc.op = .armed ∧ (s.cfg.ltc.turnThreshold : Int) < s.stc.steer ∧ slow)

/-- R152 to R154: a channel's overlay state is what its function's condition and the hazard give. -/
def OverlaysOk (s : State) : Prop := ∀ c : Chan,
  if s.cfg.ltc.chan[c].overlay.isTurn = true then
    (s.ltc.hazard.isSome = true → (s.chan c).overlay = .hazard) ∧
    (s.ltc.hazard = none → overlayHolds s c → ∃ phase, (s.chan c).overlay = .blink phase) ∧
    (s.ltc.hazard = none → ¬ overlayHolds s c → (s.chan c).overlay = .idle)
  else (overlayHolds s c → (s.chan c).overlay = .on) ∧ (¬ overlayHolds s c → (s.chan c).overlay = .idle)

/-! ## Settings (10 section 10.4, 03 R43) -/

/-- Every setting lies in its range, and the stage levels stand in their order (R43, R178). -/
structure SettingsOk (c : Settings) : Prop where
  range : ∀ k : Key, k.low ≤ c.value k ∧ c.value k ≤ k.high
  levels : c.sup.cutoffLevel < c.sup.reserveLevel ∧ c.sup.reserveLevel < c.sup.cautionLevel

/-! ## Steering pulses (05 R93) -/

/-- R89, R93: an axle's pulse lies in its output window. -/
def inWindow (cfg : AxleCfg) (pulse : Nat) : Prop := windowLow cfg ≤ pulse ∧ pulse ≤ windowHigh cfg

/-- R93: both pulses of both axles lie in their windows, for a steer command in its range. -/
structure SteerOk (s : State) : Prop where
  settings : SettingsOk s.cfg
  steer : -1000 ≤ s.stc.steer ∧ s.stc.steer ≤ 1000
  target : ∀ x, inWindow (s.cfg.stc.axle.get x) (s.stc.target.get x)
  output : ∀ x, inWindow (s.cfg.stc.axle.get x) (s.stc.output.get x)

/-! ## The line position and the lines (07 R130, 09 R166) -/

/-- R130: P stays within 0..LINE_MAX × 10 at all times. -/
def LineOk (s : State) : Prop := s.wch.position ≤ s.cfg.wch.lineMax * 10

/-- R166: DRUM_PULSE, FAIRLEAD and CLUTCH_SERVO are each the function of at most one line. -/
def LinesOk (s : State) : Prop := ∀ i j : Fin 4, (s.lmx.lines[i]).fn = (s.lmx.lines[j]).fn →
  (s.lmx.lines[i]).fn = .drumPulse ∨ (s.lmx.lines[i]).fn = .fairlead ∨ (s.lmx.lines[i]).fn = .clutchServo → i = j

/-! ## The store (06 R104, R106) -/

/-- A link's loop count fills its byte. -/
def Link.ok : Link → Prop
  | .stop => True
  | .next => True
  | .goto _ loops => loops ≤ 255

/-- R106: an amount lies in its range. -/
def EndOn.ok : EndOn → Prop
  | .distance mm => 1 ≤ mm ∧ mm ≤ 20000
  | .time n => 1 ≤ n ∧ n ≤ 65535
  | .load mA => 1 ≤ mA ∧ mA ≤ 40000
  | .fairlead => True

/-- R106: the fields of a record lie in their ranges. -/
def StepRec.ok : StepRec → Prop
  | .empty => True
  | .light r => r.level ≤ 255 ∧ r.fade ≤ 1000 ∧ r.hold ≤ 1000 ∧ r.link.ok
  | .winch r => r.speed ≤ 1000 ∧ r.endOn.ok ∧ r.link.ok

/-- R104: every stored record can be read without further checks of range. -/
def StoreOk (s : State) : Prop := ∀ slot : Slot, (s.pgc.store[slot]).ok

/-! ## Units (06 R108, R112, R121, 08 section 8.3) -/

/-- The unit is RUNNING or HALTING. -/
def UnitCtx.active (x : UnitCtx) : Bool := decide (x.state ≠ .idle)

/-- R108: how many units in RUNNING or HALTING hold a slot in their walked set. -/
def holders (s : State) (slot : Slot) : Nat :=
  allUnits.countP fun u => (s.unit u).active && (s.unit u).walked.contains slot

/-- The UNIT_ENDED entries of a unit in a list. -/
def endings (u : UnitNo) (q : List Notice) : Nat :=
  q.countP fun n => match n with
    | .unitEnded e => decide (e.unit = u)
    | _ => false

/-- The ending statuses of a unit that are held: those in the queue and the stacked one. -/
def statuses (s : State) (u : UnitNo) : Nat := endings u s.nq + (s.unit u).stacked.isSome.toNat

/-- R125: a winch step has begun: the winch is powered, holds or freewheels. -/
def WinchBegun (s : State) : Prop :=
  s.wch.state = .runningPowered ∨ s.wch.state = .holding ∨ s.wch.state = .freewheel

/-- R108, R112, R117, R121, R132 and 08 section 8.3: what ties the units to the blocks that run them. -/
structure UnitsOk (s : State) : Prop where
  /-- R108: every slot's use count. -/
  use : ∀ slot : Slot, s.pgc.useCount[slot] = holders s slot
  /-- R121: at most one outstanding status, held in one place; a unit that has one is IDLE. -/
  outstanding : ∀ u, statuses s u ≤ 1 ∧ ((s.unit u).active = true → statuses s u = 0)
  /-- A stacked status is of its own unit. -/
  own : ∀ u e, (s.unit u).stacked = some e → e.unit = u
  /-- R112: the winch unit is RUNNING or HALTING only in ARMED, FAILSAFE or SHUTTING_DOWN. -/
  winch : (s.unit 0).active = true → s.vsc.op ≠ .parked ∧ s.vsc.op ≠ .tripped
  /-- R140: with the winch unit IDLE the winch state is IDLE. -/
  idle : (s.unit 0).state = .idle → s.wch.state = .idle
  /-- R132, R117: a step begins with the clutch where it needs it, and a unit with a still clutch is never
  HALTING. -/
  begun : WinchBegun s → (s.unit 0).state = .running ∧ s.wch.clutch.moving = false
  /-- R12, R117: the entry to SHUTTING_DOWN halts a RUNNING winch unit, and none starts there. -/
  halted : s.vsc.op = .shuttingDown → (s.unit 0).state ≠ .running
  /-- 08 section 8.3: a channel's source is PROGRAM while its unit is RUNNING, and MANUAL while it is IDLE;
  a light unit is never HALTING. -/
  source : ∀ c : Chan, (s.unit (unitOf c)).state ≠ .halting ∧
    ((s.chan c).source = .program ↔ (s.unit (unitOf c)).state = .running)

/-! ## Requests and replies (10 R171 to R173) -/

/-- The link after a request has been taken and answered at its arrival: the parser hunts, the request is
in hand, its reply is being sent with the overrun flag copied into it, and the flag is clear. -/
def Lnk.answered (l : Lnk) (kind tag : Byte) (payload : List Byte) (a : Answer) (pending : Nat) : Lnk :=
  { parser := .hunt, frame := [], gap := false,
    inHand := some { kind := kind, tag := tag, payload := payload }
    reply := some { kind := kind + 0x80, tag := tag, outcome := a.outcome, pending := pending,
                    overrun := l.overrun, fields := a.fields }
    holding := l.holding, overrun := false }

/-- The state `t` that a request's owner left, with the link of `s` after the request has been answered;
PENDING counts what stands after the request's effects (R164). -/
def replied (s t : State) (kind tag : Byte) (payload : List Byte) (outcome : ReplyOutcome)
    (fields : List Byte) : State :=
  { t with lnk := s.lnk.answered kind tag payload ⟨outcome, fields⟩ t.pendingCount }

/-- The reply being sent, and the rest of the link after a request has been answered. -/
def AnsweredBy (s t : State) (kind tag : Byte) (payload : List Byte) (outcome : ReplyOutcome)
    (fields : List Byte) : Prop :=
  t.lnk = s.lnk.answered kind tag payload ⟨outcome, fields⟩ t.pendingCount

/-- R113, R115, R131: the progress block of 11 section 11.3 in its eight bytes. -/
def progressBytes (s : State) (u : UnitNo) : List Byte :=
  let x := s.unit u
  u8 x.state.code ++ u8 x.current.val ++ u8 (x.walked.findIdx (· == x.current) + 1) ++ u16 x.progress ++
    u16 x.loop.wire ++ optCode EndCause.code x.haltCause

/-- R113, R115, R143: the fields of a BUSY reply of START or PROBE: the progress block, and for the winch unit P in
whole mm on one side of it, which is free (log 44). -/
def BusyFields (s : State) (u : UnitNo) (fields : List Byte) : Prop :=
  let block := progressBytes s u
  let p := u16 (s.wch.position / 10)
  (u ≠ 0 → fields = block) ∧ (u = 0 → fields = p ++ block ∨ fields = block ++ p)

/-- R70, R75: an axle's fields in a DRIVE reply: target, applied duty and limiter, then duty cap and derate flag in
an order that is free (log 41); the bytes of an applied duty below 0 are free (log 33). -/
def DriveAxleFields (s : State) (x : Axle) (fields : List Byte) : Prop :=
  let front := i16 (s.trc.target.get x) ++ dutyField (s.trc.applied.get x) ++ u8 (s.trc.limiter.get x).code
  let cap := u16 (s.sup.alloc.dutyCap.get x.bridge)
  let derate := flagByte (s.sup.alloc.derate.get x.bridge)
  fields = front ++ (cap ++ derate) ∨ fields = front ++ (derate ++ cap)

/-- The frame that a command is the arrival of, with the KIND code of 11 section 11.3. -/
def frameOfCommand : Instr → Option Frame
  | .identify tag p => some ⟨0x01, tag, p⟩
  | .status tag p => some ⟨0x02, tag, p⟩
  | .reset tag p => some ⟨0x03, tag, p⟩
  | .get tag p => some ⟨0x04, tag, p⟩
  | .set tag p => some ⟨0x05, tag, p⟩
  | .arm tag p => some ⟨0x10, tag, p⟩
  | .park tag p => some ⟨0x11, tag, p⟩
  | .drive tag p => some ⟨0x12, tag, p⟩
  | .steerMode tag p => some ⟨0x13, tag, p⟩
  | .setLight tag p => some ⟨0x14, tag, p⟩
  | .storeSteps tag p => some ⟨0x20, tag, p⟩
  | .readSteps tag p => some ⟨0x21, tag, p⟩
  | .start tag p => some ⟨0x22, tag, p⟩
  | .probe tag p => some ⟨0x23, tag, p⟩
  | .halt tag p => some ⟨0x24, tag, p⟩
  | .lineSet tag p => some ⟨0x25, tag, p⟩
  | .assignLine tag p => some ⟨0x26, tag, p⟩
  | .fetchNotice tag p => some ⟨0x30, tag, p⟩
  | .unknownKindRequest kind tag p => some ⟨kind, tag, p⟩
  | .frameHeld kind tag p => some ⟨kind, tag, p⟩
  | .fullReset => none
  | .softReset => none
  | .frameDiscard _ => none
  | .byteGapExpiry => none
  | .replySent => none
  | .conversionEnd _ => none
  | .bridgeTriggerArrival _ => none
  | .watchIntervalExpiry => none
  | .shortComparatorAssert _ => none
  | .shortComparatorDeassert _ => none
  | .holdExpiry => none
  | .graceExpiry => none
  | .driveFrameExpiry => none
  | .servoFrameExpiry => none
  | .relaxTimerExpiry => none
  | .clutchTravelExpiry => none
  | .lightFrameExpiry _ => none
  | .stallTimerExpiry => none
  | .byteReceived _ => none

/-- The payload lengths that 11 section 11.3 allows a request kind (R180); for STORE_STEPS the length
depends on the count in the payload. -/
def lengthAllowed (kind : Byte) (p : List Byte) : Bool :=
  match kind.toNat with
  | 0x01 => p.length = 0
  | 0x02 => p.length = 2
  | 0x03 => p.length = 0
  | 0x04 => p.length = 2
  | 0x05 => p.length = 4
  | 0x10 => p.length = 0
  | 0x11 => p.length = 0
  | 0x12 => p.length = 5
  | 0x13 => p.length = 1
  | 0x14 => p.length = 2
  | 0x20 => [1, 2, 3, 4, 5, 6].any fun n => (p[1]? = some (BitVec.ofNat 8 n)) && (p.length = 2 + 8 * n)
  | 0x21 => p.length = 2
  | 0x22 => p.length = 3
  | 0x23 => p.length = 1
  | 0x24 => p.length = 1
  | 0x25 => p.length = 2
  | 0x26 => p.length = 2
  | 0x30 => p.length = 0
  | _ => false

/-- The bytes of a request frame on RX (R169, 11 section 11.2). -/
def frameBytes (f : Frame) : List Byte :=
  let body := [BitVec.ofNat 8 (f.payload.length + 2), f.kind, f.tag] ++ f.payload
  [0xC3] ++ body ++ [crc8 body]

/-- The commands of a list taken one after another. -/
def runCommands : List Instr → State → Result
  | [], s => .next s
  | c :: rest, s =>
    match exec c s with
    | .next t => runCommands rest t
    | .fault r => .fault r
    | .refused r => .refused r

/-! ## Levels and overlays (08 R152 to R155) -/

/-- R155, R55: the desired level and the demand of a channel are formed from its levels and its overlay. -/
def LevelFormed (cfg : ChanCfg) (hazard : Option Nat) (ch : Channel) : Prop :=
  ch.desired = max (if ch.source = .manual then ch.manual else ch.program)
    (if overlayLit ch.overlay hazard = true then cfg.overlayLevel else 0) ∧
  ch.demand = ch.desired * cfg.rated / 255

/-- R152 to R155: what the overlay test makes of a channel's record, in the state `t` that it is made in: the
overlay that the condition and the hazard give, a blink that goes on keeping its phase and a new one starting
at 0, and the level formed anew where the overlay changes. -/
def OverlayTested (t : State) (c : Chan) (before : Channel) : Prop :=
  let turn : Prop := t.cfg.ltc.chan[c].overlay.isTurn = true
  let after := t.chan c
  { after with overlay := .idle, desired := 0, demand := 0 } =
    { before with overlay := .idle, desired := 0, demand := 0 } ∧
  (turn → t.ltc.hazard.isSome = true → after.overlay = .hazard) ∧
  (turn → t.ltc.hazard = none → overlayHolds t c →
    after.overlay = match before.overlay with
      | .blink phase => .blink phase
      | _ => .blink 0) ∧
  (turn → t.ltc.hazard = none → ¬ overlayHolds t c → after.overlay = .idle) ∧
  (¬ turn → overlayHolds t c → after.overlay = .on) ∧
  (¬ turn → ¬ overlayHolds t c → after.overlay = .idle) ∧
  (after.overlay = before.overlay → after = before) ∧
  (after.overlay ≠ before.overlay → LevelFormed t.cfg.ltc.chan[c] t.ltc.hazard after)

/-- R152 to R155: the overlays after an event that tests them more than once: each is what its condition and the
hazard give at the end, and the level is formed anew with a changed overlay. -/
def OverlaysSettle (s t : State) : Prop :=
  OverlaysOk t ∧ ∀ c : Chan,
    ((t.chan c).overlay = (s.chan c).overlay ∧ (t.chan c).desired = (s.chan c).desired ∧
      (t.chan c).demand = (s.chan c).demand) ∨
    LevelFormed t.cfg.ltc.chan[c] t.ltc.hazard (t.chan c)

/-! ## What the entries leave (01) -/

/-- R119: the ending status of a unit, from its context and from the executing block's report. -/
def endingOf (s : State) (u : UnitNo) (cause : EndCause) (residual finalPos : Nat) : EndingStatus :=
  { unit := u, cause := cause, lastSlot := (s.unit u).current, residual := residual,
    loops := loopsRemaining s (s.unit u), finalPos := finalPos, tag := (s.unit u).tag }

/-- R140: the ending status of the winch unit, cut short with a cause. -/
def winchEnding (s : State) (cause : EndCause) : EndingStatus :=
  endingOf s 0 cause (winchResidual s.wch) (s.wch.position / 10)

/-- The notices and the stacked statuses of `t` are those of `x`. -/
def SameNotices (t x : State) : Prop := t.nq = x.nq ∧ ∀ u, (t.unit u).stacked = (x.unit u).stacked

/-- The settings, the program store, the lines and the queue of commands are left as they are. -/
def SameStores (s t : State) : Prop :=
  t.cfg = s.cfg ∧ t.pgc.store = s.pgc.store ∧ t.lmx = s.lmx ∧ t.pending = s.pending

/-- The light channels keep their levels, sources and steps; only overlays and what follows from them may
differ. -/
def SameLevels (s t : State) : Prop :=
  ∀ c : Chan, (t.chan c).manual = (s.chan c).manual ∧ (t.chan c).source = (s.chan c).source ∧
    (t.chan c).program = (s.chan c).program ∧ (t.chan c).step = (s.chan c).step ∧
    (t.chan c).frames = (s.chan c).frames ∧ (t.chan c).applied = (s.chan c).applied

/-- The light units run on; a notice may stack one of their statuses (R160). -/
def SameLightUnits (s t : State) : Prop :=
  ∀ c : Chan, { t.unit (unitOf c) with stacked := none } = { s.unit (unitOf c) with stacked := none }

/-- SCN's record but for a trigger wait, which ends where the applied duty of its bridge becomes 0 and stays
while that bridge is driven (R26). -/
def SameScan (s t : State) : Prop :=
  { t.scn with wait := none } = { s.scn with wait := none } ∧ (s.scn.wait = none → t.scn.wait = none) ∧
  ∀ b, s.scn.wait = some b → (t.duty b ≠ 0 → t.scn.wait = some b) ∧
    (s.duty b ≠ 0 → t.duty b = 0 → t.scn.wait = none)

/-- R140: WCH's record after the winch program has ended. -/
def Wch.ended (w : Wch) : Wch :=
  { w with state := .idle, step := none, stall := none, assist := false, applied := 0 }

/-- R14, R16, R34, R83, R101, R128, R154: what the entry to PARKED leaves in the blocks that it acts on; `w` is
WCH's record as the event found or left it. That the hold reason is none at every such entry is the model's reading
(log 42). -/
def ParksBlocks (s t : State) (w : Wch) : Prop :=
  t.vsc.op = .parked ∧ t.vsc.latch = true ∧ t.vsc.hold = none ∧ t.vsc.grace = none ∧
  t.vsc.origin = .none ∧ t.vsc.comparator = s.vsc.comparator ∧ t.vsc.measured = s.vsc.measured ∧
  t.scn = { s.scn with mode := .watch, scan := some (Scan.begin .watch), wait := none, overcurrent := 0,
                       excursion := false, watchTimer := some s.cfg.scn.watchInterval } ∧
  t.trc.state = .off ∧ t.trc.hold = .none ∧ t.trc.throttle = 0 ∧ t.trc.target = ⟨0, 0⟩ ∧
  t.trc.applied = ⟨0, 0⟩ ∧ t.trc.mode = ⟨.bridgeOpen, .bridgeOpen⟩ ∧ t.trc.limiter = ⟨.none, .none⟩ ∧
  t.trc.braking = false ∧ t.trc.winchOpen = false ∧ t.trc.digRequested = s.trc.digRequested ∧
  t.trc.digInForce = s.trc.digInForce ∧ t.trc.ratioInForce = s.trc.ratioInForce ∧
  t.stc = { s.stc with out := .stopped, frozen := false, relax := none, steer := 0, pendingMode := none,
                       target := ⟨s.cfg.stc.axle.front.centre, s.cfg.stc.axle.rear.centre⟩
                       output := ⟨s.cfg.stc.axle.front.centre, s.cfg.stc.axle.rear.centre⟩
                       pulse := ⟨none, none⟩ } ∧
  t.wch = { w with clutch := if w.clutch.moving then .unknown else w.clutch
                   clutchTimer := if w.clutch.moving then none else w.clutchTimer
                   pulse := none } ∧
  t.ltc.hazard = none ∧ (∀ c : Chan, (t.chan c).overlay = .idle) ∧ TractionOk t ∧ SameStores s t

/-- The entry to PARKED, where nothing else happens at the event: the supply, the levels and the light units are
as they were. -/
def EntersParked (s t : State) (w : Wch) : Prop :=
  ParksBlocks s t w ∧ OverlaysSettle s t ∧ t.sup = s.sup ∧ SameLevels s t ∧ SameLightUnits s t

/-- R101: the output pulses after relaxed outputs are woken at their present targets (log 22). -/
def wokenOutput (s : State) : PerAxle Nat := if s.stc.out = .relaxed then s.stc.target else s.stc.output

/-- R119: the winch unit's context after its end. -/
def UnitEnded (s t : State) : Prop :=
  { t.unit 0 with stacked := none } =
    { s.unit 0 with state := .idle, haltCause := none, stacked := none }

/-- R119, R140: the winch unit has ended; its status is offered elsewhere. -/
def WinchEnded (s t : State) : Prop :=
  UnitEnded s t ∧ t.wch = s.wch.ended ∧ t.trc.assist = none

/-- The winch unit and the winch are as they were. -/
def WinchKept (s t : State) : Prop :=
  { t.unit 0 with stacked := none } = { s.unit 0 with stacked := none } ∧ t.wch = s.wch ∧
  t.trc.assist = s.trc.assist

/-- R117: the winch after a halt with a cause: a RUNNING unit waits for a moving clutch and ends at once
otherwise; a halt finds a HALTING or an IDLE unit and changes nothing. -/
def WinchHalted (s t : State) (cause : EndCause) : Prop :=
  ((s.unit 0).state = .running → s.wch.clutch.moving = true →
    { t.unit 0 with stacked := none } =
      { s.unit 0 with state := .halting, haltCause := some cause, stacked := none } ∧
    t.wch = s.wch ∧ t.trc.assist = s.trc.assist) ∧
  ((s.unit 0).state = .running → s.wch.clutch.moving = false → WinchEnded s t) ∧
  ((s.unit 0).state ≠ .running → WinchKept s t)

/-- R13: what the completion test at the beginning of a shutdown will find, once the winch has been
halted. -/
def atRest (s : State) : Prop :=
  s.trc.applied = ⟨0, 0⟩ ∧ s.wch.clutch.moving = false ∧ (s.unit 0).state ≠ .halting

/-- R12, R82, R101, R117, R128, R154: what the beginning of a shutdown leaves, with the operating state and
the timers; a part already at rest reaches PARKED at the same event (R13). That the limiters are kept is log
27, that the two rows of R101 are one and that relaxed outputs keep their targets log 22, and the DRAG_BRAKE
in force log 20. -/
def BeginsShutdown (s t : State) (origin : Origin) (cause : EndCause) : Prop :=
  (atRest s → EntersParked s t (if (s.unit 0).state = .running then s.wch.ended else s.wch) ∧
    ((s.unit 0).state = .running → UnitEnded s t ∧ t.trc.assist = none) ∧
    ((s.unit 0).state = .idle → { t.unit 0 with stacked := none } = { s.unit 0 with stacked := none } ∧
      t.trc.assist = s.trc.assist)) ∧
  t.trc.dragInForce = s.cfg.trc.dragBrake ∧ t.trc.ratioInForce = s.trc.ratioInForce ∧
  (¬ atRest s →
    t.vsc.op = .shuttingDown ∧ t.vsc.origin = origin ∧ t.vsc.hold = none ∧
    t.vsc.grace = some s.cfg.vsc.grace ∧ t.vsc.latch = s.vsc.latch ∧
    t.trc.hold = .shutdown ∧ t.trc.throttle = 0 ∧ t.trc.target = ⟨0, 0⟩ ∧ t.trc.applied = s.trc.applied ∧
    t.trc.state = .held ∧ TractionOk t ∧ t.trc.digRequested = s.trc.digRequested ∧
    t.trc.digInForce = s.trc.digInForce ∧
    t.trc.mode = ⟨if s.trc.applied.front ≠ 0 then .drive else .shortBrake s.cfg.trc.dragBrake,
                  if s.trc.applied.rear ≠ 0 then .drive else .shortBrake s.cfg.trc.dragBrake⟩ ∧
    t.stc = { s.stc with out := .pulsing, frozen := false, relax := none, output := wokenOutput s } ∧
    t.trc.limiter = s.trc.limiter ∧ t.trc.winchOpen = s.trc.winchOpen ∧
    SameScan s t ∧ WinchHalted s t cause ∧ t.ltc.hazard = none ∧ OverlaysSettle s t ∧ t.sup = s.sup ∧
    SameStores s t ∧ SameLevels s t ∧ SameLightUnits s t)

/-- R2, R12, R13: the notices of a shutdown that begins: those offered before the entry actions (`noticed`),
then the ending of a winch unit that ends at once, then the arrival in PARKED of a part already at rest. -/
def ShutdownNotices (s t noticed : State) (cause : EndCause) : Prop :=
  let halted := if (s.unit 0).state = .running ∧ s.wch.clutch.moving = false
    then offerEnding (winchEnding s cause) noticed else noticed
  (¬ atRest s → SameNotices t halted) ∧
  (atRest s → SameNotices t (offer (.opstate .parked .shuttingDown .shutdownComplete) halted))

/-- R9, R81, R101, R117, R154: what the entry to FAILSAFE leaves. That the limiters are kept is log 27. -/
def EntersFailsafe (s t : State) : Prop :=
  t.vsc = { s.vsc with op := .failsafe, expiryCount := 1, hold := some s.cfg.vsc.holdTime } ∧
  t.trc.hold = .failsafe ∧ t.trc.throttle = 0 ∧ t.trc.target = ⟨0, 0⟩ ∧ t.trc.applied = ⟨0, 0⟩ ∧
  t.trc.mode = ⟨.shortBrake 1000, .shortBrake 1000⟩ ∧ t.trc.state = .held ∧ t.trc.braking = true ∧
  t.trc.digRequested = s.trc.digRequested ∧ t.trc.digInForce = s.trc.digInForce ∧
  t.trc.dragInForce = s.trc.dragInForce ∧ t.trc.ratioInForce = s.trc.ratioInForce ∧
  t.stc = { s.stc with out := .pulsing, frozen := true, relax := none, output := wokenOutput s } ∧
  t.trc.limiter = s.trc.limiter ∧ t.trc.winchOpen = s.trc.winchOpen ∧
  SameScan s t ∧ WinchHalted s t .failsafe ∧ t.ltc.hazard = some 0 ∧
  (∀ c : Chan, s.cfg.ltc.chan[c].overlay.isTurn = true → (t.chan c).overlay = .hazard) ∧
  OverlaysSettle s t ∧ t.sup = s.sup ∧
  SameStores s t ∧ SameLevels s t ∧ SameLightUnits s t

/-- R19, R84, R101, R117, R154: what the entry to TRIPPED leaves. That the limiters are kept is log 27. -/
def EntersTripped (s t : State) : Prop :=
  t.vsc.op = .tripped ∧ t.vsc.hold = none ∧ t.vsc.grace = none ∧ t.vsc.origin = .none ∧
  t.vsc.latch = s.vsc.latch ∧ t.vsc.expiryCount = s.vsc.expiryCount ∧ t.vsc.measured = s.vsc.measured ∧
  t.trc.state = .off ∧ t.trc.hold = .none ∧ t.trc.throttle = 0 ∧ t.trc.target = ⟨0, 0⟩ ∧
  t.trc.applied = ⟨0, 0⟩ ∧ t.trc.mode = ⟨.bridgeOpen, .bridgeOpen⟩ ∧ t.trc.braking = false ∧
  t.trc.winchOpen = true ∧ t.trc.digRequested = s.trc.digRequested ∧
  t.trc.digInForce = s.trc.digInForce ∧ t.trc.dragInForce = s.trc.dragInForce ∧
  t.trc.ratioInForce = s.trc.ratioInForce ∧
  t.stc = (if s.stc.out = .stopped then { s.stc with relax := none }
           else { s.stc with out := .held, frozen := true, relax := none, output := wokenOutput s }) ∧
  t.trc.limiter = s.trc.limiter ∧
  SameScan s t ∧ ((s.unit 0).state ≠ .idle → WinchEnded s t) ∧
  ((s.unit 0).state = .idle → WinchKept s t) ∧
  t.ltc.hazard = some 0 ∧
  (∀ c : Chan, s.cfg.ltc.chan[c].overlay.isTurn = true → (t.chan c).overlay = .hazard) ∧
  OverlaysSettle s t ∧ t.sup = s.sup ∧
  SameStores s t ∧ SameLevels s t ∧ SameLightUnits s t

/-! ## Steering pulses (05 R91, R92) -/

/-- R91, R92: the target pulses that a steer gives in a mode at a front duty. -/
def steerPulses (g : StcCfg) (mode : SteerMode) (steer frontDuty : Int) : PerAxle Nat :=
  let k : Int := (g.blendRatio * (1000 - frontDuty.natAbs) / 1000 : Nat)
  let front : Int := if mode = .rear then 0 else steer
  let rear : Int := match mode with
    | .front => 0
    | .rear => steer
    | .crab => steer
    | .counter => -steer
    | .blend => (-(steer * k)).tdiv 1000
  let pulse (c : AxleCfg) (angle : Int) : Nat :=
    let a := if c.reverse = true then -angle else angle
    max 500 (min 2500 (if 0 ≤ a then c.centre + a.natAbs * c.travelRight / 1000
                       else c.centre - a.natAbs * c.travelLeft / 1000))
  ⟨pulse g.axle.front front, pulse g.axle.rear rear⟩

/-- R96, R98, R99: what STC does when TRC has published the applied duties that `t` holds: relaxed outputs wake in
ARMED if an axle is driven, and the relax test follows. -/
def SteerFollowsDuties (s t : State) : Prop :=
  let g := s.cfg.stc
  let driven : Prop := t.trc.applied.front ≠ 0 ∨ t.trc.applied.rear ≠ 0
  let wakes : Prop := s.stc.out = .relaxed ∧ s.vsc.op = .armed ∧ driven
  let holds : Prop := s.vsc.op = .armed ∧ g.relaxTime ≠ 0 ∧ s.stc.out = .pulsing ∧
    s.stc.steer.natAbs ≤ g.centreBand ∧ ¬ driven
  let woken := steerPulses g s.stc.mode s.stc.steer t.trc.applied.front
  t.stc = { s.stc with
    out := if wakes then .pulsing else s.stc.out
    target := if wakes then woken else s.stc.target
    output := if wakes then woken else s.stc.output
    relax := if holds then some (s.stc.relax.getD g.relaxTime) else none }

/-! ## Axle cuts (03 R63, 04 R79, R86) -/

/-- R76: the mode of an axle bridge whose applied duty is 0. -/
def restMode (s : State) (x : Axle) : BridgeMode :=
  match s.vsc.op with
  | .parked => .bridgeOpen
  | .tripped => .bridgeOpen
  | .failsafe => .shortBrake 1000
  | .shuttingDown => .shortBrake s.cfg.trc.dragBrake
  | .armed => (digHold s.trc.digInForce x).getD
      (if s.trc.target.get x ≠ 0 then .bridgeOpen else .shortBrake s.cfg.trc.dragBrake)

/-- R79: an applied duty brought down to a cap, keeping its sign. -/
def cutTo (cap : Nat) (duty : Int) : Int := max (-(cap : Int)) (min (cap : Int) duty)

/-- R13, R79: a cut to these caps leaves both axles of a shutdown at 0 and finds the winch ended. -/
def CutCompletes (s : State) (cap : Axle → Nat) : Prop :=
  s.vsc.op = .shuttingDown ∧ (∃ x, cap x < (s.trc.applied.get x).natAbs) ∧
  (∀ x, cutTo (cap x) (s.trc.applied.get x) = 0) ∧ (s.unit 0).state = .idle ∧ s.wch.clutch.moving = false

/-- R63, R79, R86: both axles are cut to their caps with a limiter. A cut forms the traction state and the braking
flag anew and publishes the duties, which STC follows; one that leaves both axles of a shutdown at 0 completes it,
with the entry to PARKED. `w` is WCH's record as the event leaves it before that. The DRAG_BRAKE of an axle cut to 0
is the setting held (log 20), and the hold reason in PARKED none (log 42). -/
def AxlesCut (s t : State) (cap : Axle → Nat) (why : Limiter) (w : Wch) : Prop :=
  let above (x : Axle) : Prop := cap x < (s.trc.applied.get x).natAbs
  (∀ x, t.trc.applied.get x = cutTo (cap x) (s.trc.applied.get x)) ∧
  ((∀ x, ¬ above x) → t.vsc = s.vsc ∧ SameScan { s with wch := w } t ∧ t.stc = s.stc ∧ t.wch = w ∧
    t.trc = { s.trc with assist := t.trc.assist }) ∧
  ((∃ x, above x) → TractionOk t) ∧
  ((∃ x, above x) → ¬ CutCompletes s cap → t.vsc = s.vsc ∧ SameScan { s with wch := w } t ∧
    SteerFollowsDuties s t ∧ t.wch = w ∧
    t.trc = { s.trc with applied := t.trc.applied, limiter := t.trc.limiter, mode := t.trc.mode
                         state := t.trc.state, braking := t.trc.braking, assist := t.trc.assist } ∧
    ∀ x, (above x → t.trc.limiter.get x = why ∧ t.trc.mode.get x =
        if cutTo (cap x) (s.trc.applied.get x) = 0 then restMode s x else .drive) ∧
      (¬ above x → t.trc.limiter.get x = s.trc.limiter.get x ∧ t.trc.mode.get x = s.trc.mode.get x)) ∧
  (CutCompletes s cap → ParksBlocks s t w)

/-! ## Trip causes at a completion (01 R18) -/

/-- R18: a scan completion brings this cause. -/
def CauseDue (s : State) : TripCause → Prop
  | .short _ => False
  | .overtemp x => (s.cfg.vsc.tripTemp : Int) ≤ s.scn.results.temp.get x
  | .packOvercurrent => s.scn.results.kind = some .continuous ∧ 4 ≤ s.scn.results.overcurrent

/-! ## Programs (06 R110, R111, R118) -/

/-- R111: the pairs of action and end-on that the winch can carry out, by the codes of 11 section 11.4. -/
def winchPairs : List (Action × Nat) :=
  [(.inward, 0), (.inward, 1), (.inward, 2), (.inward, 3), (.outward, 0), (.outward, 1), (.outward, 2),
   (.assist, 0), (.assist, 1), (.assist, 3), (.hold, 1), (.free, 1), (.free, 0)]

/-- R111: the first check that a WINCH step fails. -/
def winchFault (s : State) (r : WinchRec) : Option WalkDetail :=
  if (r.action, r.endOn.code) ∉ winchPairs then some .badPair
  else if r.endOn.code = 0 ∧ s.hasLine .drumPulse = false then some .noDrumLine
  else if r.endOn.code = 3 ∧ s.hasLine .fairlead = false then some .noFairleadLine
  else if r.action = .free ∧ s.hasLine .clutchServo = false then some .noClutchLine
  else none

/-- R110: the first check that a slot fails, in a walk that began at `first`. -/
def walkFault (s : State) (u : UnitNo) (first slot : Slot) : Option WalkDetail :=
  if (if u = 0 then 16 else 32) ≤ slot.val - first.val then some .tooLong
  else
    match s.pgc.store[slot] with
    | .empty => some .emptyStep
    | .light r =>
      if u = 0 then some .wrongKind
      else
        match r.link with
        | .goto target _ => if first ≤ target ∧ target < slot then none else some .badTarget
        | _ => none
    | .winch r =>
      if u ≠ 0 then some .wrongKind
      else
        match r.link with
        | .goto _ _ => some .gotoInWinch
        | _ => winchFault s r

/-- R118: where the link of a completed step leads (none for the end of the program), with the loop counter
that the unit then has. The counter is loaded at the first arrival at the GOTO, 0 as FOREVER. NEXT from slot
127, which occurs in no walked program, leads nowhere. -/
def LinkLeads (cur : Slot) (link : Link) (loop : LoopCounter) (next : Option Slot) (counter : LoopCounter) :
    Prop :=
  match link with
  | .stop => next = none ∧ counter = loop
  | .next => counter = loop ∧ ∃ slot : Slot, slot.val = cur.val + 1 ∧ next = some slot
  | .goto target loops =>
    (loop = .notLoaded → loops = 0 → next = some target ∧ counter = .forever) ∧
    (loop = .notLoaded → loops ≠ 0 → next = some target ∧ counter = .count (loops - 1)) ∧
    (loop = .forever → next = some target ∧ counter = .forever) ∧
    (∀ n, loop = .count n → n ≠ 0 → next = some target ∧ counter = .count (n - 1)) ∧
    (loop = .count 0 → next = none ∧ counter = .count 0)

/-! ## Winch programs (07 R132, R133, R139, R140) -/

/-- Blocks that an event of the winch leaves alone while the operating state stands. -/
def WinchAlone (s t : State) : Prop :=
  SameScan s t ∧ t.vsc = s.vsc ∧ t.sup = s.sup ∧ t.stc = s.stc ∧ t.ltc = s.ltc ∧ t.lnk = s.lnk ∧ SameStores s t

/-- R119, R140: the winch program ends with a cause and a residual; in SHUTTING_DOWN the completion test of
R13 follows. -/
def WinchProgramEnds (s t : State) (cause : EndCause) (residual : Nat) : Prop :=
  let offered := offerEnding (endingOf s 0 cause residual (s.wch.position / 10)) s
  UnitEnded s t ∧ t.trc.assist = none ∧ { t.wch with pulse := none } = { s.wch.ended with pulse := none } ∧
  (∀ slot : Slot, t.pgc.useCount[slot] =
    s.pgc.useCount[slot] - if slot ∈ (s.unit 0).walked then 1 else 0) ∧
  t.lnk = s.lnk ∧ t.sup = s.sup ∧ SameStores s t ∧ SameLevels s t ∧ SameLightUnits s t ∧
  let done : Prop := s.vsc.op = .shuttingDown ∧ s.trc.applied = ⟨0, 0⟩ ∧ s.wch.clutch.moving = false
  (¬ done → SameNotices t offered ∧ t.wch = s.wch.ended ∧ t.trc = { s.trc with assist := none } ∧
    WinchAlone s t) ∧
  (done → SameNotices t (offer (.opstate .parked .shuttingDown .shutdownComplete) offered) ∧
    EntersParked s t s.wch.ended)

/-- R133: the cause with which a step ends the program at its beginning, if a test fails. -/
def beginEnding (s : State) (r : WinchRec) : Option EndCause :=
  let hauls : Prop := r.action = .inward ∨ r.action = .assist
  let paysOut : Prop := r.action = .outward ∨ r.action = .free
  if hauls ∧ s.fairleadActive = true then (if r.endOn = .fairlead then none else some .fairlead)
  else if hauls ∧ s.wch.position = 0 then some .fullyIn
  else if paysOut ∧ s.cfg.wch.lineMax * 10 ≤ s.wch.position then some .lineEnd
  else none

/-- R133, R137: a step completes at its beginning. -/
def CompletesAtOnce (s : State) (r : WinchRec) : Prop :=
  (r.action = .inward ∨ r.action = .assist) ∧ s.fairleadActive = true ∧ r.endOn = .fairlead

/-- R133: a step that completes at its beginning has begun: its duty stands for that moment, and a trigger wait for
a WINCH bridge that it leaves at 0 has ended (R26). -/
def begunAtOnce (s : State) (r : WinchRec) : State :=
  let duty := min r.speed s.sup.alloc.dutyCap.winch
  { s with
    wch := { s.wch with applied := duty }
    scn := { s.scn with wait := if duty = 0 ∧ s.scn.wait = some .winch then none else s.scn.wait } }

/-- R133, R139: the step `r`, which is in hand in `s`, begins: it runs on, a test ends the program with what was
left of the step, or the step completes at once, after which `completed` holds. -/
def WinchBegins (s t : State) (r : WinchRec) (completed : State → State → Prop) : Prop :=
  let powered : Prop := r.action = .inward ∨ r.action = .outward ∨ r.action = .assist
  (¬ CompletesAtOnce s r → beginEnding s r = none →
    t.wch = { s.wch with
      state := match r.action with
        | .hold => .holding
        | .free => .freewheel
        | _ => .runningPowered
      applied := if powered then min r.speed s.sup.alloc.dutyCap.winch else 0
      stall := none
      assist := if r.action = .assist then true else s.wch.assist } ∧
    t.trc = { s.trc with
      assist := if r.action = .assist then
          some (max s.trc.applied.front.natAbs s.trc.applied.rear.natAbs)
        else s.trc.assist } ∧
    t.pgc = s.pgc ∧ t.nq = s.nq ∧ WinchAlone s t) ∧
  (∀ cause, beginEnding s r = some cause → WinchProgramEnds s t cause (winchResidual s.wch)) ∧
  (CompletesAtOnce s r → completed (begunAtOnce s r) t)

/-- R132: WCH takes the record `r` of a slot: it waits for its clutch, or the step begins. -/
def WinchTakes (s t : State) (slot : Slot) (r : WinchRec) (completed : State → State → Prop) : Prop :=
  let taken : State := { s with wch := { s.wch with
    step := some ⟨slot, r⟩, travel := 0, frames := 0, lastCurrent := 0 } }
  (clutchMeets s r.action = true → WinchBegins taken t r completed) ∧
  (clutchMeets s r.action = false →
    t.wch = { taken.wch with
      state := .waitClutch, applied := 0, stall := none, assist := false
      clutch := if s.wch.clutch.moving then s.wch.clutch
        else if r.action = .free then .movingToFree else .movingToEngage
      clutchTimer := if s.wch.clutch.moving then s.wch.clutchTimer else some s.cfg.wch.clutchTime } ∧
    t.trc = { s.trc with assist := none } ∧ t.pgc = s.pgc ∧ t.nq = s.nq ∧ WinchAlone s t)

/-- R118, R133, R139, R140: the winch step in hand has completed: END ends the program COMPLETE with residual 0,
NEXT hands over the record of the slot above, whose step may complete at its beginning in turn. The number bounds
the links followed at one event. -/
def WinchLinks : Nat → State → State → Prop
  | 0, _, _ => True
  | n + 1, s, t =>
    let x := s.unit 0
    let off : State := { s with wch := { s.wch with assist := false }, trc := { s.trc with assist := none } }
    ((s.pgc.store[x.current]).link = .stop → WinchProgramEnds off t .complete 0) ∧
    ((s.pgc.store[x.current]).link = .next → ∀ (slot : Slot) (r : WinchRec), slot.val = x.current.val + 1 →
      s.pgc.store[slot] = .winch r →
        WinchTakes (off.modUnit 0 fun y => { y with current := slot, progress := 0 }) t slot r (WinchLinks n))

/-- R118: the winch step in hand has completed. A link leads to the slot above, so that 128 links are all that a
program can have (R109). -/
def WinchStepCompletes (s t : State) : Prop := WinchLinks 128 s t

/-- R114, R132: the winch unit takes the step of a slot, at its start or after its clutch. -/
def WinchStarts (s t : State) (slot : Slot) (r : WinchRec) : Prop := WinchTakes s t slot r WinchStepCompletes

/-! ## Records as sent (06 R104 to R106, 11 section 11.3.1) -/

/-- The link that a record's bytes spell; none for an unknown link or a goto target above 127 (R105). -/
def linkSent (code target loops : Nat) : Option Link :=
  if code = 0 then some .stop
  else if code = 1 then some .next
  else if code = 2 ∧ target < 128 then some (.goto (Fin.ofNat 128 target) loops)
  else none

/-- The end-on that a record's bytes spell, with its amount brought into its range (R106). -/
def endOnSent (code amount : Nat) : Option EndOn :=
  if code = 0 then some (.distance (max 1 (min amount 20000)))
  else if code = 1 then some (.time (max 1 amount))
  else if code = 2 then some (.load (max 1 (min amount 40000)))
  else if code = 3 then some .fairlead
  else none

/-- The action of a code of 11 section 11.4. -/
def actionSent (code : Nat) : Option Action :=
  [Action.inward, .outward, .hold, .free, .assist][code]?

/-- R104 to R106: the record that the eight bytes `b 0` to `b 7` spell, in normal form and with each field brought
into its range: fade, hold and speed at most 1000, the amount by its end-on. None for an unknown kind, link, action
or end-on and for a goto target above 127. -/
def recordSent (b : Nat → Nat) : Option StepRec :=
  let link := linkSent (b 0 / 16) (b 1) (b 2)
  if b 0 % 16 = 0 then some .empty
  else if b 0 % 16 = 1 then
    link.map fun k => .light { level := b 3, fade := min 1000 (b 4 + 256 * b 5)
                               hold := min 1000 (b 6 + 256 * b 7), link := k }
  else if b 0 % 16 = 2 then
    link.bind fun k => (actionSent (b 3 % 16)).bind fun a =>
      (endOnSent (b 3 / 16) (b 6 + 256 * b 7)).map fun e =>
        .winch { action := a, endOn := e, speed := min 1000 (b 4 + 256 * b 5), link := k }
  else none

/-! ## The settings table (10 section 10.4, 11 section 11.4.1) -/

/-- A setting number with how many indexes it has (0 for a setting without one), its lowest and highest
value, its default and its parked-only mark. -/
structure SettingRow where
  number : Nat
  indexes : Nat
  low : Nat
  high : Nat
  default : Nat
  parkedOnly : Bool
deriving DecidableEq, Repr

/-- The settings of VSC and SCN (01 section 1.1.2, 02 section 2.1.3). -/
def settingRowsVehicle : List SettingRow :=
  [⟨0x01, 0, 100, 2000, 500, false⟩, ⟨0x02, 0, 50, 500, 200, false⟩, ⟨0x03, 0, 80, 140, 110, false⟩,
   ⟨0x04, 0, 0, 200, 50, false⟩, ⟨0x08, 0, 2, 4, 3, true⟩, ⟨0x09, 0, 1, 60, 10, false⟩,
   ⟨0x0A, 0, 3000, 4000, 3600, false⟩, ⟨0x0B, 0, 40, 100, 70, false⟩]

/-- The settings of SUP and TRC (03 section 3.1.1, 04 section 4.1.1). -/
def settingRowsSupply : List SettingRow :=
  [⟨0x10, 0, 5000, 60000, 30000, false⟩, ⟨0x11, 0, 3000, 3600, 3300, false⟩,
   ⟨0x12, 0, 3300, 3800, 3500, false⟩, ⟨0x13, 0, 3100, 3700, 3350, false⟩,
   ⟨0x14, 0, 3000, 3500, 3200, false⟩, ⟨0x15, 0, 20, 300, 100, false⟩, ⟨0x16, 0, 1, 255, 200, false⟩,
   ⟨0x17, 0, 0, 6000, 3000, false⟩, ⟨0x18, 0, 60, 120, 90, false⟩, ⟨0x19, 0, 1000, 20000, 12000, true⟩,
   ⟨0x1A, 0, 1000, 20000, 12000, true⟩, ⟨0x1B, 0, 1000, 20000, 8000, true⟩,
   ⟨0x20, 0, 1, 1000, 20, false⟩, ⟨0x21, 0, 0, 1000, 300, false⟩, ⟨0x22, 0, 900, 1100, 1000, false⟩,
   ⟨0x23, 0, 0, 5000, 300, false⟩]

/-- The settings of STC (05 section 5.1.1). -/
def settingRowsSteering : List SettingRow :=
  [⟨0x28, 2, 1000, 2000, 1500, false⟩, ⟨0x29, 2, 0, 1000, 400, false⟩, ⟨0x2A, 2, 0, 1000, 400, false⟩,
   ⟨0x2B, 2, 0, 1, 0, false⟩, ⟨0x2C, 0, 50, 333, 100, true⟩, ⟨0x2D, 0, 1, 2000, 2000, false⟩,
   ⟨0x2E, 0, 0, 200, 60, false⟩, ⟨0x2F, 0, 0, 1000, 500, false⟩, ⟨0x30, 0, 0, 60, 0, false⟩]

/-- The settings of WCH and LTC (07 section 7.1.1, 08 section 8.1.1). -/
def settingRowsWinch : List SettingRow :=
  [⟨0x38, 0, 1, 500, 20, true⟩, ⟨0x39, 0, 100, 20000, 3000, true⟩, ⟨0x3A, 0, 500, 40000, 6000, false⟩,
   ⟨0x3B, 0, 100, 2000, 500, false⟩, ⟨0x3C, 0, 500, 2500, 1000, false⟩,
   ⟨0x3D, 0, 500, 2500, 2000, false⟩, ⟨0x3E, 0, 100, 1000, 300, false⟩, ⟨0x40, 10, 0, 2000, 200, false⟩,
   ⟨0x41, 10, 0, 1, 0, false⟩, ⟨0x42, 10, 0, 4, 0, false⟩, ⟨0x43, 10, 0, 255, 255, false⟩,
   ⟨0x44, 0, 100, 900, 400, false⟩, ⟨0x45, 0, 0, 1000, 300, false⟩]

/-- Every setting number. -/
def settingRows : List SettingRow :=
  settingRowsVehicle ++ settingRowsSupply ++ settingRowsSteering ++ settingRowsWinch

/-- The row's default at an index: CLASS is ESSENTIAL for channels 0 to 3 and DECORATIVE above
(08 section 8.1.1). -/
def SettingRow.defaultAt (r : SettingRow) (index : Nat) : Nat :=
  if r.number = 0x41 ∧ 4 ≤ index then 1 else r.default

/-- The request's index is one of the row's; a setting without an index takes any. -/
def SettingRow.takes (r : SettingRow) (index : Nat) : Prop := r.indexes = 0 ∨ index < r.indexes

/-- The index that a reply reports. -/
def SettingRow.reported (r : SettingRow) (index : Nat) : Nat := if r.indexes = 0 then 0 else index

/-- The setting that a SET or GET names takes its action at the SET itself when its value changes (R39, R89,
R96, R98, R124, R145). -/
def Key.actsAtSet : Key → Bool
  | .plain p => decide (p ∈ [PlainId.cellCount, .centreBand, .relaxTime, .lineMax, .turnThreshold,
      .slowThreshold])
  | .axle a _ => decide (a ≠ .reverse)
  | .chan k _ => decide (k ≠ .cls)

/-- R43: the order of the stage levels, for a new value of one of them. -/
def levelsOrdered (c : SupCfg) (k : Key) (v : Nat) : Prop :=
  (k = .plain .cautionLevel → c.reserveLevel < v) ∧
  (k = .plain .reserveLevel → v < c.cautionLevel ∧ c.cutoffLevel < v) ∧
  (k = .plain .cutoffLevel → v < c.reserveLevel)

end Sys2Proof.Machine
end

