-- ==== Sys2Proof/Certificates/Slice0/Obligations.lean ====
section
/-! DEFINITION. The statements for the provers. A request's statement supposes that no request is in hand;
LinkTakesTurns says what happens to a frame when one is. -/

open Sys2Proof Sys2Proof.Machine

/-! ## The queue -/

/-- A step takes the command at the front of the queue, on the state with the queue's rest. -/
def Obligations.StepTakesFront : Prop :=
  ∀ (c : Instr) (rest : List Instr) (s : State),
    step (s.withPending (c :: rest)) = exec c (s.withPending rest)

/-- No command stops the machine, and none touches the queue. -/
def Obligations.EveryCommandKeepsQueue : Prop :=
  ∀ (i : Instr) (s : State), ∃ t, exec i s = .next t ∧ t.pending = s.pending

/-! ## The link (10 section 10.2) -/

/-- 10 section 10.2: a frame that finds no request in hand is taken; one that finds a request in hand is held
if the holding buffer is empty, and is lost with the overrun flag set if it is full, with nothing outside the
link changed. When the last byte of a reply leaves TX, the request in hand becomes none and a held frame is
taken just as an arriving one is; after a RESET's reply the soft reset is taken instead (log 7). -/
def Obligations.LinkTakesTurns : Prop :=
  (∀ (i : Instr) (f : Frame) (s : State), frameOfCommand i = some f →
    (s.lnk.inHand = none → exec i s =
      .next (takeRequest f { s with lnk := { s.lnk with parser := .hunt, frame := [], gap := false } })) ∧
    (∀ g, s.lnk.inHand = some g → s.lnk.holding = none → exec i s = .next { s with lnk :=
      { s.lnk with parser := .hunt, frame := [], gap := false, holding := some f } }) ∧
    (∀ g h, s.lnk.inHand = some g → s.lnk.holding = some h → exec i s = .next { s with lnk :=
      { s.lnk with parser := .hunt, frame := [], gap := false, overrun := true } })) ∧
  (∀ (tag : Byte) (s : State), s.lnk.inHand = none →
    exec (.reset tag []) s = .next (replied s s 0x03 tag [] (.done .none) [])) ∧
  ∀ (f : Frame) (s : State), s.lnk.inHand = some f →
    (f.kind = 0x03 → f.payload = [] → exec .replySent s = exec .softReset s) ∧
    (¬(f.kind = 0x03 ∧ f.payload = []) → s.lnk.holding = none →
      exec .replySent s = .next { s with lnk := { s.lnk with inHand := none, reply := none } }) ∧
    (¬(f.kind = 0x03 ∧ f.payload = []) → ∀ g, s.lnk.holding = some g → ∃ t r,
      t = takeRequest g { s with lnk := { s.lnk with inHand := none, reply := none, holding := none } } ∧
      exec .replySent s = .next t ∧ t.lnk.inHand = some g ∧ t.lnk.holding = none ∧
      t.lnk.reply = some r ∧ r.tag = g.tag ∧ r.overrun = s.lnk.overrun ∧ t.lnk.overrun = false ∧
      r.pending = t.pendingCount ∧ t.lnk.parser = s.lnk.parser ∧ t.lnk.frame = s.lnk.frame)

/-- 10 section 10.2, 11 section 11.3: a KIND that is not a request kind is refused UNKNOWN_KIND, and a payload
whose length the kind does not allow BAD_LENGTH, both with no fields and nothing outside the link changed.
Below 0x80 the reply's KIND is the request's plus 0x80; from 0x80 on it is free (log 15). -/
def Obligations.FormatRefusals : Prop :=
  (∀ (kind tag : Byte) (p : List Byte) (s : State), kind ∉ requestKindCodes → s.lnk.inHand = none →
    (kind.toNat < 128 →
      exec (.unknownKindRequest kind tag p) s =
        .next (replied s s kind tag p (.refused .unknownKind) [])) ∧
    (128 ≤ kind.toNat → ∃ replyKind : Byte, exec (.unknownKindRequest kind tag p) s = .next { s with lnk :=
      { parser := .hunt, frame := [], gap := false, inHand := some ⟨kind, tag, p⟩
        reply := some { kind := replyKind, tag := tag, outcome := .refused .unknownKind,
                        pending := s.pendingCount, overrun := s.lnk.overrun, fields := [] }
        holding := s.lnk.holding, overrun := false } })) ∧
  ∀ (i : Instr) (f : Frame) (s : State), frameOfCommand i = some f → f.kind ∈ requestKindCodes →
    lengthAllowed f.kind f.payload = false → s.lnk.inHand = none →
    exec i s = .next (replied s s f.kind f.tag f.payload (.refused .badLength) [])

/-- 10 section 10.1: the parser, state by state; a framing error; a byte gap expiry, which with the timer
stopped changes nothing (log 2). FRAME_DISCARD with a good byte is its reception (log 6). -/
def Obligations.ParserTakesBytes : Prop :=
  ∀ (b : Byte) (s : State),
    let hunting : State := { s with lnk := { s.lnk with parser := .hunt, frame := [], gap := false } }
    (s.lnk.parser = .hunt →
      exec (.byteReceived b) s = .next (if b = 0xC3 then
        { s with lnk := { s.lnk with parser := .length, frame := [], gap := true } } else s) ∧
      exec (.frameDiscard .framingError) s = .next s) ∧
    (s.lnk.parser = .length →
      exec (.byteReceived b) s = .next (if 2 ≤ b.toNat ∧ b.toNat ≤ 66 then
        { s with lnk := { s.lnk with parser := .body, frame := [b], gap := true } } else hunting)) ∧
    (s.lnk.parser = .body → ∀ len rest, s.lnk.frame = len :: rest →
      exec (.byteReceived b) s = .next { s with lnk :=
        { s.lnk with parser := if len.toNat ≤ rest.length + 1 then .check else .body,
                     frame := s.lnk.frame ++ [b], gap := true } }) ∧
    (s.lnk.parser = .check → b ≠ crc8 s.lnk.frame → exec (.byteReceived b) s = .next hunting) ∧
    (s.lnk.parser = .check → ∀ len kind tag p, s.lnk.frame = len :: kind :: tag :: p →
      b = crc8 s.lnk.frame → exec (.byteReceived b) s = exec (.frameHeld kind tag p) s) ∧
    (s.lnk.parser ≠ .hunt → exec (.frameDiscard .framingError) s = .next hunting) ∧
    exec (.frameDiscard (.good b)) s = exec (.byteReceived b) s ∧
    exec .byteGapExpiry s = .next (if s.lnk.gap then hunting else s)

/-- 10 section 10.1, 11 section 11.2: parsing undoes the encoding of frames: a parser in HUNT that receives the
bytes of a frame, byte by byte, does what the frame's arrival does, for every KIND, TAG and payload of at most
64 bytes; and a request command is the arrival of such a frame (log 5). -/
def Obligations.ParserReadsEncodedFrames : Prop :=
  (∀ (f : Frame) (s : State), f.payload.length ≤ 64 → s.lnk.parser = .hunt →
    runCommands ((frameBytes f).map .byteReceived) s = exec (.frameHeld f.kind f.tag f.payload) s) ∧
  ∀ (i : Instr) (f : Frame) (s : State), frameOfCommand i = some f →
    exec i s = exec (.frameHeld f.kind f.tag f.payload) s

/-! ## Requests that read (10 section 10.3, 06, 09) -/

/-- R174: IDENTIFY answers the part's identity and capacities and changes nothing. -/
def Obligations.IdentifyAnswers : Prop :=
  ∀ (tag : Byte) (s : State), s.lnk.inHand = none →
    exec (.identify tag []) s =
      .next (replied s s 0x01 tag [] (.done .none) [0x20, 0x04, 0x01, 11, 128, 8, 4, 10, 64])

/-- 10 section 10.3: STATUS answers one page with the index, the scan completion count and the page's
content, and changes nothing. The layouts of the pages are the model's reading (log 17), so are the 0 of the
WINCH page for the figures of a step with none in hand (log 38), the coding of the winch bridge override (log 47)
the step in hand of the LIGHT page (log 48) and the use counts of the walked set at the end of the UNIT page (log
43); an applied duty below 0 has free bytes (`dutyField`, log 33). -/
def Obligations.StatusReadsPages : Prop :=
  ∀ (tag page index : Byte) (s : State), s.lnk.inHand = none →
    let answers (outcome : ReplyOutcome) (fields : List Byte) : Prop :=
      exec (.status tag [page, index]) s = .next (replied s s 0x02 tag [page, index] outcome fields)
    let prefixed (i : Byte) : List Byte := [page, i] ++ u16 s.scn.completions
    let four (v : Vector Nat 4) : List Byte := u16 v[0] ++ u16 v[1] ++ u16 v[2] ++ u16 v[3]
    let r := s.scn.results
    let a := s.sup.alloc
    let d := s.trc
    let g := s.stc
    let w := s.wch
    (8 < page.toNat ∨ (page = 6 ∧ 10 < index.toNat) ∨ (page = 7 ∧ 9 < index.toNat) →
      answers (.refused .badValue) []) ∧
    (page = 0 → answers (.done .none) (prefixed 0 ++
      u8 s.vsc.op.code ++ u8 s.vsc.expiryCount ++ u8 s.vsc.origin.code ++ flagByte s.vsc.latch ++
      flagByte s.vsc.measured ++ flagByte s.vsc.hold.isSome ++ flagByte s.vsc.grace.isSome ++
      u8 s.vsc.causes.mask ++ optCode TripCause.code s.vsc.firstCause ++
      flagByte s.vsc.comparator.front ++ flagByte s.vsc.comparator.rear ++
      flagByte s.vsc.comparator.winch)) ∧
    (page = 1 → answers (.done .none) (prefixed 0 ++
      u8 (match r.kind with
        | none => 0
        | some .continuous => 1
        | some .watch => 2) ++ four r.taps ++ four r.raw ++ four r.filtered ++ u16 r.minRaw ++
      u16 r.minFiltered ++ u32 r.pack ++ u16 r.bridge.front ++ u16 r.bridge.rear ++ u16 r.bridge.winch ++
      i16 r.temp.board ++ i16 r.temp.front ++ i16 r.temp.rear ++ i16 r.temp.winch ++ i16 r.hottest ++
      u8 r.overcurrent ++ flagByte s.scn.excursion)) ∧
    (page = 2 → answers (.done .none) (prefixed 0 ++
      u8 s.sup.stage.code ++ flagByte s.sup.assessed ++ u8 s.sup.cutoffCount ++ u16 a.ceiling ++ u16 a.base ++
      u8 a.sag ++ u16 a.rawCeiling ++ u16 a.unassigned ++ u16 a.demand.servo ++ u16 a.demand.bridge.front ++
      u16 a.demand.bridge.rear ++ u16 a.demand.bridge.winch ++ u16 a.grant.servo ++
      u16 a.grant.bridge.front ++ u16 a.grant.bridge.rear ++ u16 a.grant.bridge.winch ++
      u16 a.dutyCap.front ++ u16 a.dutyCap.rear ++ u16 a.dutyCap.winch ++ flagByte a.derate.front ++
      flagByte a.derate.rear ++ flagByte a.derate.winch)) ∧
    (page = 3 → answers (.done .none) (prefixed 0 ++
      u8 d.state.code ++ u8 d.hold.code ++ i16 d.throttle ++ u8 d.digRequested.code ++ u8 d.digInForce.code ++
      i16 d.target.front ++ i16 d.target.rear ++ dutyField d.applied.front ++ dutyField d.applied.rear ++
      u8 d.limiter.front.code ++ u8 d.limiter.rear.code ++ u8 d.mode.front.code ++ u8 d.mode.rear.code ++
      u16 d.mode.front.strength ++ u16 d.mode.rear.strength ++ flagByte d.assist.isSome ++
      u16 (d.assist.getD 0) ++
      u8 (if 0 < d.throttle then 1 else if d.throttle < 0 then 2 else 0) ++ flagByte d.braking ++
      flagByte d.winchOpen)) ∧
    (page = 4 → answers (.done .none) (prefixed 0 ++
      u8 g.mode.code ++ optCode SteerMode.code g.pendingMode ++ i16 g.steer ++ u8 g.out.code ++
      u16 g.target.front ++ u16 g.target.rear ++ u16 g.output.front ++ u16 g.output.rear ++
      flagByte g.relax.isSome)) ∧
    (page = 5 → answers (.done .none) (prefixed 0 ++
      u8 w.state.code ++ u8 w.clutch.code ++ u16 (w.position / 10) ++ u16 w.applied ++ u16 a.dutyCap.winch ++
      (match w.step with
        | some h => u8 h.step.action.code ++ u8 h.step.endOn.code ++ u16 (w.travel / 10) ++ u16 w.frames ++
            u16 w.lastCurrent
        | none => [0xFF, 0xFF, 0, 0, 0, 0, 0, 0]) ++
      flagByte w.stall.isSome ++ flagByte w.assist)) ∧
    (page = 6 → ∀ u : UnitNo, index.toNat = u.val → answers (.done .none) (prefixed index ++
      u8 (s.unit u).state.code ++ u8 (s.unit u).first.val ++ u8 (s.unit u).current.val ++
      u16 (s.unit u).loop.wire ++ u16 (s.unit u).progress ++
      optCode EndCause.code (s.unit u).haltCause ++ [(s.unit u).tag] ++
      u8 (if 0 < endings u s.nq then 1 else if (s.unit u).stacked.isSome then 2 else 0) ++
      ((s.unit u).walked.take 32).flatMap fun slot => u8 s.pgc.useCount[slot])) ∧
    (page = 7 → ∀ c : Chan, index.toNat = c.val →
      let ch := s.chan c
      answers (.done .none) (prefixed index ++
        u8 ch.manual ++ u8 ch.source.code ++ u8 ch.program ++
        (match ch.step with
          | some h => u8 h.slot.val
          | none => [0xFF]) ++ u16 ch.frames ++ u8 ch.overlay.code ++
        (match ch.overlay with
          | .blink phase => u8 phase
          | .hazard => optCode id s.ltc.hazard
          | _ => [0xFF]) ++
        u8 ch.desired ++ u16 ch.demand ++ u8 ch.applied ++ u8 a.budgetCap[c] ++ u8 a.stageCap[c] ++
        u16 a.demand.light[c] ++ u16 a.grant.light[c] ++ u8 a.budgetCap[c] ++ u8 a.stageCap[c] ++
        optCode id s.ltc.hazard)) ∧
    (page = 8 → answers (.done .none) (prefixed 0 ++
      u8 (s.lmx.lines[0]).fn.code ++ u8 (s.lmx.lines[1]).fn.code ++ u8 (s.lmx.lines[2]).fn.code ++
      u8 (s.lmx.lines[3]).fn.code ++
      u8 (maskOf (s.lmx.lines.toList.map fun l => decide (l.accepted = .high))) ++
      u8 (maskOf s.lmx.changed.toList)))

/-- R177: GET answers every setting of the table with its value, range, default and mark, and refuses every
other number and index; it changes nothing. -/
def Obligations.GetReportsSettings : Prop :=
  ∀ (tag setting index : Byte) (s : State), s.lnk.inHand = none →
    (∀ r ∈ settingRows, setting.toNat = r.number → r.takes index.toNat →
      ∃ k : Key, namedKey setting index = some k ∧
        exec (.get tag [setting, index]) s =
          .next (replied s s 0x04 tag [setting, index] (.done .none)
            ([setting] ++ u8 (r.reported index.toNat) ++ u16 (s.cfg.value k) ++ u16 r.low ++ u16 r.high ++
              u16 (r.defaultAt index.toNat) ++ flagByte r.parkedOnly))) ∧
    ((∀ r ∈ settingRows, setting.toNat = r.number → ¬ r.takes index.toNat) →
      exec (.get tag [setting, index]) s =
        .next (replied s s 0x04 tag [setting, index] (.refused .badValue) []))

/-- R107: READ_STEPS answers the records of a run of slots with their use counts and changes nothing. -/
def Obligations.ReadStepsReturnsRecords : Prop :=
  ∀ (tag first count : Byte) (s : State), s.lnk.inHand = none →
    let n := min (max 1 (min 6 count.toNat)) (128 - first.toNat)
    (127 < first.toNat → exec (.readSteps tag [first, count]) s =
      .next (replied s s 0x21 tag [first, count] (.refused .badValue) [])) ∧
    (first.toNat ≤ 127 → ∃ records : List (List Byte), records.length = n ∧
      exec (.readSteps tag [first, count]) s = .next (replied s s 0x21 tag [first, count] (.done .none)
        ([first] ++ u8 n ++ records.flatten)) ∧
      ∀ i, i < n → ∀ slot : Slot, slot.val = first.toNat + i →
        records[i]? = some ((s.pgc.store[slot]).bytes ++ u8 s.pgc.useCount[slot]) ∧
          (s.pgc.store[slot]).bytes.length = 8) ∧
    (∀ p : List Byte, p.length ≠ 2 → exec (.readSteps tag p) s =
      .next (replied s s 0x21 tag p (.refused .badLength) []))

/-- 06 section 6.6: PROBE has three outcomes: an outstanding status is returned and taken from the place
that held it; an active unit answers BUSY with its progress; an idle one answers QUIET. On which side of the
progress block the BUSY reply of the winch unit carries P is free (`BusyFields`, log 44). -/
def Obligations.ProbeAnswers : Prop :=
  ∀ (tag b : Byte) (s : State), s.lnk.inHand = none →
    (10 < b.toNat →
      exec (.probe tag [b]) s = .next (replied s s 0x23 tag [b] (.refused .badValue) [])) ∧
    ∀ u : UnitNo, b.toNat = u.val →
      (∀ e before after, s.nq = before ++ .unitEnded e :: after → e.unit = u → endings u before = 0 →
        exec (.probe tag [b]) s =
          .next (replied s { s with nq := before ++ after } 0x23 tag [b] .status e.bytes)) ∧
      (endings u s.nq = 0 → ∀ e, (s.unit u).stacked = some e →
        exec (.probe tag [b]) s = .next (replied s
          (s.modUnit u fun x => { x with stacked := none }) 0x23 tag [b] .status e.bytes)) ∧
      (endings u s.nq = 0 → (s.unit u).stacked = none → (s.unit u).state ≠ .idle →
        ∃ fields, BusyFields s u fields ∧
          exec (.probe tag [b]) s = .next (replied s s 0x23 tag [b] .busy fields)) ∧
      (endings u s.nq = 0 → (s.unit u).stacked = none → (s.unit u).state = .idle →
        exec (.probe tag [b]) s = .next (replied s s 0x23 tag [b] (.done .quiet) []))

/-- 09 section 9.3: FETCH_NOTICE takes the head of the list; from an empty list the stacked status of the
lowest-numbered unit; from neither, nothing. Taking a LINE entry empties the changed mask. -/
def Obligations.FetchTakesOneItem : Prop :=
  ∀ (tag : Byte) (s : State), s.lnk.inHand = none →
    (∀ e rest, s.nq = .unitEnded e :: rest → exec (.fetchNotice tag []) s =
      .next (replied s { s with nq := rest } 0x30 tag [] .status e.bytes)) ∧
    (∀ mask levels rest, s.nq = .line mask levels :: rest → exec (.fetchNotice tag []) s =
      .next (replied s { s with nq := rest, lmx := { s.lmx with changed := #v[false, false, false, false] } }
        0x30 tag [] (.done .line) (u8 (maskOf mask.toList) ++ u8 (maskOf (levels.toList.map Level.isHigh))))) ∧
    (∀ new old cause rest, s.nq = .opstate new old cause :: rest → exec (.fetchNotice tag []) s =
      .next (replied s { s with nq := rest } 0x30 tag [] (.done .opstate)
        (u8 new.code ++ u8 old.code ++ u8 cause.code))) ∧
    (∀ causes first rest, s.nq = .trip causes first :: rest → exec (.fetchNotice tag []) s =
      .next (replied s { s with nq := rest } 0x30 tag [] (.done .trip)
        (u8 causes.mask ++ u8 first.code))) ∧
    (∀ count state rest, s.nq = .failsafe count state :: rest → exec (.fetchNotice tag []) s =
      .next (replied s { s with nq := rest } 0x30 tag [] (.done .failsafe) (u8 count ++ u8 state.code))) ∧
    (∀ new old f b rest, s.nq = .stage new old f b :: rest → exec (.fetchNotice tag []) s =
      .next (replied s { s with nq := rest } 0x30 tag [] (.done .stage)
        (u8 new.code ++ u8 old.code ++ u16 f ++ u16 b))) ∧
    (∀ m h sensor low hot rest, s.nq = .watch m h sensor low hot :: rest → exec (.fetchNotice tag []) s =
      .next (replied s { s with nq := rest } 0x30 tag [] (.done .watch)
        (u16 m ++ i16 h ++ u8 sensor.code ++ u8 (maskOf [low, hot])))) ∧
    (s.nq = [] → ∀ u e, (s.unit u).stacked = some e → (∀ v < u, (s.unit v).stacked = none) →
      exec (.fetchNotice tag []) s = .next (replied s (s.modUnit u fun x => { x with stacked := none })
        0x30 tag [] .status e.bytes)) ∧
    (s.nq = [] → (∀ u, (s.unit u).stacked = none) →
      exec (.fetchNotice tag []) s = .next (replied s s 0x30 tag [] (.done .empty) []))

/-! ## Settings (10 section 10.4) -/

/-- 10 section 10.4, 03 section 3.1.1: the checks of SET, in their order; a refused SET changes nothing and
reports the value held. The fields of a refusal whose setting or index is refused are the model's choice
(log 16). -/
def Obligations.SetRefusals : Prop :=
  ∀ (tag setting index low high : Byte) (s : State), s.lnk.inHand = none →
    let p : List Byte := [setting, index, low, high]
    let v := low.toNat + 256 * high.toNat
    let refused (r : Reason) (fields : List Byte) : Prop :=
      exec (.set tag p) s = .next (replied s s 0x05 tag p (.refused r) fields)
    (namedKey setting index = none → refused .badValue [setting, index, 0, 0]) ∧
    ∀ k : Key, namedKey setting index = some k →
      let held := [setting] ++ u8 k.index ++ u16 (s.cfg.value k)
      (k.parkedOnly = true → s.vsc.op ≠ .parked → refused .notParked held) ∧
      ((k.parkedOnly = true → s.vsc.op = .parked) → k.named = true → k.high < v → refused .badValue held) ∧
      (¬ levelsOrdered s.cfg.sup k (max k.low (min k.high v)) → refused .badValue held)

/-- 10 section 10.4, 02 section 2.9, 05 sections 5.1.1 and 5.5, 07 section 7.1.1, 08 sections 8.1.1 and 8.5: a SET
that passes its checks stores the clamped value and reports it, and every other setting keeps its value. The
value already held starts nothing, a setting that acts only later changes nothing else, and each other setting
acts at the SET as its owner's rule says. That a channel taken out of a turn function during the hazard is tested
at that SET is log 32, that a SET of CELL_COUNT leaves the filtered cells as they are log 46. -/
def Obligations.SetStoresAndActs : Prop :=
  ∀ (tag setting index low high : Byte) (k : Key) (s : State), s.lnk.inHand = none →
    let p : List Byte := [setting, index, low, high]
    let v := max k.low (min k.high (low.toNat + 256 * high.toNat))
    let fields := [setting] ++ u8 k.index ++ u16 v
    namedKey setting index = some k → (k.parkedOnly = true → s.vsc.op = .parked) →
    (k.named = true → low.toNat + 256 * high.toNat ≤ k.high) → levelsOrdered s.cfg.sup k v →
    ∃ t, exec (.set tag p) s = .next t ∧ AnsweredBy s t 0x05 tag p (.done .none) fields ∧
      t.cfg.value k = v ∧ (∀ other, other ≠ k → t.cfg.value other = s.cfg.value other) ∧
      (s.cfg.value k = v → t = replied s s 0x05 tag p (.done .none) fields) ∧
      (k.actsAtSet = false →
        t = replied s { s with cfg := s.cfg.put k v } 0x05 tag p (.done .none) fields) ∧
      t.vsc = s.vsc ∧ t.sup = s.sup ∧ t.trc = s.trc ∧ t.pgc = s.pgc ∧ t.lmx = s.lmx ∧ t.nq = s.nq ∧
      t.pending = s.pending ∧
      (s.cfg.value k ≠ v →
        (k = .plain .cellCount → t = { s with
          lnk := t.lnk, cfg := t.cfg, scn := { s.scn with scan := none, wait := none, primed := false } }) ∧
        (k = .plain .lineMax → t = { s with
          lnk := t.lnk, cfg := t.cfg, wch := { s.wch with position := min s.wch.position (v * 10) } }) ∧
        (∀ x : Axle, k = .axle .centre x ∨ k = .axle .travelLeft x ∨ k = .axle .travelRight x →
          let c := t.cfg.stc.axle.get x
          let bring (pulse : Nat) : Nat :=
            max (max 500 (c.centre - c.travelLeft)) (min (min 2500 (c.centre + c.travelRight)) pulse)
          t = { s with lnk := t.lnk, cfg := t.cfg, stc := { s.stc with
            target := s.stc.target.put x (bring (s.stc.target.get x))
            output := s.stc.output.put x (bring (s.stc.output.get x)) } }) ∧
        (∀ c : Chan, k = .chan .rated c ∨ k = .chan .overlayLevel c →
          LevelFormed t.cfg.ltc.chan[c] s.ltc.hazard (t.chan c) ∧
          { t.chan c with desired := 0, demand := 0 } = { s.chan c with desired := 0, demand := 0 } ∧
          (∀ d, d ≠ c → t.chan d = s.chan d) ∧ t.ltc.hazard = s.ltc.hazard ∧
          t = { s with lnk := t.lnk, cfg := t.cfg, ltc := t.ltc }) ∧
        (∀ c : Chan, k = .chan .overlay c → OverlayTested t c (s.chan c) ∧
          (∀ d, d ≠ c → t.chan d = s.chan d) ∧ t.ltc.hazard = s.ltc.hazard ∧
          t = { s with lnk := t.lnk, cfg := t.cfg, ltc := t.ltc }) ∧
        (k = .plain .turnThreshold ∨ k = .plain .slowThreshold →
          (∀ c : Chan, OverlayTested t c (s.chan c)) ∧ t.ltc.hazard = s.ltc.hazard ∧
          t = { s with lnk := t.lnk, cfg := t.cfg, ltc := t.ltc }) ∧
        (k = .plain .centreBand ∨ k = .plain .relaxTime →
          let wakes : Prop := k = .plain .relaxTime ∧ v = 0 ∧ s.stc.out = .relaxed ∧ s.vsc.op = .armed
          let holds : Prop := s.vsc.op = .armed ∧ t.cfg.stc.relaxTime ≠ 0 ∧ s.stc.out = .pulsing ∧
            s.stc.steer.natAbs ≤ t.cfg.stc.centreBand ∧ s.trc.applied = ⟨0, 0⟩
          (wakes → t = { s with lnk := t.lnk, cfg := t.cfg, stc := { s.stc with
            out := .pulsing, relax := none
            target := steerPulses s.cfg.stc s.stc.mode s.stc.steer s.trc.applied.front
            output := steerPulses s.cfg.stc s.stc.mode s.stc.steer s.trc.applied.front } }) ∧
          (¬ wakes → holds → t = { s with lnk := t.lnk, cfg := t.cfg, stc := { s.stc with
            relax := some (s.stc.relax.getD t.cfg.stc.relaxTime) } }) ∧
          (¬ wakes → ¬ holds → t = { s with lnk := t.lnk, cfg := t.cfg, stc := { s.stc with
            relax := none } })))

/-! ## Arming and parking (01) -/

/-- R3: the checks of an ARM in PARKED, in their order; a refused ARM changes nothing. -/
def Obligations.ArmRefusals : Prop :=
  ∀ (tag : Byte) (s : State), s.lnk.inHand = none → s.vsc.op = .parked →
    let refused (r : Reason) (fields : List Byte) : Prop :=
      exec (.arm tag []) s = .next (replied s s 0x10 tag [] (.refused r) fields)
    let tapHigh (i : Fin 4) : Prop := s.cfg.scn.cellCount < i.val + 1 ∧ 1000 < s.scn.results.taps[i]
    let cellLow (i : Fin 4) : Prop := i.val + 1 ≤ s.cfg.scn.cellCount ∧ s.scn.results.raw[i] < 2500
    (s.vsc.measured = false → refused .measuring []) ∧
    (s.vsc.measured = true → s.sup.stage = .cutoff → refused .lowBattery []) ∧
    (s.vsc.measured = true → s.sup.stage ≠ .cutoff →
      (∀ i, tapHigh i → (∀ j < i, ¬ tapHigh j) →
        refused .cellsMismatch (u8 1 ++ u8 (i.val + 1) ++ u16 s.scn.results.taps[i])) ∧
      ((∀ j, ¬ tapHigh j) → ∀ i, cellLow i → (∀ j < i, ¬ cellLow j) →
        refused .cellsMismatch (u8 0 ++ u8 (i.val + 1) ++ u16 s.scn.results.raw[i])))

/-- 01 section 1.3: an ARM in PARKED that passes the checks, with the entry actions of the other blocks: the
traction state and the braking flag are formed anew, every overlay is tested, and the relax test is made (R96,
R100). That an entry takes up the dig mode but not FRONT_RATIO is log 36, the DRAG_BRAKE then in force log 20. -/
def Obligations.ArmAccepted : Prop :=
  ∀ (tag : Byte) (s : State), s.lnk.inHand = none → s.vsc.op = .parked → s.vsc.measured = true →
    s.sup.stage ≠ .cutoff →
    (∀ i : Fin 4, s.cfg.scn.cellCount < i.val + 1 → s.scn.results.taps[i] ≤ 1000) →
    (∀ i : Fin 4, i.val + 1 ≤ s.cfg.scn.cellCount → 2500 ≤ s.scn.results.raw[i]) →
    ∃ t, exec (.arm tag []) s = .next t ∧ AnsweredBy s t 0x10 tag [] (.done .none) [] ∧
      t.vsc = { s.vsc with op := .armed, expiryCount := 0, latch := true, hold := some s.cfg.vsc.holdTime } ∧
      t.nq = (offer (.opstate .armed .parked .arm) s).nq ∧
      t.scn = { s.scn with mode := .continuous, watchTimer := none, scan := some (Scan.begin .continuous)
                           wait := none } ∧
      t.trc.hold = .latch ∧ t.trc.throttle = 0 ∧ t.trc.target = ⟨0, 0⟩ ∧ t.trc.applied = s.trc.applied ∧
      t.trc.state = .held ∧ t.trc.digInForce = s.trc.digRequested ∧
      t.trc.digRequested = s.trc.digRequested ∧ t.trc.limiter = s.trc.limiter ∧
      t.trc.assist = s.trc.assist ∧ t.trc.ratioInForce = s.trc.ratioInForce ∧
      t.trc.dragInForce = s.cfg.trc.dragBrake ∧ TractionOk t ∧ (∀ c : Chan, OverlayTested t c (s.chan c)) ∧
      (∀ x : Axle, t.trc.mode.get x = if s.trc.applied.get x ≠ 0 then .drive else
        (digHold s.trc.digRequested x).getD (.shortBrake s.cfg.trc.dragBrake)) ∧
      t.stc = { s.stc with
        out := .pulsing, frozen := false
        relax := if s.cfg.stc.relaxTime ≠ 0 ∧ s.stc.steer.natAbs ≤ s.cfg.stc.centreBand ∧
            s.trc.applied = ⟨0, 0⟩ then some (s.stc.relax.getD s.cfg.stc.relaxTime) else none
        output := ⟨s.cfg.stc.axle.front.centre, s.cfg.stc.axle.rear.centre⟩
        target := steerPulses s.cfg.stc s.stc.mode s.stc.steer s.trc.applied.front } ∧
      t.wch = (if s.hasLine .clutchServo = true ∧ s.wch.clutch ≠ .engaged ∧ s.wch.clutch.moving = false then
        { s.wch with clutch := .movingToEngage, clutchTimer := some s.cfg.wch.clutchTime } else s.wch) ∧
      t.ltc.hazard = s.ltc.hazard ∧ t.sup = s.sup ∧ SameStores s t ∧ SameLevels s t ∧
      SameLightUnits s t ∧ { t.unit 0 with stacked := none } = { s.unit 0 with stacked := none }

/-- R5: ARM outside PARKED changes nothing. -/
def Obligations.ArmElsewhere : Prop :=
  ∀ (tag : Byte) (s : State), s.lnk.inHand = none →
    (s.vsc.op = .armed → exec (.arm tag []) s = .next (replied s s 0x10 tag [] (.done .none) [])) ∧
    (s.vsc.op = .failsafe ∨ s.vsc.op = .shuttingDown →
      exec (.arm tag []) s = .next (replied s s 0x10 tag [] (.refused .notParked) [])) ∧
    (s.vsc.op = .tripped →
      exec (.arm tag []) s = .next (replied s s 0x10 tag [] (.refused .tripped) (u8 s.vsc.causes.mask)))

/-- 01 sections 1.4, 1.6 and 1.7.3: PARK in each operating state. In TRIPPED it tests the conditions
present and leaves the state or names them. What a shutdown's beginning keeps rests on logs 20, 22 and 27, and
the hold reason in PARKED on log 42. -/
def Obligations.ParkByState : Prop :=
  ∀ (tag : Byte) (s : State), s.lnk.inHand = none →
    (s.vsc.op = .parked ∨ s.vsc.op = .shuttingDown →
      exec (.park tag []) s = .next (replied s s 0x11 tag [] (.done .none) [])) ∧
    (s.vsc.op = .armed ∨ s.vsc.op = .failsafe → ∃ t, exec (.park tag []) s = .next t ∧
      AnsweredBy s t 0x11 tag [] (.done .none) [] ∧ BeginsShutdown s t .shutdown .shutdown ∧
      ShutdownNotices s t (offer (.opstate .shuttingDown s.vsc.op .park) s) .shutdown ∧
      t.vsc.expiryCount = s.vsc.expiryCount ∧ t.vsc.causes = s.vsc.causes) ∧
    (s.vsc.op = .tripped →
      let present : CauseSet :=
        { short := s.vsc.comparator, packOvercurrent := false
          overtemp := ⟨decide ((s.cfg.vsc.tripTemp : Int) - 15 ≤ s.scn.results.temp.board),
                       decide ((s.cfg.vsc.tripTemp : Int) - 15 ≤ s.scn.results.temp.front),
                       decide ((s.cfg.vsc.tripTemp : Int) - 15 ≤ s.scn.results.temp.rear),
                       decide ((s.cfg.vsc.tripTemp : Int) - 15 ≤ s.scn.results.temp.winch)⟩ }
      (present ≠ .empty → exec (.park tag []) s =
        .next (replied s s 0x11 tag [] (.refused .tripped) (u8 present.mask))) ∧
      (present = .empty → ∃ t, exec (.park tag []) s = .next t ∧
        AnsweredBy s t 0x11 tag [] (.done .none) [] ∧ EntersParked s t s.wch ∧ t.vsc.causes = .empty ∧
        t.vsc.firstCause = none ∧ t.vsc.expiryCount = s.vsc.expiryCount ∧
        SameNotices t (offer (.opstate .parked .tripped .tripCleared) s) ∧
        { t.unit 0 with stacked := none } = { s.unit 0 with stacked := none }))

/-! ## Timers and trips (01) -/

/-- 01 section 1.5: a hold expiry. The first takes the part to FAILSAFE and offers FAILSAFE, then OPSTATE;
the second begins a shutdown with origin FAILSAFE; a stopped timer has none (log 2). What the entries keep
rests on logs 20, 22 and 27. -/
def Obligations.HoldExpiryByState : Prop :=
  ∀ s : State,
    (s.vsc.hold = none ∨ (s.vsc.op ≠ .armed ∧ s.vsc.op ≠ .failsafe) → exec .holdExpiry s = .next s) ∧
    (s.vsc.hold.isSome = true → s.vsc.op = .armed → ∃ t, exec .holdExpiry s = .next t ∧
      EntersFailsafe s t ∧ t.lnk = s.lnk ∧
      let noticed := offer (.opstate .failsafe .armed .linkLost) (offer (.failsafe 1 .armed) s)
      ((s.unit 0).state ≠ .running ∨ s.wch.clutch.moving = true → SameNotices t noticed) ∧
      ((s.unit 0).state = .running → s.wch.clutch.moving = false →
        SameNotices t (offerEnding (winchEnding s .failsafe) noticed))) ∧
    (s.vsc.hold.isSome = true → s.vsc.op = .failsafe → ∃ t, exec .holdExpiry s = .next t ∧
      BeginsShutdown s t .failsafe .failsafe ∧ t.vsc.expiryCount = 2 ∧ t.vsc.causes = s.vsc.causes ∧
      t.lnk = s.lnk ∧
      ShutdownNotices s t
        (offer (.opstate .shuttingDown .failsafe .linkLost) (offer (.failsafe 2 .failsafe) s)) .failsafe)

/-- 01 section 1.6: a grace expiry taken in SHUTTING_DOWN forces the shutdown: a RUNNING or HALTING winch
unit ends FORCED, before the OPSTATE notice. Elsewhere it changes nothing (log 2). -/
def Obligations.GraceExpiryForces : Prop :=
  ∀ s : State,
    (s.vsc.grace = none ∨ s.vsc.op ≠ .shuttingDown → exec .graceExpiry s = .next s) ∧
    (s.vsc.grace.isSome = true → s.vsc.op = .shuttingDown → ∃ t, exec .graceExpiry s = .next t ∧
      EntersParked s t (if (s.unit 0).state = .idle then s.wch else s.wch.ended) ∧
      t.vsc.causes = s.vsc.causes ∧ t.vsc.expiryCount = s.vsc.expiryCount ∧ t.lnk = s.lnk ∧
      let notice := Offer.opstate .parked .shuttingDown .shutdownForced
      ((s.unit 0).state = .idle → SameNotices t (offer notice s) ∧ t.trc.assist = s.trc.assist ∧
        { t.unit 0 with stacked := none } = { s.unit 0 with stacked := none }) ∧
      ((s.unit 0).state ≠ .idle → SameNotices t (offer notice (offerEnding (winchEnding s .forced) s)) ∧
        t.trc.assist = none ∧ UnitEnded s t))

/-- 01 sections 1.7.1 and 1.7.2: a comparator's assertion. Outside TRIPPED it takes the part there, with TRIP
offered before OPSTATE; in TRIPPED a cause that is new is added and noticed; a comparator that stays
asserted gives no event; a de-assertion changes its level alone. That the entry keeps the limiters is log 27. -/
def Obligations.ComparatorTrips : Prop :=
  ∀ (b : Bridge) (s : State),
    (s.vsc.comparator.get b = true → exec (.shortComparatorAssert b) s = .next s) ∧
    (s.vsc.comparator.get b = false → s.vsc.op ≠ .tripped →
      ∃ t, exec (.shortComparatorAssert b) s = .next t ∧ EntersTripped s t ∧
        t.vsc.causes = s.vsc.causes.add (.short b) ∧ t.vsc.firstCause = some (.short b) ∧
        t.vsc.comparator = s.vsc.comparator.put b true ∧ t.lnk = s.lnk ∧
        let noticed := offer (.opstate .tripped s.vsc.op .trip)
          (offer (.tripEntered (s.vsc.causes.add (.short b)) (.short b)) s)
        SameNotices t (if (s.unit 0).state = .idle then noticed
          else offerEnding (winchEnding s .tripped) noticed)) ∧
    (s.vsc.comparator.get b = false → s.vsc.op = .tripped →
      let vsc := { s.vsc with comparator := s.vsc.comparator.put b true }
      (s.vsc.causes.has (.short b) = true →
        exec (.shortComparatorAssert b) s = .next { s with vsc := vsc }) ∧
      (s.vsc.causes.has (.short b) = false →
        let causes := s.vsc.causes.add (.short b)
        exec (.shortComparatorAssert b) s = .next (offer (.tripAdded causes (.short b))
          { s with vsc := { vsc with causes := causes } }))) ∧
    exec (.shortComparatorDeassert b) s =
      .next { s with vsc := { s.vsc with comparator := s.vsc.comparator.put b false } }

/-! ## DRIVE (01, 04, 05) -/

/-- 01 section 1.5, 04 section 4.3, 05 sections 5.2, 5.4 and 5.5: DRIVE. An unknown dig mode and a state that
does not drive refuse it; otherwise the hold timer restarts, the latch is tested on the clamped throttle, the
targets follow without a move of either axle, and a steer or throttle outside its band wakes relaxed outputs.
The traction state and the braking flag are formed anew, with the DRAG_BRAKE in force (log 20), and the overlays
are tested: once in ARMED; in FAILSAFE at the return, when the hazard stops, and then at the DRIVE. The front
target takes the FRONT_RATIO in force (log 36); the reply has each axle's duty cap and derate flag in an order that
is free (log 41), and free bytes for an applied duty below 0 (`dutyField`, log 33). -/
def Obligations.DriveByState : Prop :=
  ∀ (tag t0 t1 s0 s1 d : Byte) (s : State), s.lnk.inHand = none →
    let p : List Byte := [t0, t1, s0, s1, d]
    let throttle : Int := max (-1000) (min 1000 (t1 ++ t0 : BitVec 16).toInt)
    let steer : Int := max (-1000) (min 1000 (s1 ++ s0 : BitVec 16).toInt)
    let latch : Bool := (s.vsc.latch || decide (s.vsc.op = .failsafe)) &&
      decide ((s.cfg.vsc.neutralBand : Int) < throttle ∨ throttle < -(s.cfg.vsc.neutralBand : Int))
    (4 < d.toNat → exec (.drive tag p) s = .next (replied s s 0x12 tag p (.refused .badValue) [])) ∧
    (d.toNat ≤ 4 → s.vsc.op ≠ .armed → s.vsc.op ≠ .failsafe →
      exec (.drive tag p) s = .next (replied s s 0x12 tag p (.refused .notArmed) [])) ∧
    (∀ dig : Dig, d.toNat = dig.code → s.vsc.op = .armed ∨ s.vsc.op = .failsafe →
      ∃ t, exec (.drive tag p) s = .next t ∧
        (∃ front rear, DriveAxleFields t .front front ∧ DriveAxleFields t .rear rear ∧
          AnsweredBy s t 0x12 tag p (.done .none) (i16 throttle ++ i16 steer ++ i16 t.trc.throttle ++
            flagByte latch ++ u8 t.trc.digInForce.code ++ u8 dig.code ++ u8 t.trc.state.code ++ front ++ rear)) ∧
        t.vsc = { s.vsc with op := .armed, hold := some s.cfg.vsc.holdTime, latch := latch
                             expiryCount := if s.vsc.op = .failsafe then 0 else s.vsc.expiryCount } ∧
        t.trc.throttle = (if latch then 0 else throttle) ∧
        t.trc.hold = (if latch then .latch else .none) ∧ t.trc.digRequested = dig ∧
        t.trc.digInForce = s.trc.digInForce ∧ t.trc.applied = s.trc.applied ∧ t.trc.mode = s.trc.mode ∧
        t.trc.limiter = s.trc.limiter ∧ t.trc.assist = s.trc.assist ∧
        t.trc.ratioInForce = s.trc.ratioInForce ∧ t.trc.dragInForce = s.trc.dragInForce ∧
        t.trc.target = (if latch then ⟨0, 0⟩ else
          ⟨if (digHold s.trc.digInForce .front).isSome then 0
             else max (-1000) (min 1000 ((throttle * s.trc.ratioInForce).tdiv 1000)),
           if (digHold s.trc.digInForce .rear).isSome then 0 else throttle⟩) ∧
        (let g := s.cfg.stc
        let within : Prop := steer.natAbs ≤ g.centreBand
        let outside : Prop := ¬ within ∨ s.cfg.vsc.neutralBand < throttle.natAbs
        let wakes : Prop := s.stc.out = .relaxed ∧ outside
        let mode := if within then s.stc.pendingMode.getD s.stc.mode else s.stc.mode
        let holds : Prop := g.relaxTime ≠ 0 ∧ (s.stc.out = .pulsing ∨ wakes) ∧ within ∧
          s.trc.applied = ⟨0, 0⟩
        t.stc = { s.stc with
          steer := steer
          mode := mode
          pendingMode := if within then none else s.stc.pendingMode
          frozen := if s.vsc.op = .failsafe then false else s.stc.frozen
          out := if wakes then .pulsing else s.stc.out
          target := if wakes then steerPulses g mode steer s.trc.applied.front else s.stc.target
          output := if wakes then steerPulses g mode steer s.trc.applied.front else s.stc.output
          relax := if holds then
              some (if outside then g.relaxTime else s.stc.relax.getD g.relaxTime)
            else none }) ∧
        t.nq = (if s.vsc.op = .failsafe then (offer (.opstate .armed .failsafe .linkRestored) s).nq
          else s.nq) ∧
        TractionOk t ∧ (s.vsc.op = .armed → ∀ c : Chan, OverlayTested t c (s.chan c)) ∧
        (s.vsc.op = .failsafe → ∃ back : State, TractionOk back ∧ back.vsc.op = .armed ∧
          { back.trc with state := .held, braking := false } =
            { s.trc with hold := .latch, state := .held, braking := false } ∧
          back.stc.steer = s.stc.steer ∧ back.cfg = s.cfg ∧ back.ltc.hazard = none ∧
          ∀ c : Chan, OverlayTested back c (s.chan c) ∧ OverlayTested t c (back.chan c)) ∧
        t.ltc.hazard = (if s.vsc.op = .failsafe then none else s.ltc.hazard) ∧
        t.scn = s.scn ∧ t.sup = s.sup ∧ t.wch = s.wch ∧ SameStores s t ∧ SameLevels s t ∧
        SameLightUnits s t ∧ { t.unit 0 with stacked := none } = { s.unit 0 with stacked := none })

/-- 01 sections 1.1 to 1.8, 04 sections 4.2, 4.5 and 4.6, 02 section 2.2.2: the operating state fixes the timers,
the shutdown origin, the first cause and the hazard, and never stands in ARMED or FAILSAFE while the stage is
CUTOFF; an axle bridge is in DRIVE exactly while its applied duty is not 0, and no axle drives in PARKED or
TRIPPED; the traction state is the classification of R77 and the braking flag that of R78, with the DRAG_BRAKE in
force (log 20); and a trigger wait stands only at the slot of a bridge that is driven, in a CONTINUOUS scan. Every
command keeps this. -/
def Obligations.VehicleStaysConsistent : Prop :=
  ∀ (i : Instr) (s t : State), VehicleOk s → (∀ x, AxleOk s x) → TractionOk s → ScanOk s → exec i s = .next t →
    VehicleOk t ∧ (∀ x, AxleOk t x) ∧ TractionOk t ∧ ScanOk t

/-! ## Scans (02) -/

/-- 02 sections 2.2, 2.2.2 and 2.6: conversions walk the scan list. A scan that waits for a trigger, or no
scan, takes no conversion end (log 2); before slot 12 the code is kept and the next slot is reached, where
slots 6, 7 and 8 wait for their bridge if it is driven. A trigger ends the wait for its bridge alone; a watch
interval expiry restarts the timer and starts a scan if none is in progress. -/
def Obligations.ConversionsWalkTheScanList : Prop :=
  (∀ (code : Code) (s : State),
    (s.scn.scan = none ∨ s.scn.wait ≠ none → exec (.conversionEnd code) s = .next s) ∧
    (∀ c : Scan, s.scn.scan = some c → s.scn.wait = none →
      ∀ k : Fin 12, k.val = (if c.kind = .watch ∧ c.slot = 3 then 8 else c.slot.val + 1) →
        exec (.conversionEnd code) s = .next { s with scn := { s.scn with
          scan := some { kind := c.kind, slot := k, codes := c.codes.set c.slot (some code) }
          wait := if k = 5 ∧ s.trc.applied.front ≠ 0 then some .front
                  else if k = 6 ∧ s.trc.applied.rear ≠ 0 then some .rear
                  else if k = 7 ∧ s.wch.applied ≠ 0 then some .winch else none } })) ∧
  ∀ (b : Bridge) (s : State),
    (s.scn.wait = some b →
      exec (.bridgeTriggerArrival b) s = .next { s with scn := { s.scn with wait := none } }) ∧
    (s.scn.wait ≠ some b → exec (.bridgeTriggerArrival b) s = .next s) ∧
    (s.scn.watchTimer = none → exec .watchIntervalExpiry s = .next s) ∧
    (s.scn.watchTimer.isSome = true → s.scn.scan.isSome = true → exec .watchIntervalExpiry s =
      .next { s with scn := { s.scn with watchTimer := some s.cfg.scn.watchInterval } }) ∧
    (s.scn.watchTimer.isSome = true → s.scn.scan = none → exec .watchIntervalExpiry s =
      .next { s with scn := { s.scn with watchTimer := some s.cfg.scn.watchInterval, wait := none
                                         scan := some ⟨s.scn.mode, 0, Vector.replicate 12 none⟩ } })

/-- 02 sections 2.3 to 2.8: the end of slot 12 publishes the scan's results, and nothing that the other blocks do
at the completion changes them. SCN's own part, `scanComplete`, then starts the next scan in CONTINUOUS mode
and makes the watch window check of a WATCH scan in WATCH mode; BlocksActInSomeOrder ties it to the
command. -/
def Obligations.CompletionPublishesResults : Prop :=
  ∀ (last : Code) (c : Scan) (s : State), s.scn.scan = some c → s.scn.wait = none → c.slot = 11 →
    2 ≤ s.cfg.scn.cellCount → s.cfg.scn.cellCount ≤ 4 →
    let code (k : Fin 12) : Nat := if k = 11 then last.toNat else (c.codes[k].getD 0).toNat
    let n := s.cfg.scn.cellCount
    ∃ t, exec (.conversionEnd last) s = .next t ∧
      let r := t.scn.results
      r.kind = some c.kind ∧
      (∀ k : Fin 4, 8190 * r.taps[k] ≤ 2 * (code ⟨k.val, by omega⟩ * 4400 * (k.val + 1)) + 4095 ∧
        2 * (code ⟨k.val, by omega⟩ * 4400 * (k.val + 1)) + 4095 < 8190 * (r.taps[k] + 1)) ∧
      (∀ k : Fin 4, r.raw[k] = if k.val < n then r.taps[k] - (if k.val = 0 then 0 else r.taps[k.val - 1]) else 0) ∧
      (∀ k : Fin 4, r.filtered[k] = if n ≤ k.val then 0 else if s.scn.primed = false then r.raw[k]
        else ((s.scn.filtered[k] : Int) + ((r.raw[k] : Int) - s.scn.filtered[k]).tdiv 4).toNat) ∧
      (∀ k : Fin 4, k.val < n → r.minRaw ≤ r.raw[k] ∧ r.minFiltered ≤ r.filtered[k]) ∧
      (∃ k : Fin 4, k.val < n ∧ r.minRaw = r.raw[k]) ∧ (∃ k : Fin 4, k.val < n ∧ r.minFiltered = r.filtered[k]) ∧
      (c.kind = .continuous → r.pack = code 4 * 80000 / 4095 ∧
        r.bridge = ⟨code 5 * 40000 / 4095, code 6 * 40000 / 4095, code 7 * 40000 / 4095⟩ ∧
        r.overcurrent = if s.cfg.sup.packLimit * 5 / 4 < r.pack then min (s.scn.overcurrent + 1) 255 else 0) ∧
      (c.kind = .watch → r.pack = 0 ∧ r.bridge = ⟨0, 0, 0⟩ ∧ r.overcurrent = s.scn.overcurrent) ∧
      r.temp = ⟨(code 8 * 200 / 4095 : Nat) - 50, (code 9 * 200 / 4095 : Nat) - 50,
                (code 10 * 200 / 4095 : Nat) - 50, (code 11 * 200 / 4095 : Nat) - 50⟩ ∧
      r.hottest = max (max r.temp.board r.temp.front) (max r.temp.rear r.temp.winch) ∧
      t.scn.primed = true ∧ t.scn.filtered = r.filtered ∧
      t.scn.completions = (s.scn.completions + 1) % 65536 ∧ t.vsc.measured = true ∧
      t.lnk = s.lnk ∧ t.pgc.store = s.pgc.store ∧ t.cfg = s.cfg ∧ t.lmx = s.lmx ∧ t.pending = s.pending ∧
      let q := scanComplete { c with codes := c.codes.set 11 (some last) } s
      let low : Bool := decide (r.minFiltered < s.cfg.scn.watchLow)
      let hot : Bool := decide ((s.cfg.scn.watchTemp : Int) < r.hottest)
      let outside : Bool := low || hot
      q.scn.results = r ∧ q.scn.wait = none ∧
      (s.scn.mode = .continuous → q.scn.scan = some ⟨.continuous, 0, Vector.replicate 12 none⟩ ∧
        q.scn.excursion = s.scn.excursion ∧ SameNotices q s) ∧
      (s.scn.mode = .watch → q.scn.scan = none) ∧
      (s.scn.mode = .watch → c.kind = .watch → q.scn.excursion = outside ∧
        (s.scn.excursion = true ∨ outside = false → SameNotices q s) ∧
        (s.scn.excursion = false → outside = true → ∃ x : Sensor, r.temp.get x = r.hottest ∧
          (∀ y : Sensor, y.code < x.code → r.temp.get y ≠ r.hottest) ∧
          SameNotices q (offer (.watch r.minFiltered r.hottest x low hot) s)))

/-- 02 section 2.4, 08 section 8.2, 09 section 9.4.3: the tie between a command at which several blocks act and
what each block does. The end of slot 12 is SCN's part of the completion, then SUP with VSC after it, TRC's
assist step and WCH's part in some order of the three (log 9). A light frame is LTC, WCH and LMX in some order,
and LMX samples the lines and hands out the three kinds of accepted change in some order (logs 10, 18). -/
def Obligations.BlocksActInSomeOrder : Prop :=
  (∀ (last : Code) (c : Scan) (s : State), s.scn.scan = some c → s.scn.wait = none → c.slot = 11 → ∃ o,
    exec (.conversionEnd last) s = .next (runOrder o supplyAndVehicle assistStep winchCompletion
      (scanComplete { c with codes := c.codes.set 11 (some last) } s).nextChoice)) ∧
  (∀ s : State, supplyAndVehicle s = vehicleCompletion
    (decide ((supplyCompletion s).sup.stage = .cutoff) && !decide (s.sup.stage = .cutoff))
    (supplyCompletion s)) ∧
  (∀ (pins : PinLevels) (s : State), ∃ o o', exec (.lightFrameExpiry pins) s =
    .next (runOrder o lightsFrame winchFrame (linesFrame o' pins) s.nextChoice.nextChoice)) ∧
  ∀ (o : Order3) (pins : PinLevels) (s q : State),
    let accepts (k : Fin 4) : Prop := (s.lmx.lines[k]).sample = some (pinLevel pins k) ∧
      pinLevel pins k ≠ (s.lmx.lines[k]).accepted
    linesFrame o pins s = runOrder o (handOut s pins .drumPulse) (handOut s pins .fairlead)
      (handOut s pins .generalInput) (sampleLines pins s) ∧
    (∀ fn, (∀ k, (s.lmx.lines[k]).fn = fn → ¬ accepts k) → handOut s pins fn q = q) ∧
    (∀ i, (s.lmx.lines[i]).fn = .drumPulse → (∀ k, k ≠ i → (s.lmx.lines[k]).fn ≠ .drumPulse) → accepts i →
      handOut s pins .drumPulse q = if pinLevel pins i = .low then drumPulse q else q) ∧
    (∀ i, (s.lmx.lines[i]).fn = .fairlead → (∀ k, k ≠ i → (s.lmx.lines[k]).fn ≠ .fairlead) → accepts i →
      handOut s pins .fairlead q = fairleadChange q)

/-! ## The supply (03) -/

/-- 03 sections 3.3, 3.4 and 3.7: the stage and the ceiling of a completion, from the minimum filtered and the
minimum raw cell that it publishes. -/
def Obligations.CompletionSetsStageAndCeiling : Prop :=
  ∀ (last : Code) (c : Scan) (s : State), s.scn.scan = some c → s.scn.wait = none → c.slot = 11 →
    ∃ t, exec (.conversionEnd last) s = .next t ∧
      let f := t.scn.results.minFiltered
      let g := s.cfg.sup
      let a := t.sup.alloc
      let released := if g.cautionLevel + g.hyst ≤ f then Stage.normal else .caution
      t.sup.assessed = true ∧
      t.sup.cutoffCount = (if f < g.cutoffLevel then min (s.sup.cutoffCount + 1) 255 else 0) ∧
      t.sup.stage = (if s.sup.stage = .cutoff then
          (if f < g.reserveLevel + g.hyst then .cutoff else released)
        else if g.cutoffConfirm ≤ t.sup.cutoffCount then .cutoff
        else if f < g.reserveLevel ∨ (s.sup.stage = .reserve ∧ f < g.reserveLevel + g.hyst) then .reserve
        else if f < g.cautionLevel ∨ (s.sup.stage ≠ .normal ∧ released = .caution) then .caution
        else .normal) ∧
      a.base = (match t.sup.stage with
        | .normal => g.packLimit
        | .caution => g.packLimit * 3 / 4
        | .reserve => g.packLimit / 4
        | .cutoff => 0) ∧
      a.sag = min 200 (t.scn.results.minRaw - g.sagFloor) ∧ a.rawCeiling = a.base * a.sag / 200 ∧
      a.ceiling = min a.rawCeiling (s.sup.alloc.ceiling + 2000) ∧
      (∀ k : Chan, a.stageCap[k] = match t.sup.stage, s.cfg.ltc.chan[k].cls with
        | .normal, _ => 255
        | .caution, .essential => 255
        | .caution, .decorative => 128
        | .reserve, .essential => 128
        | .reserve, .decorative => 0
        | .cutoff, _ => 0) ∧
      (∀ k : Chan, t.sup.stage = .cutoff → (t.chan k).applied = 0)

/-- 03 sections 3.5 to 3.7: the allocation that SUP makes at a completion, for every state that SUP finds: the
demands that the consumers have published, the classes A, B, C and D served in this order (in full, or each
member its share of what is left), the duty caps with the 500 limits of RESERVE and of a derated bridge, the
derate flags and the budget caps. BlocksActInSomeOrder ties it to the command. -/
def Obligations.AllocationFollowsClasses : Prop :=
  ∀ s : State,
    let t := supplyCompletion s
    let a := t.sup.alloc
    let rated := s.cfg.sup.rated
    let essential (k : Chan) : Prop := s.cfg.ltc.chan[k].cls = .essential
    let ess := allChans.filter fun k => decide (s.cfg.ltc.chan[k].cls = .essential)
    let dec := allChans.filter fun k => !decide (s.cfg.ltc.chan[k].cls = .essential)
    let bridges (v : PerBridge Nat) : Nat := v.front + v.rear + v.winch
    let totalB := (ess.map fun k => a.demand.light[k]).sum
    let totalC := bridges a.demand.bridge
    let totalD := (dec.map fun k => a.demand.light[k]).sum
    let leftB := a.ceiling - a.grant.servo
    let leftC := leftB - (ess.map fun k => a.grant.light[k]).sum
    let leftD := leftC - bridges a.grant.bridge
    let share (left total demand : Nat) : Nat := if total ≤ left then demand else left * demand / total
    let temp : Bridge → Int := fun b => match b with
      | .front => s.scn.results.temp.front
      | .rear => s.scn.results.temp.rear
      | .winch => s.scn.results.temp.winch
    a.demand.servo = (if s.stc.out = .pulsing ∨ s.stc.out = .held then s.cfg.sup.servoReserve else 0) ∧
    (∀ k : Chan, a.demand.light[k] = (s.chan k).demand) ∧
    a.demand.bridge.front = s.trc.target.front.natAbs * rated.front / 1000 ∧
    a.demand.bridge.rear = s.trc.target.rear.natAbs * rated.rear / 1000 ∧
    a.demand.bridge.winch = (if s.wch.state = .runningPowered then
        (s.wch.step.map fun h => h.step.speed * rated.winch / 1000).getD 0
      else 0) ∧
    a.grant.servo = share a.ceiling a.demand.servo a.demand.servo ∧
    (∀ k : Chan, a.grant.light[k] = if essential k then share leftB totalB a.demand.light[k]
      else share leftD totalD a.demand.light[k]) ∧
    (∀ b : Bridge, a.grant.bridge.get b = share leftC totalC (a.demand.bridge.get b)) ∧
    a.unassigned = leftD - (dec.map fun k => a.grant.light[k]).sum ∧
    (∀ b : Bridge, a.derate.get b = if s.sup.alloc.derate.get b = true
      then decide (¬ temp b < (s.cfg.sup.warnTemp : Int) - 10)
      else decide ((s.cfg.sup.warnTemp : Int) ≤ temp b)) ∧
    (∀ b : Bridge, a.dutyCap.get b =
      let budget := if totalC ≤ leftC then 1000 else min 1000 (a.grant.bridge.get b * 1000 / rated.get b)
      if t.sup.stage = .reserve ∨ a.derate.get b = true then min 500 budget else budget) ∧
    (∀ k : Chan, a.budgetCap[k] = if s.cfg.ltc.chan[k].rated = 0 then 255
      else if (if essential k then totalB ≤ leftB else totalD ≤ leftD) then 255
      else min 255 (a.grant.light[k] * 255 / s.cfg.ltc.chan[k].rated))

/-- 03 sections 3.3 and 3.8, 04 section 4.7, 08 sections 8.6 and 8.7: what SUP's publication does, for every state
that it finds: a STAGE notice if the stage has changed; in a stage that has become CUTOFF the end of each
running light unit, in rising unit number behind that notice; and every consumer above its new cap cut down to
it. A cut of an axle forms the traction state and the braking flag anew, with the DRAG_BRAKE held for an axle cut to
0 (log 20), makes STC's wake and relax tests and tests every overlay; without one they stand. In SHUTTING_DOWN a cut
that leaves both axles at 0 completes the shutdown, with the entry to PARKED (hold reason: log 42),
whose notice stands behind the STAGE notice and the endings (log 49). BlocksActInSomeOrder ties it to the command. -/
def Obligations.SupplyPublishesAndCuts : Prop :=
  ∀ s : State,
    let t := supplyCompletion s
    let a := t.sup.alloc
    let became : Prop := t.sup.stage = .cutoff ∧ s.sup.stage ≠ .cutoff
    let runs (c : Chan) : Prop := (s.unit (unitOf c)).state = .running
    let cap (x : Axle) : Nat := a.dutyCap.get x.bridge
    let residual (c : Chan) : Nat := match (s.chan c).step with
      | some h => h.step.fade + h.step.hold - (s.chan c).frames
      | none => 0
    let noticed := if t.sup.stage = s.sup.stage then s
      else offer (.stage t.sup.stage s.sup.stage s.scn.results.minFiltered a.ceiling) s
    let ended := if became then allChans.foldl (fun q c => if runs c then
        offerEnding (endingOf s (unitOf c) .cutoff (residual c) (s.chan c).program) q
      else q) noticed else noticed
    let above : Prop := ∃ x, cap x < (s.trc.applied.get x).natAbs
    let level (c : Chan) : Nat := max (s.chan c).manual
      (if overlayLit (s.chan c).overlay s.ltc.hazard = true then s.cfg.ltc.chan[c].overlayLevel else 0)
    let before (c : Chan) : Channel :=
      let ch := { s.chan c with applied := min (s.chan c).applied (min a.budgetCap[c] a.stageCap[c]) }
      if became ∧ runs c then { ch with source := .manual, step := none, frames := 0, desired := level c
                                        demand := level c * s.cfg.ltc.chan[c].rated / 255 }
      else ch
    AxlesCut s t cap .cap { s.wch with applied := min s.wch.applied a.dutyCap.winch } ∧
    (¬ above → ∀ c : Chan, t.chan c = before c) ∧
    (above → ¬ CutCompletes s cap → ∀ c : Chan, OverlayTested t c (before c)) ∧
    (CutCompletes s cap → OverlaysSettle { s with ltc := { s.ltc with channels := Vector.ofFn before } } t) ∧
    (¬ CutCompletes s cap → SameNotices t ended ∧ t.ltc.hazard = s.ltc.hazard ∧ SameScan s t) ∧
    (CutCompletes s cap → SameNotices t (offer (.opstate .parked .shuttingDown .shutdownComplete) ended)) ∧
    t.trc.assist = s.trc.assist ∧
    (∀ c : Chan, (t.chan c).applied = min (s.chan c).applied (min a.budgetCap[c] a.stageCap[c]) ∧
      (t.chan c).manual = (s.chan c).manual ∧ (t.chan c).program = (s.chan c).program ∧
      (became → runs c →
        { t.unit (unitOf c) with stacked := none } =
          { s.unit (unitOf c) with state := .idle, haltCause := none, stacked := none } ∧
        (t.chan c).source = .manual ∧ (t.chan c).step = none ∧ (t.chan c).frames = 0 ∧
        LevelFormed s.cfg.ltc.chan[c] t.ltc.hazard (t.chan c)) ∧
      (¬ became ∨ ¬ runs c →
        { t.unit (unitOf c) with stacked := none } = { s.unit (unitOf c) with stacked := none } ∧
        (t.chan c).source = (s.chan c).source ∧ (t.chan c).step = (s.chan c).step ∧
        (t.chan c).frames = (s.chan c).frames)) ∧
    (∀ slot : Slot, t.pgc.useCount[slot] = s.pgc.useCount[slot] - if became then
        allChans.countP fun c => decide ((s.unit (unitOf c)).state = .running) &&
          (s.unit (unitOf c)).walked.contains slot
      else 0) ∧
    { t.unit 0 with stacked := none } = { s.unit 0 with stacked := none } ∧ t.lnk = s.lnk ∧ SameStores s t

/-- 04 section 4.9, 07 sections 7.5.2 and 7.6: what TRC's assist step and WCH do at a completion, for every state
that they find: the assist cap falls by 50 below SLACK_LEVEL, with a cut, and else climbs by 25; WCH stores the
current, completes a LOAD step that has reached it, and otherwise times a stall. An axle cut to 0 takes the DRAG_BRAKE
held (log 20); a cut that completes a shutdown, and a program that ends at rest in one, leaves the hold reason none
(log 42). BlocksActInSomeOrder ties both to the command. -/
def Obligations.CompletionStepsAssistAndWinch : Prop :=
  ∀ s : State,
    let current := s.scn.results.bridge.winch
    (s.trc.assist = none ∨ s.scn.results.kind ≠ some .continuous → assistStep s = s) ∧
    (∀ cap, s.trc.assist = some cap → s.scn.results.kind = some .continuous →
      (s.cfg.trc.slackLevel ≤ current →
        assistStep s = { s with trc := { s.trc with assist := some (min 1000 (cap + 25)) } }) ∧
      (current < s.cfg.trc.slackLevel →
        (assistStep s).trc.assist = some (cap - 50) ∧ AxlesCut s (assistStep s) (fun _ => cap - 50) .assist s.wch ∧
        (let above : Prop := ∃ x, cap - 50 < (s.trc.applied.get x).natAbs
        (¬ above → (assistStep s).ltc = s.ltc) ∧
        (above → ¬ CutCompletes s (fun _ => cap - 50) → (assistStep s).ltc.hazard = s.ltc.hazard ∧
          ∀ c : Chan, OverlayTested (assistStep s) c (s.chan c)) ∧
        (CutCompletes s (fun _ => cap - 50) → EntersParked s (assistStep s) s.wch)) ∧
        (assistStep s).pgc.useCount = s.pgc.useCount ∧
        { (assistStep s).unit 0 with stacked := none } = { s.unit 0 with stacked := none } ∧
        (¬ CutCompletes s (fun _ => cap - 50) → SameNotices (assistStep s) s) ∧
        (CutCompletes s (fun _ => cap - 50) →
          SameNotices (assistStep s) (offer (.opstate .parked .shuttingDown .shutdownComplete) s)) ∧
        (assistStep s).sup = s.sup ∧ (assistStep s).lnk = s.lnk ∧ SameStores s (assistStep s))) ∧
    (s.scn.results.kind ≠ some .continuous ∨ s.wch.state ≠ .runningPowered → winchCompletion s = s) ∧
    (∀ h, s.scn.results.kind = some .continuous → s.wch.state = .runningPowered → s.wch.step = some h →
      let read : State := { s with wch := { s.wch with lastCurrent := current } }
      (∀ mA, h.step.endOn = .load mA → mA ≤ current →
        WinchStepCompletes (read.modUnit 0 fun x => { x with progress := current }) (winchCompletion s)) ∧
      ((∀ mA, h.step.endOn = .load mA → current < mA) →
        winchCompletion s = { read with
          wch := { read.wch with stall := (if s.cfg.wch.stallCurrent ≤ current
            then some (s.wch.stall.getD s.cfg.wch.stallTime) else none) }
          pgc := (s.modUnit 0 fun x => { x with progress := match h.step.endOn with
            | .distance _ => s.wch.travel / 10
            | .time _ => s.wch.frames
            | .load _ => current
            | .fairlead => 0 }).pgc }))

/-- 01 sections 1.6 and 1.7, 03 section 3.3: what a completion does to the operating state: a temperature at
TRIP_TEMP or the fourth overcurrent trips the part; without a trip, a stage that becomes CUTOFF ends ARMED and
FAILSAFE. VSC's own part, `vehicleCompletion`, which finds the state as SUP left it (log 9), is given whole: the
entry actions, the causes and the notices. That a shutdown which SUP's cut completes is completed before a trip
cause of the same completion is taken is log 40; what the entries keep rests on logs 20, 22 and 27. -/
def Obligations.CompletionTripsOrCutsOff : Prop :=
  ∀ (last : Code) (c : Scan) (s : State), s.scn.scan = some c → s.scn.wait = none → c.slot = 11 →
    ∃ t, exec (.conversionEnd last) s = .next t ∧
      let r := t.scn.results
      let hot (x : Sensor) : Bool := decide ((s.cfg.vsc.tripTemp : Int) ≤ r.temp.get x)
      let surge : Bool := decide (c.kind = .continuous) && decide (4 ≤ r.overcurrent)
      let trips : Prop := hot .board = true ∨ hot .front = true ∨ hot .rear = true ∨ hot .winch = true ∨
        surge = true
      let became : Prop := t.sup.stage = .cutoff ∧ s.sup.stage ≠ .cutoff
      (trips → t.vsc.op = .tripped ∧ t.vsc.causes =
        { short := s.vsc.causes.short
          overtemp := ⟨s.vsc.causes.overtemp.board || hot .board, s.vsc.causes.overtemp.front || hot .front,
                       s.vsc.causes.overtemp.rear || hot .rear, s.vsc.causes.overtemp.winch || hot .winch⟩
          packOvercurrent := s.vsc.causes.packOvercurrent || surge }) ∧
      (¬ trips → t.vsc.causes = s.vsc.causes ∧
        (became → s.vsc.op = .armed ∨ s.vsc.op = .failsafe →
          t.vsc.op = .parked ∨ (t.vsc.op = .shuttingDown ∧ t.vsc.origin = .cutoff)) ∧
        (¬ became ∨ (s.vsc.op ≠ .armed ∧ s.vsc.op ≠ .failsafe) →
          t.vsc.op = s.vsc.op ∨ (s.vsc.op = .shuttingDown ∧ t.vsc.op = .parked))) ∧
      ∀ (q : State) (became : Bool),
        let m : State := { q with vsc := { q.vsc with measured := true } }
        let u := vehicleCompletion became q
        (∀ first, CauseDue q first → (∀ x, CauseDue q x → first.code ≤ x.code) → q.vsc.op ≠ .tripped →
          EntersTripped m u ∧ u.vsc.firstCause = some first ∧ u.vsc.comparator = q.vsc.comparator ∧
          (∀ x, u.vsc.causes.has x = true ↔ q.vsc.causes.has x = true ∨ CauseDue q x) ∧
          let noticed := offer (.opstate .tripped q.vsc.op .trip) (offer (.tripEntered u.vsc.causes first) q)
          SameNotices u (if (q.unit 0).state = .idle then noticed
            else offerEnding (winchEnding q .tripped) noticed)) ∧
        (q.vsc.op = .tripped →
          ((∀ x, CauseDue q x → q.vsc.causes.has x = true) → u = m) ∧
          (∀ first, CauseDue q first → q.vsc.causes.has first = false →
            (∀ x, CauseDue q x → q.vsc.causes.has x = false → first.code ≤ x.code) → ∃ causes,
            (∀ x, causes.has x = true ↔ q.vsc.causes.has x = true ∨ CauseDue q x) ∧
            u = offer (.tripAdded causes first) { m with vsc := { m.vsc with causes := causes } })) ∧
        ((∀ x, ¬ CauseDue q x) → became = true → q.vsc.op = .armed ∨ q.vsc.op = .failsafe →
          BeginsShutdown m u .cutoff .cutoff ∧ u.vsc.causes = q.vsc.causes ∧
          u.vsc.expiryCount = q.vsc.expiryCount ∧
          ShutdownNotices m u (offer (.opstate .shuttingDown q.vsc.op .cutoff) q) .cutoff) ∧
        ((∀ x, ¬ CauseDue q x) → became = false ∨ (q.vsc.op ≠ .armed ∧ q.vsc.op ≠ .failsafe) → u = m)

/-- 03 sections 3.6 and 3.8, 04 sections 4.4.2 and 4.9, 07 section 7.5.1, 08 section 8.6: an allocation never
grants a consumer more than it demands, and the grants with what is unassigned make up the ceiling; no axle
lies above its duty cap or the assist cap, the winch not above its duty cap, and no light above its caps. Every
command keeps both. -/
def Obligations.GrantsAndCapsHold : Prop :=
  ∀ (i : Instr) (s t : State), exec i s = .next t →
    (GrantsOk s.sup.alloc → GrantsOk t.sup.alloc) ∧ (CapsOk s → CapsOk t)

/-! ## Driving and steering (04, 05) -/

/-- 04 sections 4.2 to 4.6, 05 section 5.5, 02 section 2.2.2, 08 section 8.5: a drive frame. In OFF it does
nothing; otherwise the dig requested, FRONT_RATIO (log 36) and DRAG_BRAKE (log 20) are taken up, the targets are
formed, and each applied duty moves toward its target by at most THROTTLE_SLEW without crossing zero and within its
limit, with its limiter and its bridge's mode. The traction state and the braking flag are formed anew, a trigger
wait ends if its bridge's duty becomes 0 and stays otherwise, every overlay is tested, a frame that drives an axle
wakes relaxed outputs, and the relax test follows. In SHUTTING_DOWN the frame that finds both axles at 0, with the
winch at rest, completes the shutdown, and the hold reason is then none (log 42). -/
def Obligations.DriveFrameSlews : Prop :=
  ∀ s : State,
    (s.trc.state = .off → exec .driveFrameExpiry s = .next s) ∧
    (s.trc.state ≠ .off → ∃ t, exec .driveFrameExpiry s = .next t ∧
      let dig := s.trc.digRequested
      let target (x : Axle) : Int :=
        if s.trc.hold ≠ .none ∨ (digHold dig x).isSome = true then 0 else match x with
          | .front => max (-1000) (min 1000 ((s.trc.throttle * s.cfg.trc.frontRatio).tdiv 1000))
          | .rear => s.trc.throttle
      let n : Int := s.cfg.trc.throttleSlew
      let slewed (x : Axle) : Int :=
        let a := s.trc.applied.get x
        if a * target x < 0 then (if a < 0 then min 0 (a + n) else max 0 (a - n))
        else if a ≤ target x then min (target x) (a + n) else max (target x) (a - n)
      let cap (x : Axle) : Nat := s.sup.alloc.dutyCap.get x.bridge
      let limit (x : Axle) : Nat := min (cap x) (s.trc.assist.getD (cap x))
      let applied (x : Axle) : Int := max (-(limit x : Int)) (min (limit x : Int) (slewed x))
      let completes : Prop := s.vsc.op = .shuttingDown ∧ applied .front = 0 ∧ applied .rear = 0 ∧
        (s.unit 0).state = .idle ∧ s.wch.clutch.moving = false
      let taken : State :=
        { s with trc := { s.trc with digInForce := dig, ratioInForce := s.cfg.trc.frontRatio } }
      (∀ x, t.trc.applied.get x = applied x) ∧ t.trc.digInForce = dig ∧ t.trc.digRequested = dig ∧
      t.trc.ratioInForce = s.cfg.trc.frontRatio ∧ t.trc.dragInForce = s.cfg.trc.dragBrake ∧
      t.trc.assist = s.trc.assist ∧ TractionOk t ∧
      (completes → EntersParked taken t s.wch ∧
        SameNotices t (offer (.opstate .parked .shuttingDown .shutdownComplete) s) ∧
        { t.unit 0 with stacked := none } = { s.unit 0 with stacked := none }) ∧
      (¬ completes → t.vsc = s.vsc ∧ t.nq = s.nq ∧ t.wch = s.wch ∧ t.pgc = s.pgc ∧
        t.trc.throttle = s.trc.throttle ∧ t.trc.hold = s.trc.hold ∧ t.trc.winchOpen = s.trc.winchOpen ∧
        t.trc.target = ⟨target .front, target .rear⟩ ∧ SameScan s t ∧ t.ltc.hazard = s.ltc.hazard ∧
        (∀ c : Chan, OverlayTested t c (s.chan c)) ∧
        SteerFollowsDuties s t ∧
        (∀ x, t.trc.limiter.get x = if applied x = target x then .none
          else if (slewed x).natAbs ≤ limit x then .slew
          else if s.trc.assist.isSome = true ∧ limit x < cap x then .assist else .cap) ∧
        (∀ x, t.trc.mode.get x = if applied x ≠ 0 then .drive else match s.vsc.op with
          | .armed => (digHold dig x).getD
              (if target x ≠ 0 then .bridgeOpen else .shortBrake s.cfg.trc.dragBrake)
          | .failsafe => .shortBrake 1000
          | .shuttingDown => .shortBrake s.cfg.trc.dragBrake
          | .parked => .bridgeOpen
          | .tripped => .bridgeOpen)) ∧
      t.sup = s.sup ∧ t.lnk = s.lnk ∧ SameStores s t ∧ SameLevels s t ∧ SameLightUnits s t)

/-- R94's table: STEER_MODE by the operating state, the mode in force and the steer command. -/
def Obligations.SteerModeDecided : Prop :=
  ∀ (tag b : Byte) (s : State), s.lnk.inHand = none →
    (4 < b.toNat → exec (.steerMode tag [b]) s = .next (replied s s 0x13 tag [b] (.refused .badValue) [])) ∧
    ∀ m : SteerMode, b.toNat = m.code →
      let atOnce : Prop := s.vsc.op = .parked ∨ s.vsc.op = .tripped ∨ m = s.stc.mode ∨
        s.stc.steer.natAbs ≤ s.cfg.stc.centreBand
      (atOnce → exec (.steerMode tag [b]) s =
        .next (replied s { s with stc := { s.stc with mode := m, pendingMode := none } } 0x13 tag [b]
          (.done .applied) [b, 0xFF])) ∧
      (¬ atOnce → exec (.steerMode tag [b]) s =
        .next (replied s { s with stc := { s.stc with pendingMode := some m } } 0x13 tag [b]
          (.done .modePending) (u8 s.stc.mode.code ++ [b])))

/-- 05 section 5.3, 07 section 7.3: a servo frame: the targets from the steer and the mode, the outputs
slewed toward them, the pulses emitted, and the clutch servo's pulse. -/
def Obligations.ServoFrameEmits : Prop :=
  ∀ s : State,
    let g := s.cfg.stc
    let computed := steerPulses g s.stc.mode s.stc.steer s.trc.applied.front
    let target := if s.stc.out = .relaxed ∨ (s.stc.out = .pulsing ∧ s.stc.frozen = false) then computed
      else s.stc.target
    let slew (o w : Nat) : Nat := if o < w then min w (o + g.servoSlew) else max w (o - g.servoSlew)
    let output := match s.stc.out with
      | .pulsing => ⟨slew s.stc.output.front target.front, slew s.stc.output.rear target.rear⟩
      | .relaxed => target
      | _ => s.stc.output
    let emits : Bool := decide (s.stc.out = .pulsing) || decide (s.stc.out = .held)
    let clutch : Option Nat :=
      if s.hasLine .clutchServo = false ∨ s.vsc.op = .parked ∨ s.wch.clutch = .unknown then none
      else if s.wch.clutch = .engaged ∨ s.wch.clutch = .movingToEngage then some s.cfg.wch.clutchEngaged
      else some s.cfg.wch.clutchFree
    exec .servoFrameExpiry s = .next { s with
      stc := { s.stc with target := target, output := output
                          pulse := if emits then ⟨some output.front, some output.rear⟩ else ⟨none, none⟩
                          framePeriod := 1000000 / g.servoRate }
      wch := { s.wch with pulse := clutch } }

/-- 05 section 5.5: a relax timer expiry taken in ARMED while the outputs pulse relaxes them, with the output
pulses equal to the targets from then on (log 39); elsewhere, and with the timer stopped, it changes nothing
(log 2). -/
def Obligations.RelaxTimerRelaxes : Prop :=
  ∀ s : State,
    (s.stc.relax.isSome = true → s.vsc.op = .armed → s.stc.out = .pulsing →
      exec .relaxTimerExpiry s = .next { s with stc := { s.stc with
        out := .relaxed, relax := none, output := s.stc.target } }) ∧
    (s.stc.relax = none ∨ s.vsc.op ≠ .armed ∨ s.stc.out ≠ .pulsing → exec .relaxTimerExpiry s = .next s)

/-- 05 section 5.3: each target pulse and output pulse lies in its axle's output window. Every command keeps
this. -/
def Obligations.PulsesStayInWindows : Prop :=
  ∀ (i : Instr) (s t : State), SteerOk s → exec i s = .next t → SteerOk t

/-! ## Programs (06) -/

/-- 06 section 6.2: STORE_STEPS refuses a run beyond the store, a record that names no known value and a
slot in use, in this order, and writes nothing then; otherwise it writes every record and answers them as
stored, with each field brought into its range (`recordSent`). The slot named for a first slot beyond 127 is the
model's choice (log 25). -/
def Obligations.StoreStepsWrites : Prop :=
  ∀ (tag first count : Byte) (rest : List Byte) (s : State), s.lnk.inHand = none →
    1 ≤ count.toNat → count.toNat ≤ 6 → rest.length = 8 * count.toNat →
    let p := first :: count :: rest
    let n := count.toNat
    let records := recordsOf rest
    let refused (r : Reason) (fields : List Byte) : Prop :=
      exec (.storeSteps tag p) s = .next (replied s s 0x20 tag p (.refused r) fields)
    records.length = n ∧
    (∀ i, i < n → records[i]? = some (recordSent fun k => (rest.getD (8 * i + k) 0).toNat)) ∧
    (128 < first.toNat + n → refused .badValue (u8 (max first.toNat 128))) ∧
    (first.toNat + n ≤ 128 → ∀ i, i < n → records[i]? = some none → (∀ j < i, records[j]? ≠ some none) →
      refused .badValue (u8 (first.toNat + i))) ∧
    (first.toNat + n ≤ 128 → none ∉ records → ∀ slot : Slot, first.toNat ≤ slot.val →
      slot.val < first.toNat + n → 0 < s.pgc.useCount[slot] →
      (∀ low : Slot, first.toNat ≤ low.val → low < slot → s.pgc.useCount[low] = 0) →
      refused .inUse (u8 slot.val ++ u8 s.pgc.useCount[slot])) ∧
    (first.toNat + n ≤ 128 → none ∉ records →
      (∀ slot : Slot, first.toNat ≤ slot.val → slot.val < first.toNat + n → s.pgc.useCount[slot] = 0) →
      ∃ t, exec (.storeSteps tag p) s = .next t ∧
        AnsweredBy s t 0x20 tag p (.done .none)
          ([first, count] ++ (records.filterMap id).flatMap StepRec.bytes) ∧
        (∀ slot : Slot, slot.val < first.toNat ∨ first.toNat + n ≤ slot.val →
          t.pgc.store[slot] = s.pgc.store[slot]) ∧
        (∀ i, i < n → ∀ slot : Slot, slot.val = first.toNat + i →
          records[i]? = some (some t.pgc.store[slot])) ∧
        t = { s with lnk := t.lnk, pgc := { s.pgc with store := t.pgc.store } })

/-- 11 section 11.3.1: reading a record back from the eight bytes that encode it gives the record, with every
field at every value its range admits. -/
def Obligations.RecordsRoundTrip : Prop :=
  ∀ r : StepRec, r.ok → r.bytes.length = 8 ∧ recordsOf r.bytes = [some r]

/-- 06 section 6.4: the validation walk. One that passes gives an unbroken run of slots upward from the first,
within the unit's limit, each holding a step of the unit's kind; only the last step's link is not NEXT, and a
GOTO leads to an earlier slot of the run and occurs in no winch program. A program whose slots pass their
checks up to one whose link is not NEXT passes; otherwise the walk fails at the first slot that fails a check,
with the detail of that check, or RUNS_OFF_END at slot 127. -/
def Obligations.WalksDecidePrograms : Prop :=
  ∀ (s : State) (u : UnitNo) (first : Slot),
    (∀ slots : List Slot, walk s u first = .passed slots →
      slots ≠ [] ∧ slots.length ≤ (if u = 0 then 16 else 32) ∧
      ∀ (i : Nat) (slot : Slot), slots[i]? = some slot → slot.val = first.val + i ∧
        (i + 1 < slots.length → (s.pgc.store[slot]).link = .next) ∧
        (i + 1 = slots.length → (s.pgc.store[slot]).link = .stop ∨
          (u ≠ 0 ∧ ∃ target loops, (s.pgc.store[slot]).link = .goto target loops ∧ target ∈ slots ∧
            target < slot)) ∧
        (u = 0 → ∃ r, s.pgc.store[slot] = .winch r ∧
          (r.action, r.endOn.code) ∈ [(Action.inward, 0), (.inward, 1), (.inward, 2), (.inward, 3),
            (.outward, 0), (.outward, 1), (.outward, 2), (.assist, 0), (.assist, 1), (.assist, 3), (.hold, 1),
            (.free, 1), (.free, 0)] ∧
          (r.endOn.code = 0 → s.hasLine .drumPulse = true) ∧ (r.endOn.code = 3 → s.hasLine .fairlead = true) ∧
          (r.action = .free → s.hasLine .clutchServo = true)) ∧
        (u ≠ 0 → ∃ r, s.pgc.store[slot] = .light r)) ∧
    (let good (slot : Slot) : Prop := walkFault s u first slot = none
    let goesOn (slot : Slot) : Prop := good slot ∧ (s.pgc.store[slot]).link = .next
    (∀ last, first ≤ last → (∀ slot, first ≤ slot → slot < last → goesOn slot) → good last →
      (s.pgc.store[last]).link ≠ .next →
      ∃ slots, walk s u first = .passed slots ∧ slots.length = last.val - first.val + 1) ∧
    (∀ bad detail, first ≤ bad → (∀ slot, first ≤ slot → slot < bad → goesOn slot) →
      walkFault s u first bad = some detail → walk s u first = .failed bad detail) ∧
    ((∀ slot, first ≤ slot → goesOn slot) → walk s u first = .failed 127 .runsOffEnd))

/-- 06 section 6.6: START, in the order of its outcomes; a unit that starts takes its context, its use counts
and its first step at once. On which side of the progress block the BUSY reply of the winch unit carries P is free
(`BusyFields`, log 44). -/
def Obligations.StartByUnit : Prop :=
  ∀ (tag b f start : Byte) (s : State), s.lnk.inHand = none →
    let p : List Byte := [b, f, start]
    (10 < b.toNat ∨ 127 < f.toNat →
      exec (.start tag p) s = .next (replied s s 0x22 tag p (.refused .badValue) [])) ∧
    ∀ (u : UnitNo) (first : Slot), b.toNat = u.val → f.toNat = first.val →
      (∀ e, s.outstanding u = some e → exec (.start tag p) s =
        .next (replied s (takeOutstanding u s) 0x22 tag p .status e.bytes)) ∧
      (s.outstanding u = none → (s.unit u).state ≠ .idle → ∃ fields, BusyFields s u fields ∧
        exec (.start tag p) s = .next (replied s s 0x22 tag p .busy fields)) ∧
      (s.outstanding u = none → (s.unit u).state = .idle →
        (u = 0 → s.vsc.op ≠ .armed →
          exec (.start tag p) s = .next (replied s s 0x22 tag p (.refused .notArmed) [])) ∧
        (u ≠ 0 → s.sup.stage = .cutoff →
          exec (.start tag p) s = .next (replied s s 0x22 tag p (.refused .lowBattery) [])) ∧
        ((u = 0 → s.vsc.op = .armed) → (u ≠ 0 → s.sup.stage ≠ .cutoff) →
          (∀ slot detail, walk s u first = .failed slot detail → exec (.start tag p) s =
            .next (replied s s 0x22 tag p (.refused .badProgram) (u8 slot.val ++ u8 detail.code))) ∧
          (∀ slots, walk s u first = .passed slots → ∃ t, exec (.start tag p) s = .next t ∧
            AnsweredBy s t 0x22 tag p (.done .none) (u8 slots.length) ∧
            (t.unit u).first = first ∧ (t.unit u).walked = slots ∧ (t.unit u).tag = start ∧
            (∀ v, v ≠ u → { t.unit v with stacked := none } = { s.unit v with stacked := none }) ∧
            t.vsc = s.vsc ∧ t.sup = s.sup ∧ t.stc = s.stc ∧ SameStores s t ∧
            (∀ (c : Chan) (r : LightRec), chanOf u = some c → s.pgc.store[first] = .light r →
              t.unit u = { s.unit u with state := .running, first := first, current := first, walked := slots,
                                         loop := .notLoaded, progress := 0, haltCause := none, tag := start } ∧
              (∀ slot : Slot, t.pgc.useCount[slot] =
                s.pgc.useCount[slot] + if slot ∈ slots then 1 else 0) ∧
              { t.chan c with desired := 0, demand := 0 } =
                { s.chan c with source := .program, step := some ⟨first, r⟩, frames := 0
                                fadeStart := (s.chan c).manual, desired := 0, demand := 0
                                program := if r.fade = 0 then r.level else (s.chan c).manual } ∧
              LevelFormed s.cfg.ltc.chan[c] s.ltc.hazard (t.chan c) ∧
              (∀ d, d ≠ c → t.chan d = s.chan d) ∧ t.trc = s.trc ∧ t.wch = s.wch ∧ t.scn = s.scn ∧
              t.nq = s.nq) ∧
            (∀ r : WinchRec, u = 0 → s.pgc.store[first] = .winch r → clutchMeets s r.action = false →
              (t.unit 0).state = .running ∧ (t.unit 0).current = first ∧ t.wch.state = .waitClutch ∧
              t.wch.step = some ⟨first, r⟩ ∧ t.wch.applied = 0 ∧ t.wch.travel = 0 ∧ t.wch.frames = 0 ∧
              t.wch.lastCurrent = 0 ∧ t.wch.position = s.wch.position ∧
              t.wch.clutch = (if s.wch.clutch.moving then s.wch.clutch
                else if r.action = .free then .movingToFree else .movingToEngage)) ∧
            (∀ r : WinchRec, u = 0 → s.pgc.store[first] = .winch r → clutchMeets s r.action = true →
              (r.action = .inward ∨ r.action = .assist → s.fairleadActive = false ∧ 0 < s.wch.position) →
              (r.action = .outward ∨ r.action = .free → s.wch.position < s.cfg.wch.lineMax * 10) →
              (t.unit 0).state = .running ∧ (t.unit 0).current = first ∧ t.wch.step = some ⟨first, r⟩ ∧
              t.wch.state = (match r.action with
                | .hold => .holding
                | .free => .freewheel
                | _ => .runningPowered) ∧
              t.wch.applied = (if r.action = .hold ∨ r.action = .free then 0
                else min r.speed s.sup.alloc.dutyCap.winch) ∧
              t.wch.travel = 0 ∧ t.wch.frames = 0 ∧ t.wch.lastCurrent = 0 ∧ t.wch.stall = none ∧
              t.wch.position = s.wch.position ∧ t.wch.clutch = s.wch.clutch ∧
              t.trc.assist = (if r.action = .assist then
                some (max s.trc.applied.front.natAbs s.trc.applied.rear.natAbs) else s.trc.assist)))))

/-- 06 section 6.6: HALT by the unit's state. A light unit and a winch unit with a still clutch end at once,
HALTED; a winch unit with a moving clutch becomes HALTING. The residual of a light unit halted when its next
frame would complete the step is that of the formula or 0 (log 37). -/
def Obligations.HaltByUnit : Prop :=
  ∀ (tag b : Byte) (s : State), s.lnk.inHand = none →
    (10 < b.toNat → exec (.halt tag [b]) s = .next (replied s s 0x24 tag [b] (.refused .badValue) [])) ∧
    ∀ u : UnitNo, b.toNat = u.val →
      ((s.unit u).state = .idle →
        exec (.halt tag [b]) s = .next (replied s s 0x24 tag [b] (.done .quiet) [])) ∧
      ((s.unit u).state = .halting →
        exec (.halt tag [b]) s = .next (replied s s 0x24 tag [b] (.done .halting) [])) ∧
      ((s.unit u).state = .running → u = 0 → s.wch.clutch.moving = true →
        exec (.halt tag [b]) s = .next (replied s
          (s.modUnit 0 fun x => { x with state := .halting, haltCause := some .halted }) 0x24 tag [b]
          (.done .halting) [])) ∧
      ((s.unit u).state = .running → u = 0 → s.wch.clutch.moving = false →
        ∃ t, exec (.halt tag [b]) s = .next t ∧ AnsweredBy s t 0x24 tag [b] (.done .ended) [] ∧
          UnitEnded s t ∧ t.wch.state = .idle ∧ t.wch.step = none ∧ t.wch.applied = 0 ∧
          t.wch.position = s.wch.position ∧ SameStores s t ∧ SameLevels s t ∧ SameLightUnits s t ∧
          (s.vsc.op ≠ .shuttingDown → t.nq = (offerEnding (winchEnding s .halted) s).nq ∧
            t.vsc = s.vsc ∧ t.stc = s.stc ∧ t.wch = s.wch.ended ∧ t.ltc = s.ltc ∧
            t.trc = { s.trc with assist := none } ∧ SameScan s t)) ∧
      (∀ c : Chan, (s.unit u).state = .running → u = unitOf c →
        ∃ t, exec (.halt tag [b]) s = .next t ∧ AnsweredBy s t 0x24 tag [b] (.done .ended) [] ∧
          (let left := match (s.chan c).step with
            | some h => h.step.fade + h.step.hold - (s.chan c).frames
            | none => 0
          ∃ residual, (residual = left ∨ (residual = 0 ∧ left ≤ 1)) ∧
            SameNotices t (offerEnding (endingOf s u .halted residual (s.chan c).program) s)) ∧
          { t.unit u with stacked := none } =
            { s.unit u with state := .idle, haltCause := none, stacked := none } ∧
          (∀ v, v ≠ u → t.unit v = s.unit v) ∧ LevelFormed s.cfg.ltc.chan[c] s.ltc.hazard (t.chan c) ∧
          (∀ slot : Slot, t.pgc.useCount[slot] =
            s.pgc.useCount[slot] - if slot ∈ (s.unit u).walked then 1 else 0) ∧
          { t.chan c with desired := 0, demand := 0 } =
            { s.chan c with source := .manual, step := none, frames := 0, desired := 0, demand := 0 } ∧
          (∀ d, d ≠ c → t.chan d = s.chan d) ∧ t.vsc = s.vsc ∧ t.scn = s.scn ∧ t.sup = s.sup ∧
          t.trc = s.trc ∧ t.stc = s.stc ∧ t.wch = s.wch ∧ t.ltc.hazard = s.ltc.hazard ∧ SameStores s t)

/-- 06 sections 6.3, 6.5 and 6.7, 07 section 7.6, 08 section 8.3: every use count is the number of active units that hold
the slot; a unit has at most one outstanding status and none while it is active; the winch unit is active
only where it may be, a step of it has begun only while it runs with a still clutch, and in SHUTTING_DOWN it does
not run; a channel's source follows its unit. Every command keeps this. -/
def Obligations.UnitsStayConsistent : Prop :=
  ∀ (i : Instr) (s t : State), UnitsOk s → exec i s = .next t → UnitsOk t

/-! ## The winch (07) -/

/-- 07 section 7.4: LINE_SET sets P to the clamped length in every operating state, unless the winch unit is
active: the reply is then BUSY with P and the unit's progress, in the order of 11 section 11.3 (log 44). -/
def Obligations.LineSetSetsPosition : Prop :=
  ∀ (tag low high : Byte) (s : State), s.lnk.inHand = none →
    let mm := min s.cfg.wch.lineMax (low.toNat + 256 * high.toNat)
    ((s.unit 0).state = .idle → exec (.lineSet tag [low, high]) s =
      .next (replied s { s with wch := { s.wch with position := mm * 10 } } 0x25 tag [low, high]
        (.done .none) (u16 mm))) ∧
    ((s.unit 0).state ≠ .idle → exec (.lineSet tag [low, high]) s = .next (replied s s 0x25 tag [low, high] .busy
      (u16 (s.wch.position / 10) ++ progressBytes s 0))) ∧
    (∀ p : List Byte, p.length ≠ 2 → exec (.lineSet tag p) s =
      .next (replied s s 0x25 tag p (.refused .badLength) []))

/-- 07 section 7.3, 01 section 1.6: a clutch travel expiry ends the move; a unit that waits begins its step or
starts the move it needs, a HALTING unit ends with the cause it holds, and otherwise only the clutch changes. In
SHUTTING_DOWN the completion test follows: with the winch unit IDLE, or ended at this event, and both axles at
0, the part enters PARKED with cause SHUTDOWN_COMPLETE, the hold reason then none (log 42). With the timer stopped
nothing changes (log 2). -/
def Obligations.ClutchTravelArrives : Prop :=
  ∀ s : State,
    let arrived : ClutchState := match s.wch.clutch with
      | .movingToEngage => .engaged
      | .movingToFree => .freed
      | other => other
    let moved : State := { s with wch := { s.wch with clutch := arrived, clutchTimer := none } }
    let done : Prop := s.vsc.op = .shuttingDown ∧ s.trc.applied = ⟨0, 0⟩
    let complete := Offer.opstate .parked .shuttingDown .shutdownComplete
    (s.wch.clutchTimer = none → exec .clutchTravelExpiry s = .next s) ∧
    (s.wch.clutchTimer.isSome = true →
      ((s.unit 0).state = .running → s.wch.state ≠ .waitClutch → exec .clutchTravelExpiry s = .next moved) ∧
      ((s.unit 0).state = .idle → ¬ done → exec .clutchTravelExpiry s = .next moved) ∧
      ((s.unit 0).state = .idle → done → ∃ t, exec .clutchTravelExpiry s = .next t ∧
        EntersParked s t moved.wch ∧ SameNotices t (offer complete s) ∧ t.vsc.causes = s.vsc.causes ∧
        t.vsc.expiryCount = s.vsc.expiryCount ∧ t.lnk = s.lnk ∧ t.trc.assist = s.trc.assist ∧
        { t.unit 0 with stacked := none } = { s.unit 0 with stacked := none }) ∧
      (∀ cause, (s.unit 0).state = .halting → (s.unit 0).haltCause = some cause →
        ∃ t, exec .clutchTravelExpiry s = .next t ∧ t.lnk = s.lnk ∧ t.sup = s.sup ∧
          (¬ done → WinchEnded moved t ∧ SameNotices t (offerEnding (winchEnding s cause) s) ∧
            t.vsc = s.vsc ∧ t.stc = s.stc ∧ t.ltc = s.ltc ∧ SameScan s t ∧ SameStores s t ∧
            SameLightUnits s t) ∧
          (done → EntersParked s t moved.wch.ended ∧ UnitEnded s t ∧ t.trc.assist = none ∧
            SameNotices t (offer complete (offerEnding (winchEnding s cause) s)) ∧
            t.vsc.causes = s.vsc.causes ∧ t.vsc.expiryCount = s.vsc.expiryCount)) ∧
      (∀ h, s.vsc.op ≠ .shuttingDown → (s.unit 0).state = .running → s.wch.state = .waitClutch →
        s.wch.step = some h →
        (clutchMeets moved h.step.action = false →
          (arrived = .engaged ∨ arrived = .freed ∨ arrived = .unknown) →
          exec .clutchTravelExpiry s = .next { s with wch := { s.wch with
            clutch := if h.step.action = .free then .movingToFree else .movingToEngage
            clutchTimer := some s.cfg.wch.clutchTime } }) ∧
        (clutchMeets moved h.step.action = true → ∃ t, exec .clutchTravelExpiry s = .next t ∧
          WinchBegins moved t h.step WinchStepCompletes)))

/-- 07 sections 7.5 and 7.6: the tests at the beginning of a step, at a START and at a clutch travel expiry. An
IN or ASSIST step that begins with the fairlead level active completes at once if its end-on is FAIRLEAD, and
its link is followed; otherwise the program ends FAIRLEAD. An IN or ASSIST step ends the program FULLY_IN with P
at 0, an OUT or FREE step LINE_END with P at its maximum. The residual of a program that a START's own step ends
is that step's whole amount. -/
def Obligations.BeginningTestsEndPrograms : Prop :=
  (∀ (tag b f start : Byte) (first : Slot) (slots : List Slot) (r : WinchRec) (s : State),
    s.lnk.inHand = none → s.outstanding 0 = none → (s.unit 0).state = .idle → s.vsc.op = .armed →
    b = 0 → f.toNat = first.val → walk s 0 first = .passed slots → s.pgc.store[first] = .winch r →
    ∃ t, exec (.start tag [b, f, start]) s = .next t ∧
      AnsweredBy s t 0x22 tag [b, f, start] (.done .none) (u8 slots.length) ∧
      let began : State := { startContext 0 first slots start s with wch := { s.wch with
        step := some ⟨first, r⟩, travel := 0, frames := 0, lastCurrent := 0 } }
      let after : State := { t with lnk := s.lnk }
      let whole := match r.endOn with
        | .distance mm => mm
        | .time n => n
        | .load mA => mA
        | .fairlead => 0
      WinchStarts (startContext 0 first slots start s) after first r ∧
      (clutchMeets s r.action = true →
        (r.action = .inward ∨ r.action = .assist → s.fairleadActive = true → r.endOn ≠ .fairlead →
          WinchProgramEnds began after .fairlead whole) ∧
        (r.action = .inward ∨ r.action = .assist → s.fairleadActive = false → s.wch.position = 0 →
          WinchProgramEnds began after .fullyIn whole) ∧
        (r.action = .outward ∨ r.action = .free → s.cfg.wch.lineMax * 10 ≤ s.wch.position →
          WinchProgramEnds began after .lineEnd whole) ∧
        (CompletesAtOnce s r → WinchStepCompletes (begunAtOnce began r) after))) ∧
  ∀ (h : InHand WinchRec) (s : State), s.wch.clutchTimer.isSome = true → s.vsc.op ≠ .shuttingDown →
    (s.unit 0).state = .running → s.wch.state = .waitClutch → s.wch.step = some h →
    let arrived : ClutchState := match s.wch.clutch with
      | .movingToEngage => .engaged
      | .movingToFree => .freed
      | other => other
    let moved : State := { s with wch := { s.wch with clutch := arrived, clutchTimer := none } }
    clutchMeets moved h.step.action = true → ∃ t, exec .clutchTravelExpiry s = .next t ∧
      (∀ cause, beginEnding moved h.step = some cause →
        WinchProgramEnds moved t cause (winchResidual s.wch)) ∧
      (CompletesAtOnce moved h.step → WinchStepCompletes (begunAtOnce moved h.step) t)

/-- 07 sections 7.4 and 7.5: what a light frame, a drum pulse and a fairlead change do to the winch, for every
state that they find. A frame counts in a step that has begun, completes a TIME step, and raises the duty to
min(speed, duty cap). A pulse moves P in the direction of the step, completes a DISTANCE step, ends the program
at a limit of P, and restarts a running stall timer. An active fairlead level ends a step that hauls. A
program that ends at rest in SHUTTING_DOWN completes the shutdown, with the hold reason none (log 42).
BlocksActInSomeOrder ties the three to the command. -/
def Obligations.WinchRunsAtFrames : Prop :=
  ∀ s : State,
    let progress (w : Wch) (h : InHand WinchRec) : Nat := match h.step.endOn with
      | .distance _ => w.travel / 10
      | .time _ => w.frames
      | .load _ => w.lastCurrent
      | .fairlead => 0
    let reports (w : Wch) (h : InHand WinchRec) : State :=
      { s.modUnit 0 (fun x => { x with progress := progress w h }) with wch := w }
    let raised (r : WinchRec) (w : Wch) : Nat :=
      if w.state = .runningPowered then min r.speed s.sup.alloc.dutyCap.winch else w.applied
    let limit := s.cfg.wch.lineMax * 10
    let out := min (s.wch.position + s.cfg.wch.linePerPulse) limit
    let pulsed (p : Nat) : Wch := { s.wch with position := p, travel := s.wch.travel +
      (if p ≤ s.wch.position then s.wch.position - p else p - s.wch.position) }
    let pulse (h : InHand WinchRec) (p : Nat) (atLimit : Prop) (cause : EndCause) : Prop :=
      let q := reports (pulsed p) h
      (∀ mm, h.step.endOn = .distance mm → mm * 10 ≤ q.wch.travel → WinchStepCompletes q (drumPulse s)) ∧
      ((∀ mm, h.step.endOn = .distance mm → q.wch.travel < mm * 10) →
        (atLimit → WinchProgramEnds q (drumPulse s) cause (winchResidual q.wch)) ∧
        (¬ atLimit → drumPulse s = { q with wch := { q.wch with stall :=
          (if s.wch.state = .runningPowered then s.wch.stall.map (fun _ => s.cfg.wch.stallTime)
          else s.wch.stall) } }))
    (s.wch.step = none ∨ ¬ WinchBegun s → winchFrame s = s ∧
      drumPulse s = { s with wch := { s.wch with position := out } } ∧ fairleadChange s = s) ∧
    (∀ h, s.wch.step = some h → WinchBegun s →
      let counted : Wch := { s.wch with frames := min 65535 (s.wch.frames + 1) }
      (∀ n, h.step.endOn = .time n → n ≤ counted.frames →
        WinchStepCompletes (reports counted h) (winchFrame s)) ∧
      ((∀ n, h.step.endOn = .time n → counted.frames < n) →
        let q := reports { counted with applied := raised h.step s.wch } h
        winchFrame s = { q with scn := (winchFrame s).scn } ∧ SameScan s (winchFrame s))) ∧
    (∀ h, s.wch.step = some h → s.wch.state = .runningPowered →
      (h.step.action = .inward ∨ h.step.action = .assist →
        pulse h (s.wch.position - s.cfg.wch.linePerPulse)
          (s.wch.position ≤ s.cfg.wch.linePerPulse) .fullyIn ∧
        (s.fairleadActive = false → fairleadChange s = s) ∧
        (s.fairleadActive = true → h.step.endOn = .fairlead → WinchStepCompletes s (fairleadChange s)) ∧
        (s.fairleadActive = true → h.step.endOn ≠ .fairlead →
          WinchProgramEnds s (fairleadChange s) .fairlead (winchResidual s.wch))) ∧
      (h.step.action = .outward → pulse h out (out = limit) .lineEnd ∧ fairleadChange s = s)) ∧
    (∀ h, s.wch.step = some h → s.wch.state = .freewheel → pulse h out (out = limit) .lineEnd ∧
      fairleadChange s = s) ∧
    (s.wch.state = .holding → drumPulse s = { s with wch := { s.wch with position := out } } ∧
      fairleadChange s = s)

/-- 07 sections 7.5 and 7.6: a stall timer expiry taken in RUNNING_POWERED ends the winch program STALL, with
the residual of its step and the line position it has, and ends a trigger wait for the WINCH bridge; at rest in
SHUTTING_DOWN it completes the shutdown, with the hold reason none (log 42). Elsewhere, and with the timer stopped,
it changes nothing (log 2). -/
def Obligations.StallEndsProgram : Prop :=
  ∀ s : State,
    (s.wch.stall = none ∨ s.wch.state ≠ .runningPowered → exec .stallTimerExpiry s = .next s) ∧
    (s.wch.stall.isSome = true → s.wch.state = .runningPowered → ∃ t, exec .stallTimerExpiry s = .next t ∧
      WinchProgramEnds s t .stall (winchResidual s.wch) ∧
      (s.wch.applied ≠ 0 → s.scn.wait = some .winch → t.scn.wait = none))

/-! ## Lights and lines (08, 09) -/

/-- R148: SET_LIGHT stores the manual level in every state; with source MANUAL the desired level and the
demand follow at once; the applied level does not change. -/
def Obligations.SetLightStoresLevel : Prop :=
  ∀ (tag b level : Byte) (s : State), s.lnk.inHand = none →
    (9 < b.toNat → exec (.setLight tag [b, level]) s =
      .next (replied s s 0x14 tag [b, level] (.refused .badValue) [])) ∧
    (∀ p : List Byte, p.length ≠ 2 → exec (.setLight tag p) s =
      .next (replied s s 0x14 tag p (.refused .badLength) [])) ∧
    ∀ c : Chan, b.toNat = c.val → ∃ t, exec (.setLight tag [b, level]) s = .next t ∧
      AnsweredBy s t 0x14 tag [b, level]
        (.done (if (s.chan c).source = .manual then .applied else .deferred))
        ([b, level] ++ u8 (s.chan c).source.code ++ u8 (s.chan c).applied ++
          u8 s.sup.alloc.budgetCap[c] ++ u8 s.sup.alloc.stageCap[c]) ∧
      ((s.chan c).source = .program → t.chan c = { s.chan c with manual := level.toNat }) ∧
      ((s.chan c).source = .manual →
        { t.chan c with desired := 0, demand := 0 } =
          { s.chan c with manual := level.toNat, desired := 0, demand := 0 } ∧
        LevelFormed s.cfg.ltc.chan[c] s.ltc.hazard (t.chan c)) ∧
      (∀ d, d ≠ c → t.chan d = s.chan d) ∧ t.ltc.hazard = s.ltc.hazard ∧
      t = { s with lnk := t.lnk, ltc := t.ltc }

/-- 08 sections 8.2 and 8.4, 06 section 6.7, 09 section 9.4.3: a light frame, for every order in which LTC, WCH and
LMX act (logs 10, 12): each channel's blink phase advances, its step runs a frame or completes and has its link
followed, and its applied level becomes the least of its desired level and its caps; each input line is seeded,
accepts a change or keeps its level, and accepted changes of general inputs are noticed. In SHUTTING_DOWN it
supposes that no winch step has begun, which UnitsStayConsistent says of every state reached; WinchRunsAtFrames
says what the winch does at a frame. -/
def Obligations.LightFrameRuns : Prop :=
  ∀ (pins : PinLevels) (s : State),
    (s.vsc.op = .shuttingDown → ¬ WinchBegun s) →
    let completes (c : Chan) (h : InHand LightRec) : Prop := (s.chan c).source = .program ∧
      (s.chan c).step = some h ∧ h.step.fade + h.step.hold ≤ (s.chan c).frames + 1
    let input (i : Fin 4) : Bool := decide ((s.lmx.lines[i]).fn = .generalInput) ||
      decide ((s.lmx.lines[i]).fn = .drumPulse) || decide ((s.lmx.lines[i]).fn = .fairlead)
    let changed (i : Fin 4) : Bool := input i && decide ((s.lmx.lines[i]).sample = some (pinLevel pins i)) &&
      decide (pinLevel pins i ≠ (s.lmx.lines[i]).accepted)
    ∃ t, exec (.lightFrameExpiry pins) s = .next t ∧
      t.ltc.hazard = s.ltc.hazard.map (fun phase => (phase + 1) % 100) ∧
      (∀ c : Chan, (t.chan c).manual = (s.chan c).manual ∧
        (t.chan c).overlay = (match (s.chan c).overlay with
          | .blink phase => .blink ((phase + 1) % 100)
          | other => other) ∧
        LevelFormed s.cfg.ltc.chan[c] t.ltc.hazard (t.chan c) ∧
        (t.chan c).applied = min (t.chan c).desired
          (min s.sup.alloc.budgetCap[c] s.sup.alloc.stageCap[c]) ∧
        ((s.chan c).source = .manual → (t.chan c).source = .manual ∧ (t.chan c).program = (s.chan c).program ∧
          { t.unit (unitOf c) with stacked := none } = { s.unit (unitOf c) with stacked := none }) ∧
        (∀ h, (s.chan c).source = .program → (s.chan c).step = some h →
          (s.chan c).frames + 1 < h.step.fade + h.step.hold →
          (t.chan c).source = .program ∧ (t.chan c).step = some h ∧
          (t.chan c).frames = (s.chan c).frames + 1 ∧
          (t.chan c).program = (if (s.chan c).frames + 1 < h.step.fade then
            (((s.chan c).fadeStart : Int) + (((h.step.level : Int) - (s.chan c).fadeStart) *
              ((s.chan c).frames + 1 : Nat)).tdiv h.step.fade).toNat else h.step.level) ∧
          (t.unit (unitOf c)).progress = (s.chan c).frames + 1) ∧
        (∀ h, completes c h →
          let x := s.unit (unitOf c)
          ∀ next counter, LinkLeads x.current (s.pgc.store[x.current]).link x.loop next counter →
          (next = none →
            { t.unit (unitOf c) with stacked := none } = { x with
              state := .idle, haltCause := none, loop := counter, progress := (s.chan c).frames + 1
              stacked := none } ∧
            (t.chan c).source = .manual ∧ (t.chan c).step = none ∧ (t.chan c).frames = 0 ∧
            (t.chan c).program = h.step.level ∧
            (endings (unitOf c) s.nq = 0 →
              let e := endingOf (s.modUnit (unitOf c) fun y => { y with loop := counter }) (unitOf c)
                .complete 0 h.step.level
              .unitEnded e ∈ t.nq ∨ (t.unit (unitOf c)).stacked = some e)) ∧
          (∀ slot r, next = some slot → s.pgc.store[slot] = .light r →
            { t.unit (unitOf c) with stacked := none } =
              { x with current := slot, loop := counter, progress := 0, stacked := none } ∧
            (t.chan c).source = .program ∧ (t.chan c).step = some ⟨slot, r⟩ ∧ (t.chan c).frames = 0 ∧
            (t.chan c).fadeStart = h.step.level ∧
            (t.chan c).program = if r.fade = 0 then r.level else h.step.level))) ∧
      (∀ i : Fin 4, (t.lmx.lines[i]).fn = (s.lmx.lines[i]).fn ∧
        (input i = false → t.lmx.lines[i] = s.lmx.lines[i]) ∧
        (input i = true → (t.lmx.lines[i]).sample = some (pinLevel pins i) ∧
          (t.lmx.lines[i]).accepted = if (s.lmx.lines[i]).sample = none ∨ changed i = true
            then pinLevel pins i else (s.lmx.lines[i]).accepted) ∧
        t.lmx.changed[i] = (s.lmx.changed[i] || (changed i && decide ((s.lmx.lines[i]).fn = .generalInput)))) ∧
      (s.wch.state = .idle → s.wch.step = none → t.vsc = s.vsc ∧ t.trc = s.trc ∧ t.stc = s.stc ∧
        t.scn = s.scn ∧ { t.unit 0 with stacked := none } = { s.unit 0 with stacked := none } ∧
        t.wch = { s.wch with position := t.wch.position } ∧
        (LinesOk s →
          let pulsed (i : Fin 4) : Prop := (s.lmx.lines[i]).fn = .drumPulse ∧ changed i = true ∧
            pinLevel pins i = .low
          (∀ i, pulsed i →
            t.wch.position = min (s.wch.position + s.cfg.wch.linePerPulse) (s.cfg.wch.lineMax * 10)) ∧
          ((∀ i, ¬ pulsed i) → t.wch.position = s.wch.position)) ∧
        ((∀ c h, ¬ completes c h) → SameNotices t ([(0 : Fin 4), 1, 2, 3].foldl (fun q i =>
          if changed i = true ∧ (s.lmx.lines[i]).fn = .generalInput then
            offer (.line (Vector.ofFn fun k => decide (k = i))
              (Vector.ofFn fun k => (t.lmx.lines[k]).accepted)) q
          else q) s))) ∧
      t.sup = s.sup ∧ t.lnk = s.lnk ∧ t.cfg = s.cfg ∧ t.pgc.store = s.pgc.store ∧ t.pending = s.pending

/-- 08 section 8.5: every channel's overlay state is what its function's condition gives: HAZARD for a turn
channel while the hazard runs, otherwise BLINK while its condition holds; ON for a brake or reverse channel
whose condition holds; IDLE otherwise. Every command keeps this. A channel that a SET takes out of a turn
function while the hazard runs is tested at that SET like every other (log 32). -/
def Obligations.OverlaysMatchConditions : Prop :=
  ∀ (i : Instr) (s t : State), OverlaysOk s → exec i s = .next t → OverlaysOk t

/-- R166: the checks of ASSIGN_LINE in their order, and what a new function does. -/
def Obligations.AssignLineChecks : Prop :=
  ∀ (tag b f : Byte) (s : State), s.lnk.inHand = none →
    let p : List Byte := [b, f]
    let functions (q : State) : List Byte := u8 (q.lmx.lines[0]).fn.code ++ u8 (q.lmx.lines[1]).fn.code ++
      u8 (q.lmx.lines[2]).fn.code ++ u8 (q.lmx.lines[3]).fn.code
    let refused (r : Reason) (fields : List Byte) : Prop :=
      exec (.assignLine tag p) s = .next (replied s s 0x26 tag p (.refused r) fields)
    (3 < b.toNat → refused .noLine (functions s)) ∧
    (b.toNat ≤ 3 → 4 < f.toNat → refused .badValue (functions s)) ∧
    (b.toNat ≤ 3 → f.toNat ≤ 4 → (s.unit 0).state ≠ .idle → refused .inUse (functions s)) ∧
    (b.toNat ≤ 3 → f.toNat ≤ 4 → (s.unit 0).state = .idle → s.vsc.op ≠ .parked →
      refused .notParked (functions s)) ∧
    ∀ (i : Fin 4) (fn : LineFn), b.toNat = i.val → f.toNat = fn.code → (s.unit 0).state = .idle →
      s.vsc.op = .parked →
      let single : Prop := fn = .drumPulse ∨ fn = .fairlead ∨ fn = .clutchServo
      (single → ∀ k, k ≠ i → (s.lmx.lines[k]).fn = fn → (∀ j < k, j ≠ i → (s.lmx.lines[j]).fn ≠ fn) →
        refused .badValue (u8 k.val)) ∧
      ((single → ∀ k, k ≠ i → (s.lmx.lines[k]).fn ≠ fn) →
        ((s.lmx.lines[i]).fn = fn →
          exec (.assignLine tag p) s = .next (replied s s 0x26 tag p (.done .none) (functions s))) ∧
        ((s.lmx.lines[i]).fn ≠ fn → ∃ t, exec (.assignLine tag p) s = .next t ∧
          AnsweredBy s t 0x26 tag p (.done .none) (functions t) ∧
          (t.lmx.lines[i]).fn = fn ∧
          (fn = .generalInput ∨ fn = .drumPulse ∨ fn = .fairlead →
            (t.lmx.lines[i]).sample = none ∧ (t.lmx.lines[i]).accepted = .high) ∧
          (fn = .off ∨ fn = .clutchServo → (t.lmx.lines[i]).accepted = (s.lmx.lines[i]).accepted) ∧
          (∀ k, k ≠ i → t.lmx.lines[k] = s.lmx.lines[k]) ∧ t.lmx.changed = s.lmx.changed ∧
          t.wch.clutch = (if (s.lmx.lines[i]).fn = .clutchServo ∨ fn = .clutchServo then .unknown
            else s.wch.clutch) ∧
          t = { s with lnk := t.lnk, lmx := t.lmx, wch := { s.wch with clutch := t.wch.clutch } }))

/-! ## Notices (09) -/

/-- R160: an offer updates the entry of its kind in place; without one it is appended while there is room;
at a full list the oldest ending status is stacked in its unit's context to make room. R161: an ending status
is appended while there is room, and else is stacked in its unit's context. -/
def Obligations.OffersFollowTheQueueRule : Prop :=
  (∀ (e : EndingStatus) (s : State),
    (s.nq.length < 8 → offerEnding e s = { s with nq := s.nq ++ [.unitEnded e] }) ∧
    (8 ≤ s.nq.length → offerEnding e s = s.modUnit e.unit fun x => { x with stacked := some e })) ∧
  ∀ (o : Offer) (s : State),
    (∀ before n after, s.nq = before ++ n :: after → n.kind = o.fresh.kind →
      (∀ m ∈ before, m.kind ≠ o.fresh.kind) →
      ∃ n', n'.kind = n.kind ∧ offer o s = { s with nq := before ++ n' :: after } ∧
        match o, n with
        | .opstate new _ cause, .opstate _ old _ => n' = .opstate new old cause
        | .tripEntered causes first, .trip _ _ => n' = .trip causes first
        | .tripAdded causes _, .trip _ first => n' = .trip causes first
        | .failsafe count st, .failsafe _ _ => n' = .failsafe count st
        | .stage new _ f b, .stage _ old _ _ => n' = .stage new old f b
        | .watch m h x low hot, .watch _ _ _ _ _ => n' = .watch m h x low hot
        | .line mask levels, .line mask' _ =>
          n' = .line #v[mask[0] || mask'[0], mask[1] || mask'[1], mask[2] || mask'[2], mask[3] || mask'[3]]
            levels
        | _, _ => False) ∧
    ((∀ m ∈ s.nq, m.kind ≠ o.fresh.kind) → s.nq.length < 8 →
      offer o s = { s with nq := s.nq ++ [o.fresh] }) ∧
    ((∀ m ∈ s.nq, m.kind ≠ o.fresh.kind) → 8 ≤ s.nq.length →
      ∀ before e after, s.nq = before ++ .unitEnded e :: after → (∀ m ∈ before, m.kind.isSome = true) →
        offer o s = { s.modUnit e.unit (fun x => { x with stacked := some e }) with
          nq := before ++ after ++ [o.fresh] })

/-- 09 section 9.3.1, 07 section 7.2, 04 section 4.8: the ATTN output is active exactly while a notice or a
stacked status stands, and PENDING lies in 0 to 17. The WINCH bridge follows the winch state: it hauls for IN
and ASSIST and pays out for OUT while the applied duty is above 0, and is held open while the part is
TRIPPED. -/
def Obligations.OutputsFollowState : Prop :=
  ∀ s : State,
    (s.attn = true ↔ s.nq ≠ [] ∨ ∃ u, (s.unit u).stacked.isSome = true) ∧
    (s.attn = true ↔ s.pendingCount ≠ 0) ∧ (QueueOk s.nq → UnitsOk s → s.pendingCount ≤ 17) ∧
    (VehicleOk s → s.vsc.op = .tripped → s.winchBridge = .bridgeOpen) ∧
    (VehicleOk s → s.vsc.op ≠ .tripped →
      (s.wch.state = .idle ∨ s.wch.state = .holding → s.winchBridge = .shortBrake 1000) ∧
      (s.wch.state = .freewheel ∨ s.wch.state = .waitClutch → s.winchBridge = .bridgeOpen) ∧
      (s.wch.state = .runningPowered → s.wch.applied = 0 → s.winchBridge = .shortBrake 1000) ∧
      (∀ h, s.wch.state = .runningPowered → s.wch.applied ≠ 0 → s.wch.step = some h →
        (h.step.action = .inward ∨ h.step.action = .assist → s.winchBridge = .haul) ∧
        (h.step.action = .outward → s.winchBridge = .payOut)))

/-- 09 section 9.2: the list never holds more than 8 entries, nor two entries of the same non-unit kind.
Every command keeps this. -/
def Obligations.QueueStaysWithinBounds : Prop :=
  ∀ (i : Instr) (s t : State), QueueOk s.nq → exec i s = .next t → QueueOk t.nq

/-! ## Stored data and resets -/

/-- 10 section 10.4, 06 section 6.2, 07 section 7.4, 09 section 9.4.2: every setting stays in its range with the stage levels in
their order, every stored record stays within its ranges, P stays within 0 to LINE_MAX × 10, and no
two lines hold a function that only one may hold. Every command keeps this. -/
def Obligations.StoredDataStaysInRange : Prop :=
  ∀ (i : Instr) (s t : State), SettingsOk s.cfg → StoreOk s → LineOk s → LinesOk s → exec i s = .next t →
    SettingsOk t.cfg ∧ StoreOk t ∧ LineOk t ∧ LinesOk t

/-- 10 section 10.4, 06 section 6.2, 09 section 9.4.2: the settings, the store and the lines' functions change
only at a full reset or when a SET, a STORE_STEPS or an ASSIGN_LINE becomes the request in hand: one that finds
none in hand, or the one held in the buffer when a reply has been sent. -/
def Obligations.OnlyTheirRequestsChangeStoredData : Prop :=
  ∀ (i : Instr) (s t : State), exec i s = .next t → i ≠ .fullReset →
    let becomesInHand (kind : Byte) : Prop := ∃ f, t.lnk.inHand = some f ∧ f.kind = kind ∧
      (s.lnk.inHand = none ∨ (i = .replySent ∧ s.lnk.holding = some f))
    (t.cfg ≠ s.cfg → becomesInHand 0x05) ∧ (t.pgc.store ≠ s.pgc.store → becomesInHand 0x20) ∧
    ∀ k : Fin 4, (t.lmx.lines[k]).fn ≠ (s.lmx.lines[k]).fn → becomesInHand 0x26

/-- 00 section 0.4 and the blocks' reset rules: a full reset restores everything, whatever stood before, with
OPSTATE the only notice; a comparator that is asserted then trips the part from PARKED (its levels at power-on:
log 21; the order of several: log 11; that the trip keeps the limiters: log 27). -/
def Obligations.FullResetRestores : Prop :=
  ∀ s : State,
    (s.vsc.comparator = ⟨false, false, false⟩ →
      exec .fullReset s = .next { State.reset with choice := s.choice, pending := s.pending }) ∧
    (s.vsc.comparator ≠ ⟨false, false, false⟩ → ∃ t, exec .fullReset s = .next t ∧
      EntersTripped State.reset { t with pending := [] } ∧ t.pending = s.pending ∧
      t.vsc.causes = { CauseSet.empty with short := s.vsc.comparator } ∧
      t.vsc.comparator = s.vsc.comparator ∧ t.lnk = State.reset.lnk ∧
      ∃ b, s.vsc.comparator.get b = true ∧ t.vsc.firstCause = some (.short b) ∧
        t.nq = [.opstate .tripped .parked .trip, .trip t.vsc.causes (.short b)])

/-- 00 section 0.4 and the blocks' reset rules: a soft reset keeps the settings, the store, the lines'
functions and the line position, names the operating state it replaced, and restores the rest; the DRAG_BRAKE
and the FRONT_RATIO in force are then those held (logs 20, 36). With a comparator asserted the part trips at
once from the state that the reset leaves (the order of several: log 11; the limiters: log 27). -/
def Obligations.SoftResetKeepsStores : Prop :=
  ∀ s : State,
    (s.vsc.comparator = ⟨false, false, false⟩ → ∃ t, exec .softReset s = .next t ∧
      t.cfg = s.cfg ∧ t.pgc.store = s.pgc.store ∧ t.wch.position = s.wch.position ∧
      (∀ i : Fin 4, t.lmx.lines[i] = { fn := (s.lmx.lines[i]).fn, sample := none, accepted := .high }) ∧
      t.lmx.changed = State.reset.lmx.changed ∧ t.nq = [.opstate .parked s.vsc.op .reset] ∧
      t.vsc = State.reset.vsc ∧ { t.scn with watchTimer := none } = { State.reset.scn with watchTimer := none } ∧
      t.scn.watchTimer = some s.cfg.scn.watchInterval ∧
      t.trc = { State.reset.trc with
        dragInForce := s.cfg.trc.dragBrake, ratioInForce := s.cfg.trc.frontRatio } ∧
      t.sup = { State.reset.sup with alloc := { State.reset.sup.alloc with
        budgetCap := Vector.ofFn fun c => if s.cfg.ltc.chan[c].rated = 0 then 255 else 0 } } ∧
      t.stc.out = .stopped ∧ t.stc.steer = 0 ∧ t.stc.mode = .front ∧ t.stc.pendingMode = none ∧
      t.stc.frozen = false ∧ t.stc.relax = none ∧
      t.stc.target = ⟨s.cfg.stc.axle.front.centre, s.cfg.stc.axle.rear.centre⟩ ∧
      t.stc.output = t.stc.target ∧ t.stc.framePeriod = 1000000 / s.cfg.stc.servoRate ∧
      t.stc.pulse = ⟨none, none⟩ ∧ t.pgc.units = State.reset.pgc.units ∧
      t.pgc.useCount = State.reset.pgc.useCount ∧ { t.wch with position := 0 } = State.reset.wch ∧
      t.ltc = State.reset.ltc ∧ t.lnk = State.reset.lnk ∧ t.pending = s.pending) ∧
    (s.vsc.comparator ≠ ⟨false, false, false⟩ → ∃ r t,
      exec .softReset { s with vsc := { s.vsc with comparator := ⟨false, false, false⟩ } } = .next r ∧
      exec .softReset s = .next t ∧ EntersTripped r t ∧
      t.vsc.causes = { CauseSet.empty with short := s.vsc.comparator } ∧
      t.vsc.comparator = s.vsc.comparator ∧ t.lnk = State.reset.lnk ∧
      ∃ b, s.vsc.comparator.get b = true ∧ t.vsc.firstCause = some (.short b) ∧
        t.nq = [.opstate .tripped s.vsc.op .trip, .trip t.vsc.causes (.short b)])

/-- State.reset meets every invariant. -/
def Obligations.ResetMeetsInvariants : Prop :=
  QueueOk State.reset.nq ∧ VehicleOk State.reset ∧ (∀ x, AxleOk State.reset x) ∧
    TractionOk State.reset ∧ ScanOk State.reset ∧ CapsOk State.reset ∧
    GrantsOk State.reset.sup.alloc ∧ OverlaysOk State.reset ∧ SettingsOk State.reset.cfg ∧
    SteerOk State.reset ∧ LineOk State.reset ∧ LinesOk State.reset ∧ StoreOk State.reset ∧ UnitsOk State.reset
end

