-- ==== Sys2Proof/Laws/State.lean ====
section
/-! SUPPORT. One lemma per field per update of the state, so that no proof unfolds a record update. -/

namespace Sys2Proof.Machine

section
variable (s : State) (f : Vsc → Vsc)

@[simp] theorem State.modVsc_vsc : (s.modVsc f).vsc = f s.vsc := rfl
@[simp] theorem State.modVsc_scn : (s.modVsc f).scn = s.scn := rfl
@[simp] theorem State.modVsc_sup : (s.modVsc f).sup = s.sup := rfl
@[simp] theorem State.modVsc_trc : (s.modVsc f).trc = s.trc := rfl
@[simp] theorem State.modVsc_stc : (s.modVsc f).stc = s.stc := rfl
@[simp] theorem State.modVsc_pgc : (s.modVsc f).pgc = s.pgc := rfl
@[simp] theorem State.modVsc_wch : (s.modVsc f).wch = s.wch := rfl
@[simp] theorem State.modVsc_ltc : (s.modVsc f).ltc = s.ltc := rfl
@[simp] theorem State.modVsc_lmx : (s.modVsc f).lmx = s.lmx := rfl
@[simp] theorem State.modVsc_nq : (s.modVsc f).nq = s.nq := rfl
@[simp] theorem State.modVsc_lnk : (s.modVsc f).lnk = s.lnk := rfl
@[simp] theorem State.modVsc_cfg : (s.modVsc f).cfg = s.cfg := rfl
@[simp] theorem State.modVsc_choice : (s.modVsc f).choice = s.choice := rfl
@[simp] theorem State.modVsc_pending : (s.modVsc f).pending = s.pending := rfl
@[simp] theorem State.modVsc_modVsc (g : Vsc → Vsc) : (s.modVsc f).modVsc g = s.modVsc (fun r => g (f r)) := rfl
end

section
variable (s : State) (f : Scn → Scn)

@[simp] theorem State.modScn_vsc : (s.modScn f).vsc = s.vsc := rfl
@[simp] theorem State.modScn_scn : (s.modScn f).scn = f s.scn := rfl
@[simp] theorem State.modScn_sup : (s.modScn f).sup = s.sup := rfl
@[simp] theorem State.modScn_trc : (s.modScn f).trc = s.trc := rfl
@[simp] theorem State.modScn_stc : (s.modScn f).stc = s.stc := rfl
@[simp] theorem State.modScn_pgc : (s.modScn f).pgc = s.pgc := rfl
@[simp] theorem State.modScn_wch : (s.modScn f).wch = s.wch := rfl
@[simp] theorem State.modScn_ltc : (s.modScn f).ltc = s.ltc := rfl
@[simp] theorem State.modScn_lmx : (s.modScn f).lmx = s.lmx := rfl
@[simp] theorem State.modScn_nq : (s.modScn f).nq = s.nq := rfl
@[simp] theorem State.modScn_lnk : (s.modScn f).lnk = s.lnk := rfl
@[simp] theorem State.modScn_cfg : (s.modScn f).cfg = s.cfg := rfl
@[simp] theorem State.modScn_choice : (s.modScn f).choice = s.choice := rfl
@[simp] theorem State.modScn_pending : (s.modScn f).pending = s.pending := rfl
@[simp] theorem State.modScn_modScn (g : Scn → Scn) : (s.modScn f).modScn g = s.modScn (fun r => g (f r)) := rfl
end

section
variable (s : State) (f : Sup → Sup)

@[simp] theorem State.modSup_vsc : (s.modSup f).vsc = s.vsc := rfl
@[simp] theorem State.modSup_scn : (s.modSup f).scn = s.scn := rfl
@[simp] theorem State.modSup_sup : (s.modSup f).sup = f s.sup := rfl
@[simp] theorem State.modSup_trc : (s.modSup f).trc = s.trc := rfl
@[simp] theorem State.modSup_stc : (s.modSup f).stc = s.stc := rfl
@[simp] theorem State.modSup_pgc : (s.modSup f).pgc = s.pgc := rfl
@[simp] theorem State.modSup_wch : (s.modSup f).wch = s.wch := rfl
@[simp] theorem State.modSup_ltc : (s.modSup f).ltc = s.ltc := rfl
@[simp] theorem State.modSup_lmx : (s.modSup f).lmx = s.lmx := rfl
@[simp] theorem State.modSup_nq : (s.modSup f).nq = s.nq := rfl
@[simp] theorem State.modSup_lnk : (s.modSup f).lnk = s.lnk := rfl
@[simp] theorem State.modSup_cfg : (s.modSup f).cfg = s.cfg := rfl
@[simp] theorem State.modSup_choice : (s.modSup f).choice = s.choice := rfl
@[simp] theorem State.modSup_pending : (s.modSup f).pending = s.pending := rfl
@[simp] theorem State.modSup_modSup (g : Sup → Sup) : (s.modSup f).modSup g = s.modSup (fun r => g (f r)) := rfl
end

section
variable (s : State) (f : Trc → Trc)

@[simp] theorem State.modTrc_vsc : (s.modTrc f).vsc = s.vsc := rfl
@[simp] theorem State.modTrc_scn : (s.modTrc f).scn = s.scn := rfl
@[simp] theorem State.modTrc_sup : (s.modTrc f).sup = s.sup := rfl
@[simp] theorem State.modTrc_trc : (s.modTrc f).trc = f s.trc := rfl
@[simp] theorem State.modTrc_stc : (s.modTrc f).stc = s.stc := rfl
@[simp] theorem State.modTrc_pgc : (s.modTrc f).pgc = s.pgc := rfl
@[simp] theorem State.modTrc_wch : (s.modTrc f).wch = s.wch := rfl
@[simp] theorem State.modTrc_ltc : (s.modTrc f).ltc = s.ltc := rfl
@[simp] theorem State.modTrc_lmx : (s.modTrc f).lmx = s.lmx := rfl
@[simp] theorem State.modTrc_nq : (s.modTrc f).nq = s.nq := rfl
@[simp] theorem State.modTrc_lnk : (s.modTrc f).lnk = s.lnk := rfl
@[simp] theorem State.modTrc_cfg : (s.modTrc f).cfg = s.cfg := rfl
@[simp] theorem State.modTrc_choice : (s.modTrc f).choice = s.choice := rfl
@[simp] theorem State.modTrc_pending : (s.modTrc f).pending = s.pending := rfl
@[simp] theorem State.modTrc_modTrc (g : Trc → Trc) : (s.modTrc f).modTrc g = s.modTrc (fun r => g (f r)) := rfl
end

section
variable (s : State) (f : Stc → Stc)

@[simp] theorem State.modStc_vsc : (s.modStc f).vsc = s.vsc := rfl
@[simp] theorem State.modStc_scn : (s.modStc f).scn = s.scn := rfl
@[simp] theorem State.modStc_sup : (s.modStc f).sup = s.sup := rfl
@[simp] theorem State.modStc_trc : (s.modStc f).trc = s.trc := rfl
@[simp] theorem State.modStc_stc : (s.modStc f).stc = f s.stc := rfl
@[simp] theorem State.modStc_pgc : (s.modStc f).pgc = s.pgc := rfl
@[simp] theorem State.modStc_wch : (s.modStc f).wch = s.wch := rfl
@[simp] theorem State.modStc_ltc : (s.modStc f).ltc = s.ltc := rfl
@[simp] theorem State.modStc_lmx : (s.modStc f).lmx = s.lmx := rfl
@[simp] theorem State.modStc_nq : (s.modStc f).nq = s.nq := rfl
@[simp] theorem State.modStc_lnk : (s.modStc f).lnk = s.lnk := rfl
@[simp] theorem State.modStc_cfg : (s.modStc f).cfg = s.cfg := rfl
@[simp] theorem State.modStc_choice : (s.modStc f).choice = s.choice := rfl
@[simp] theorem State.modStc_pending : (s.modStc f).pending = s.pending := rfl
@[simp] theorem State.modStc_modStc (g : Stc → Stc) : (s.modStc f).modStc g = s.modStc (fun r => g (f r)) := rfl
end

section
variable (s : State) (f : Pgc → Pgc)

@[simp] theorem State.modPgc_vsc : (s.modPgc f).vsc = s.vsc := rfl
@[simp] theorem State.modPgc_scn : (s.modPgc f).scn = s.scn := rfl
@[simp] theorem State.modPgc_sup : (s.modPgc f).sup = s.sup := rfl
@[simp] theorem State.modPgc_trc : (s.modPgc f).trc = s.trc := rfl
@[simp] theorem State.modPgc_stc : (s.modPgc f).stc = s.stc := rfl
@[simp] theorem State.modPgc_pgc : (s.modPgc f).pgc = f s.pgc := rfl
@[simp] theorem State.modPgc_wch : (s.modPgc f).wch = s.wch := rfl
@[simp] theorem State.modPgc_ltc : (s.modPgc f).ltc = s.ltc := rfl
@[simp] theorem State.modPgc_lmx : (s.modPgc f).lmx = s.lmx := rfl
@[simp] theorem State.modPgc_nq : (s.modPgc f).nq = s.nq := rfl
@[simp] theorem State.modPgc_lnk : (s.modPgc f).lnk = s.lnk := rfl
@[simp] theorem State.modPgc_cfg : (s.modPgc f).cfg = s.cfg := rfl
@[simp] theorem State.modPgc_choice : (s.modPgc f).choice = s.choice := rfl
@[simp] theorem State.modPgc_pending : (s.modPgc f).pending = s.pending := rfl
@[simp] theorem State.modPgc_modPgc (g : Pgc → Pgc) : (s.modPgc f).modPgc g = s.modPgc (fun r => g (f r)) := rfl
end

section
variable (s : State) (f : Wch → Wch)

@[simp] theorem State.modWch_vsc : (s.modWch f).vsc = s.vsc := rfl
@[simp] theorem State.modWch_scn : (s.modWch f).scn = s.scn := rfl
@[simp] theorem State.modWch_sup : (s.modWch f).sup = s.sup := rfl
@[simp] theorem State.modWch_trc : (s.modWch f).trc = s.trc := rfl
@[simp] theorem State.modWch_stc : (s.modWch f).stc = s.stc := rfl
@[simp] theorem State.modWch_pgc : (s.modWch f).pgc = s.pgc := rfl
@[simp] theorem State.modWch_wch : (s.modWch f).wch = f s.wch := rfl
@[simp] theorem State.modWch_ltc : (s.modWch f).ltc = s.ltc := rfl
@[simp] theorem State.modWch_lmx : (s.modWch f).lmx = s.lmx := rfl
@[simp] theorem State.modWch_nq : (s.modWch f).nq = s.nq := rfl
@[simp] theorem State.modWch_lnk : (s.modWch f).lnk = s.lnk := rfl
@[simp] theorem State.modWch_cfg : (s.modWch f).cfg = s.cfg := rfl
@[simp] theorem State.modWch_choice : (s.modWch f).choice = s.choice := rfl
@[simp] theorem State.modWch_pending : (s.modWch f).pending = s.pending := rfl
@[simp] theorem State.modWch_modWch (g : Wch → Wch) : (s.modWch f).modWch g = s.modWch (fun r => g (f r)) := rfl
end

section
variable (s : State) (f : Ltc → Ltc)

@[simp] theorem State.modLtc_vsc : (s.modLtc f).vsc = s.vsc := rfl
@[simp] theorem State.modLtc_scn : (s.modLtc f).scn = s.scn := rfl
@[simp] theorem State.modLtc_sup : (s.modLtc f).sup = s.sup := rfl
@[simp] theorem State.modLtc_trc : (s.modLtc f).trc = s.trc := rfl
@[simp] theorem State.modLtc_stc : (s.modLtc f).stc = s.stc := rfl
@[simp] theorem State.modLtc_pgc : (s.modLtc f).pgc = s.pgc := rfl
@[simp] theorem State.modLtc_wch : (s.modLtc f).wch = s.wch := rfl
@[simp] theorem State.modLtc_ltc : (s.modLtc f).ltc = f s.ltc := rfl
@[simp] theorem State.modLtc_lmx : (s.modLtc f).lmx = s.lmx := rfl
@[simp] theorem State.modLtc_nq : (s.modLtc f).nq = s.nq := rfl
@[simp] theorem State.modLtc_lnk : (s.modLtc f).lnk = s.lnk := rfl
@[simp] theorem State.modLtc_cfg : (s.modLtc f).cfg = s.cfg := rfl
@[simp] theorem State.modLtc_choice : (s.modLtc f).choice = s.choice := rfl
@[simp] theorem State.modLtc_pending : (s.modLtc f).pending = s.pending := rfl
@[simp] theorem State.modLtc_modLtc (g : Ltc → Ltc) : (s.modLtc f).modLtc g = s.modLtc (fun r => g (f r)) := rfl
end

section
variable (s : State) (f : Lmx → Lmx)

@[simp] theorem State.modLmx_vsc : (s.modLmx f).vsc = s.vsc := rfl
@[simp] theorem State.modLmx_scn : (s.modLmx f).scn = s.scn := rfl
@[simp] theorem State.modLmx_sup : (s.modLmx f).sup = s.sup := rfl
@[simp] theorem State.modLmx_trc : (s.modLmx f).trc = s.trc := rfl
@[simp] theorem State.modLmx_stc : (s.modLmx f).stc = s.stc := rfl
@[simp] theorem State.modLmx_pgc : (s.modLmx f).pgc = s.pgc := rfl
@[simp] theorem State.modLmx_wch : (s.modLmx f).wch = s.wch := rfl
@[simp] theorem State.modLmx_ltc : (s.modLmx f).ltc = s.ltc := rfl
@[simp] theorem State.modLmx_lmx : (s.modLmx f).lmx = f s.lmx := rfl
@[simp] theorem State.modLmx_nq : (s.modLmx f).nq = s.nq := rfl
@[simp] theorem State.modLmx_lnk : (s.modLmx f).lnk = s.lnk := rfl
@[simp] theorem State.modLmx_cfg : (s.modLmx f).cfg = s.cfg := rfl
@[simp] theorem State.modLmx_choice : (s.modLmx f).choice = s.choice := rfl
@[simp] theorem State.modLmx_pending : (s.modLmx f).pending = s.pending := rfl
@[simp] theorem State.modLmx_modLmx (g : Lmx → Lmx) : (s.modLmx f).modLmx g = s.modLmx (fun r => g (f r)) := rfl
end

section
variable (s : State) (f : (List Notice) → (List Notice))

@[simp] theorem State.modNq_vsc : (s.modNq f).vsc = s.vsc := rfl
@[simp] theorem State.modNq_scn : (s.modNq f).scn = s.scn := rfl
@[simp] theorem State.modNq_sup : (s.modNq f).sup = s.sup := rfl
@[simp] theorem State.modNq_trc : (s.modNq f).trc = s.trc := rfl
@[simp] theorem State.modNq_stc : (s.modNq f).stc = s.stc := rfl
@[simp] theorem State.modNq_pgc : (s.modNq f).pgc = s.pgc := rfl
@[simp] theorem State.modNq_wch : (s.modNq f).wch = s.wch := rfl
@[simp] theorem State.modNq_ltc : (s.modNq f).ltc = s.ltc := rfl
@[simp] theorem State.modNq_lmx : (s.modNq f).lmx = s.lmx := rfl
@[simp] theorem State.modNq_nq : (s.modNq f).nq = f s.nq := rfl
@[simp] theorem State.modNq_lnk : (s.modNq f).lnk = s.lnk := rfl
@[simp] theorem State.modNq_cfg : (s.modNq f).cfg = s.cfg := rfl
@[simp] theorem State.modNq_choice : (s.modNq f).choice = s.choice := rfl
@[simp] theorem State.modNq_pending : (s.modNq f).pending = s.pending := rfl
@[simp] theorem State.modNq_modNq (g : (List Notice) → (List Notice)) : (s.modNq f).modNq g = s.modNq (fun r => g (f r)) := rfl
end

section
variable (s : State) (f : Lnk → Lnk)

@[simp] theorem State.modLnk_vsc : (s.modLnk f).vsc = s.vsc := rfl
@[simp] theorem State.modLnk_scn : (s.modLnk f).scn = s.scn := rfl
@[simp] theorem State.modLnk_sup : (s.modLnk f).sup = s.sup := rfl
@[simp] theorem State.modLnk_trc : (s.modLnk f).trc = s.trc := rfl
@[simp] theorem State.modLnk_stc : (s.modLnk f).stc = s.stc := rfl
@[simp] theorem State.modLnk_pgc : (s.modLnk f).pgc = s.pgc := rfl
@[simp] theorem State.modLnk_wch : (s.modLnk f).wch = s.wch := rfl
@[simp] theorem State.modLnk_ltc : (s.modLnk f).ltc = s.ltc := rfl
@[simp] theorem State.modLnk_lmx : (s.modLnk f).lmx = s.lmx := rfl
@[simp] theorem State.modLnk_nq : (s.modLnk f).nq = s.nq := rfl
@[simp] theorem State.modLnk_lnk : (s.modLnk f).lnk = f s.lnk := rfl
@[simp] theorem State.modLnk_cfg : (s.modLnk f).cfg = s.cfg := rfl
@[simp] theorem State.modLnk_choice : (s.modLnk f).choice = s.choice := rfl
@[simp] theorem State.modLnk_pending : (s.modLnk f).pending = s.pending := rfl
@[simp] theorem State.modLnk_modLnk (g : Lnk → Lnk) : (s.modLnk f).modLnk g = s.modLnk (fun r => g (f r)) := rfl
end

section
variable (s : State) (f : Settings → Settings)

@[simp] theorem State.modCfg_vsc : (s.modCfg f).vsc = s.vsc := rfl
@[simp] theorem State.modCfg_scn : (s.modCfg f).scn = s.scn := rfl
@[simp] theorem State.modCfg_sup : (s.modCfg f).sup = s.sup := rfl
@[simp] theorem State.modCfg_trc : (s.modCfg f).trc = s.trc := rfl
@[simp] theorem State.modCfg_stc : (s.modCfg f).stc = s.stc := rfl
@[simp] theorem State.modCfg_pgc : (s.modCfg f).pgc = s.pgc := rfl
@[simp] theorem State.modCfg_wch : (s.modCfg f).wch = s.wch := rfl
@[simp] theorem State.modCfg_ltc : (s.modCfg f).ltc = s.ltc := rfl
@[simp] theorem State.modCfg_lmx : (s.modCfg f).lmx = s.lmx := rfl
@[simp] theorem State.modCfg_nq : (s.modCfg f).nq = s.nq := rfl
@[simp] theorem State.modCfg_lnk : (s.modCfg f).lnk = s.lnk := rfl
@[simp] theorem State.modCfg_cfg : (s.modCfg f).cfg = f s.cfg := rfl
@[simp] theorem State.modCfg_choice : (s.modCfg f).choice = s.choice := rfl
@[simp] theorem State.modCfg_pending : (s.modCfg f).pending = s.pending := rfl
@[simp] theorem State.modCfg_modCfg (g : Settings → Settings) : (s.modCfg f).modCfg g = s.modCfg (fun r => g (f r)) := rfl
end

section
variable (s : State)

@[simp] theorem State.nextChoice_vsc : s.nextChoice.vsc = s.vsc := rfl
@[simp] theorem State.nextChoice_scn : s.nextChoice.scn = s.scn := rfl
@[simp] theorem State.nextChoice_sup : s.nextChoice.sup = s.sup := rfl
@[simp] theorem State.nextChoice_trc : s.nextChoice.trc = s.trc := rfl
@[simp] theorem State.nextChoice_stc : s.nextChoice.stc = s.stc := rfl
@[simp] theorem State.nextChoice_pgc : s.nextChoice.pgc = s.pgc := rfl
@[simp] theorem State.nextChoice_wch : s.nextChoice.wch = s.wch := rfl
@[simp] theorem State.nextChoice_ltc : s.nextChoice.ltc = s.ltc := rfl
@[simp] theorem State.nextChoice_lmx : s.nextChoice.lmx = s.lmx := rfl
@[simp] theorem State.nextChoice_nq : s.nextChoice.nq = s.nq := rfl
@[simp] theorem State.nextChoice_lnk : s.nextChoice.lnk = s.lnk := rfl
@[simp] theorem State.nextChoice_cfg : s.nextChoice.cfg = s.cfg := rfl
@[simp] theorem State.nextChoice_choice : s.nextChoice.choice = s.choice + 1 := rfl
@[simp] theorem State.nextChoice_pending : s.nextChoice.pending = s.pending := rfl
@[simp] theorem State.withPending_vsc (q : List Instr) : (s.withPending q).vsc = s.vsc := rfl
@[simp] theorem State.withPending_scn (q : List Instr) : (s.withPending q).scn = s.scn := rfl
@[simp] theorem State.withPending_sup (q : List Instr) : (s.withPending q).sup = s.sup := rfl
@[simp] theorem State.withPending_trc (q : List Instr) : (s.withPending q).trc = s.trc := rfl
@[simp] theorem State.withPending_stc (q : List Instr) : (s.withPending q).stc = s.stc := rfl
@[simp] theorem State.withPending_pgc (q : List Instr) : (s.withPending q).pgc = s.pgc := rfl
@[simp] theorem State.withPending_wch (q : List Instr) : (s.withPending q).wch = s.wch := rfl
@[simp] theorem State.withPending_ltc (q : List Instr) : (s.withPending q).ltc = s.ltc := rfl
@[simp] theorem State.withPending_lmx (q : List Instr) : (s.withPending q).lmx = s.lmx := rfl
@[simp] theorem State.withPending_nq (q : List Instr) : (s.withPending q).nq = s.nq := rfl
@[simp] theorem State.withPending_lnk (q : List Instr) : (s.withPending q).lnk = s.lnk := rfl
@[simp] theorem State.withPending_cfg (q : List Instr) : (s.withPending q).cfg = s.cfg := rfl
@[simp] theorem State.withPending_choice (q : List Instr) : (s.withPending q).choice = s.choice := rfl
@[simp] theorem State.withPending_pending (q : List Instr) : (s.withPending q).pending = q := rfl
end

section
variable (s : State) (c : Chan) (f : Channel → Channel)

@[simp] theorem State.modChan_vsc : (s.modChan c f).vsc = s.vsc := rfl
@[simp] theorem State.modChan_scn : (s.modChan c f).scn = s.scn := rfl
@[simp] theorem State.modChan_sup : (s.modChan c f).sup = s.sup := rfl
@[simp] theorem State.modChan_trc : (s.modChan c f).trc = s.trc := rfl
@[simp] theorem State.modChan_stc : (s.modChan c f).stc = s.stc := rfl
@[simp] theorem State.modChan_pgc : (s.modChan c f).pgc = s.pgc := rfl
@[simp] theorem State.modChan_wch : (s.modChan c f).wch = s.wch := rfl
@[simp] theorem State.modChan_lmx : (s.modChan c f).lmx = s.lmx := rfl
@[simp] theorem State.modChan_nq : (s.modChan c f).nq = s.nq := rfl
@[simp] theorem State.modChan_lnk : (s.modChan c f).lnk = s.lnk := rfl
@[simp] theorem State.modChan_cfg : (s.modChan c f).cfg = s.cfg := rfl
@[simp] theorem State.modChan_choice : (s.modChan c f).choice = s.choice := rfl
@[simp] theorem State.modChan_pending : (s.modChan c f).pending = s.pending := rfl
@[simp] theorem State.modChan_hazard : (s.modChan c f).ltc.hazard = s.ltc.hazard := rfl
end

section
variable (s : State) (u : UnitNo) (f : UnitCtx → UnitCtx)

@[simp] theorem State.modUnit_vsc : (s.modUnit u f).vsc = s.vsc := rfl
@[simp] theorem State.modUnit_scn : (s.modUnit u f).scn = s.scn := rfl
@[simp] theorem State.modUnit_sup : (s.modUnit u f).sup = s.sup := rfl
@[simp] theorem State.modUnit_trc : (s.modUnit u f).trc = s.trc := rfl
@[simp] theorem State.modUnit_stc : (s.modUnit u f).stc = s.stc := rfl
@[simp] theorem State.modUnit_wch : (s.modUnit u f).wch = s.wch := rfl
@[simp] theorem State.modUnit_ltc : (s.modUnit u f).ltc = s.ltc := rfl
@[simp] theorem State.modUnit_lmx : (s.modUnit u f).lmx = s.lmx := rfl
@[simp] theorem State.modUnit_nq : (s.modUnit u f).nq = s.nq := rfl
@[simp] theorem State.modUnit_lnk : (s.modUnit u f).lnk = s.lnk := rfl
@[simp] theorem State.modUnit_cfg : (s.modUnit u f).cfg = s.cfg := rfl
@[simp] theorem State.modUnit_choice : (s.modUnit u f).choice = s.choice := rfl
@[simp] theorem State.modUnit_pending : (s.modUnit u f).pending = s.pending := rfl
@[simp] theorem State.modUnit_store : (s.modUnit u f).pgc.store = s.pgc.store := rfl
@[simp] theorem State.modUnit_useCount : (s.modUnit u f).pgc.useCount = s.pgc.useCount := rfl
end

/-- A channel after a change of one channel. -/
theorem State.chan_modChan (s : State) (c d : Chan) (f : Channel → Channel) :
    (s.modChan c f).chan d = if d = c then f (s.chan c) else s.chan d := by
  simp only [State.chan, State.modChan, State.modLtc, Fin.getElem_fin, Vector.getElem_set, Fin.ext_iff]
  by_cases h : (c : Nat) = d
  · simp [h]
  · simp [h, Ne.symm h]

@[simp] theorem State.chan_modChan_self (s : State) (c : Chan) (f : Channel → Channel) :
    (s.modChan c f).chan c = f (s.chan c) := by simp [State.chan_modChan]

@[simp] theorem State.chan_modChan_ne (s : State) {c d : Chan} (f : Channel → Channel) (h : d ≠ c) :
    (s.modChan c f).chan d = s.chan d := by simp [State.chan_modChan, h]

/-- A unit context after a change of one unit context. -/
theorem State.unit_modUnit (s : State) (u v : UnitNo) (f : UnitCtx → UnitCtx) :
    (s.modUnit u f).unit v = if v = u then f (s.unit u) else s.unit v := by
  simp only [State.unit, State.modUnit, State.modPgc, Fin.getElem_fin, Vector.getElem_set, Fin.ext_iff]
  by_cases h : (u : Nat) = v
  · simp [h]
  · simp [h, Ne.symm h]

@[simp] theorem State.unit_modUnit_self (s : State) (u : UnitNo) (f : UnitCtx → UnitCtx) :
    (s.modUnit u f).unit u = f (s.unit u) := by simp [State.unit_modUnit]

@[simp] theorem State.unit_modUnit_ne (s : State) {u v : UnitNo} (f : UnitCtx → UnitCtx) (h : v ≠ u) :
    (s.modUnit u f).unit v = s.unit v := by simp [State.unit_modUnit, h]

@[simp] theorem State.chan_modVsc (s : State) (f : Vsc → Vsc) (c : Chan) : (s.modVsc f).chan c = s.chan c := rfl
@[simp] theorem State.unit_modVsc (s : State) (f : Vsc → Vsc) (u : UnitNo) : (s.modVsc f).unit u = s.unit u := rfl
@[simp] theorem State.chan_modScn (s : State) (f : Scn → Scn) (c : Chan) : (s.modScn f).chan c = s.chan c := rfl
@[simp] theorem State.unit_modScn (s : State) (f : Scn → Scn) (u : UnitNo) : (s.modScn f).unit u = s.unit u := rfl
@[simp] theorem State.chan_modSup (s : State) (f : Sup → Sup) (c : Chan) : (s.modSup f).chan c = s.chan c := rfl
@[simp] theorem State.unit_modSup (s : State) (f : Sup → Sup) (u : UnitNo) : (s.modSup f).unit u = s.unit u := rfl
@[simp] theorem State.chan_modTrc (s : State) (f : Trc → Trc) (c : Chan) : (s.modTrc f).chan c = s.chan c := rfl
@[simp] theorem State.unit_modTrc (s : State) (f : Trc → Trc) (u : UnitNo) : (s.modTrc f).unit u = s.unit u := rfl
@[simp] theorem State.chan_modStc (s : State) (f : Stc → Stc) (c : Chan) : (s.modStc f).chan c = s.chan c := rfl
@[simp] theorem State.unit_modStc (s : State) (f : Stc → Stc) (u : UnitNo) : (s.modStc f).unit u = s.unit u := rfl
@[simp] theorem State.chan_modPgc (s : State) (f : Pgc → Pgc) (c : Chan) : (s.modPgc f).chan c = s.chan c := rfl
@[simp] theorem State.chan_modWch (s : State) (f : Wch → Wch) (c : Chan) : (s.modWch f).chan c = s.chan c := rfl
@[simp] theorem State.unit_modWch (s : State) (f : Wch → Wch) (u : UnitNo) : (s.modWch f).unit u = s.unit u := rfl
@[simp] theorem State.unit_modLtc (s : State) (f : Ltc → Ltc) (u : UnitNo) : (s.modLtc f).unit u = s.unit u := rfl
@[simp] theorem State.chan_modLmx (s : State) (f : Lmx → Lmx) (c : Chan) : (s.modLmx f).chan c = s.chan c := rfl
@[simp] theorem State.unit_modLmx (s : State) (f : Lmx → Lmx) (u : UnitNo) : (s.modLmx f).unit u = s.unit u := rfl
@[simp] theorem State.chan_modNq (s : State) (f : (List Notice) → (List Notice)) (c : Chan) : (s.modNq f).chan c = s.chan c := rfl
@[simp] theorem State.unit_modNq (s : State) (f : (List Notice) → (List Notice)) (u : UnitNo) : (s.modNq f).unit u = s.unit u := rfl
@[simp] theorem State.chan_modLnk (s : State) (f : Lnk → Lnk) (c : Chan) : (s.modLnk f).chan c = s.chan c := rfl
@[simp] theorem State.unit_modLnk (s : State) (f : Lnk → Lnk) (u : UnitNo) : (s.modLnk f).unit u = s.unit u := rfl
@[simp] theorem State.chan_modCfg (s : State) (f : Settings → Settings) (c : Chan) : (s.modCfg f).chan c = s.chan c := rfl
@[simp] theorem State.unit_modCfg (s : State) (f : Settings → Settings) (u : UnitNo) : (s.modCfg f).unit u = s.unit u := rfl
@[simp] theorem State.chan_modUnit (s : State) (u : UnitNo) (f : UnitCtx → UnitCtx) (c : Chan) : (s.modUnit u f).chan c = s.chan c := rfl
@[simp] theorem State.unit_modChan (s : State) (c : Chan) (f : Channel → Channel) (u : UnitNo) : (s.modChan c f).unit u = s.unit u := rfl
@[simp] theorem State.chan_nextChoice (s : State) (c : Chan) : s.nextChoice.chan c = s.chan c := rfl
@[simp] theorem State.unit_nextChoice (s : State) (u : UnitNo) : s.nextChoice.unit u = s.unit u := rfl

@[simp] theorem PerAxle.get_put {α : Type} (v : PerAxle α) (x y : Axle) (a : α) :
    (v.put x a).get y = if y = x then a else v.get y := by cases x <;> cases y <;> rfl

@[simp] theorem PerAxle.get_of {α : Type} (f : Axle → α) (x : Axle) : (PerAxle.of f).get x = f x := by
  cases x <;> rfl

@[simp] theorem PerAxle.get_both {α : Type} (a : α) (x : Axle) : (PerAxle.both a).get x = a := by
  cases x <;> rfl

@[simp] theorem PerBridge.get_put {α : Type} (v : PerBridge α) (x y : Bridge) (a : α) :
    (v.put x a).get y = if y = x then a else v.get y := by cases x <;> cases y <;> rfl

@[simp] theorem PerBridge.get_of {α : Type} (f : Bridge → α) (x : Bridge) : (PerBridge.of f).get x = f x := by
  cases x <;> rfl

end Sys2Proof.Machine
end

