-- ==== Sys2Proof/Laws/Notices.lean ====
section
/-! SUPPORT. What each operation of the Notice Queue leaves alone, once for each, and what it can do. -/

namespace Sys2Proof.Machine

/-- A fold of steps that each keep a view keeps it. -/
theorem foldl_keeps {α β : Type} (g : State → β) (f : State → α → State) (h : ∀ s a, g (f s a) = g s)
    (l : List α) (s : State) : g (l.foldl f s) = g s := by
  induction l generalizing s with
  | nil => rfl
  | cons a l ih => simp [ih, h]

/-- Three changes that each keep a view keep it in every order. -/
theorem runOrder_keeps {β : Type} (g : State → β) (o : Order3) (a b c : State → State)
    (ha : ∀ s, g (a s) = g s) (hb : ∀ s, g (b s) = g s) (hc : ∀ s, g (c s) = g s) (s : State) :
    g (runOrder o a b c s) = g s := by
  cases o <;> simp [runOrder, ha, hb, hc]

@[simp] theorem stackStatus_frame (e : EndingStatus) (s : State) :
    (stackStatus e s).vsc = s.vsc ∧ (stackStatus e s).scn = s.scn ∧ (stackStatus e s).sup = s.sup ∧
    (stackStatus e s).trc = s.trc ∧ (stackStatus e s).stc = s.stc ∧ (stackStatus e s).wch = s.wch ∧
    (stackStatus e s).ltc = s.ltc ∧ (stackStatus e s).lmx = s.lmx ∧ (stackStatus e s).nq = s.nq ∧
    (stackStatus e s).lnk = s.lnk ∧ (stackStatus e s).cfg = s.cfg ∧ (stackStatus e s).choice = s.choice ∧
    (stackStatus e s).pending = s.pending ∧ (stackStatus e s).pgc.store = s.pgc.store := by
  simp [stackStatus]

@[simp] theorem offer_frame (o : Offer) (s : State) :
    (offer o s).vsc = s.vsc ∧ (offer o s).scn = s.scn ∧ (offer o s).sup = s.sup ∧ (offer o s).trc = s.trc ∧
    (offer o s).stc = s.stc ∧ (offer o s).wch = s.wch ∧ (offer o s).ltc = s.ltc ∧ (offer o s).lmx = s.lmx ∧
    (offer o s).lnk = s.lnk ∧ (offer o s).cfg = s.cfg ∧ (offer o s).choice = s.choice ∧
    (offer o s).pending = s.pending ∧ (offer o s).pgc.store = s.pgc.store := by
  refine ⟨?_, ?_, ?_, ?_, ?_, ?_, ?_, ?_, ?_, ?_, ?_, ?_, ?_⟩ <;> (unfold offer; (repeat' split) <;> simp)

@[simp] theorem offerEnding_frame (e : EndingStatus) (s : State) :
    (offerEnding e s).vsc = s.vsc ∧ (offerEnding e s).scn = s.scn ∧ (offerEnding e s).sup = s.sup ∧
    (offerEnding e s).trc = s.trc ∧ (offerEnding e s).stc = s.stc ∧ (offerEnding e s).wch = s.wch ∧
    (offerEnding e s).ltc = s.ltc ∧ (offerEnding e s).lmx = s.lmx ∧ (offerEnding e s).lnk = s.lnk ∧
    (offerEnding e s).cfg = s.cfg ∧ (offerEnding e s).choice = s.choice ∧
    (offerEnding e s).pending = s.pending ∧ (offerEnding e s).pgc.store = s.pgc.store := by
  refine ⟨?_, ?_, ?_, ?_, ?_, ?_, ?_, ?_, ?_, ?_, ?_, ?_, ?_⟩ <;> (unfold offerEnding; (repeat' split) <;> simp)

@[simp] theorem takeOutstanding_frame (u : UnitNo) (s : State) :
    (takeOutstanding u s).vsc = s.vsc ∧ (takeOutstanding u s).scn = s.scn ∧
    (takeOutstanding u s).sup = s.sup ∧ (takeOutstanding u s).trc = s.trc ∧
    (takeOutstanding u s).stc = s.stc ∧ (takeOutstanding u s).wch = s.wch ∧
    (takeOutstanding u s).ltc = s.ltc ∧ (takeOutstanding u s).lmx = s.lmx ∧
    (takeOutstanding u s).lnk = s.lnk ∧ (takeOutstanding u s).cfg = s.cfg ∧
    (takeOutstanding u s).choice = s.choice ∧ (takeOutstanding u s).pending = s.pending ∧
    (takeOutstanding u s).pgc.store = s.pgc.store := by
  refine ⟨?_, ?_, ?_, ?_, ?_, ?_, ?_, ?_, ?_, ?_, ?_, ?_, ?_⟩ <;> (unfold takeOutstanding; (repeat' split) <;> simp)

end Sys2Proof.Machine
end

