-- ==== Sys2Proof/Laws/Programs.lean ====
section
/-! SUPPORT. What each operation of the Program Controller leaves alone, once for each, and what it can do. -/

namespace Sys2Proof.Machine

@[simp] theorem passTo_frame (u : UnitNo) (slot : Slot) (loop : LoopCounter) (s : State) :
    (passTo u slot loop s).vsc = s.vsc ∧ (passTo u slot loop s).scn = s.scn ∧
    (passTo u slot loop s).sup = s.sup ∧ (passTo u slot loop s).trc = s.trc ∧
    (passTo u slot loop s).stc = s.stc ∧ (passTo u slot loop s).wch = s.wch ∧
    (passTo u slot loop s).ltc = s.ltc ∧ (passTo u slot loop s).lmx = s.lmx ∧
    (passTo u slot loop s).nq = s.nq ∧ (passTo u slot loop s).lnk = s.lnk ∧
    (passTo u slot loop s).cfg = s.cfg ∧ (passTo u slot loop s).choice = s.choice ∧
    (passTo u slot loop s).pending = s.pending ∧ (passTo u slot loop s).pgc.store = s.pgc.store := by
  simp [passTo]

@[simp] theorem startContext_frame (u : UnitNo) (first : Slot) (slots : List Slot) (tag : Byte) (s : State) :
    (startContext u first slots tag s).vsc = s.vsc ∧ (startContext u first slots tag s).scn = s.scn ∧
    (startContext u first slots tag s).sup = s.sup ∧ (startContext u first slots tag s).trc = s.trc ∧
    (startContext u first slots tag s).stc = s.stc ∧ (startContext u first slots tag s).wch = s.wch ∧
    (startContext u first slots tag s).ltc = s.ltc ∧ (startContext u first slots tag s).lmx = s.lmx ∧
    (startContext u first slots tag s).nq = s.nq ∧ (startContext u first slots tag s).lnk = s.lnk ∧
    (startContext u first slots tag s).cfg = s.cfg ∧ (startContext u first slots tag s).choice = s.choice ∧
    (startContext u first slots tag s).pending = s.pending ∧
    (startContext u first slots tag s).pgc.store = s.pgc.store := by
  simp [startContext]

@[simp] theorem endUnit_frame (u : UnitNo) (cause : EndCause) (residual finalPos : Nat) (s : State) :
    (endUnit u cause residual finalPos s).vsc = s.vsc ∧ (endUnit u cause residual finalPos s).scn = s.scn ∧
    (endUnit u cause residual finalPos s).sup = s.sup ∧ (endUnit u cause residual finalPos s).trc = s.trc ∧
    (endUnit u cause residual finalPos s).stc = s.stc ∧ (endUnit u cause residual finalPos s).wch = s.wch ∧
    (endUnit u cause residual finalPos s).ltc = s.ltc ∧ (endUnit u cause residual finalPos s).lmx = s.lmx ∧
    (endUnit u cause residual finalPos s).lnk = s.lnk ∧ (endUnit u cause residual finalPos s).cfg = s.cfg ∧
    (endUnit u cause residual finalPos s).choice = s.choice ∧
    (endUnit u cause residual finalPos s).pending = s.pending ∧
    (endUnit u cause residual finalPos s).pgc.store = s.pgc.store := by
  simp [endUnit]

end Sys2Proof.Machine
end

