-- ==== Sys2Proof/Laws/Scanner.lean ====
section
/-! SUPPORT. What each operation of the Scanner leaves alone, once for each, and what it can do. -/

namespace Sys2Proof.Machine

@[simp] theorem startScan_frame (s : State) :
    (startScan s).vsc = s.vsc ∧ (startScan s).sup = s.sup ∧ (startScan s).trc = s.trc ∧
    (startScan s).stc = s.stc ∧ (startScan s).pgc = s.pgc ∧ (startScan s).wch = s.wch ∧
    (startScan s).ltc = s.ltc ∧ (startScan s).lmx = s.lmx ∧ (startScan s).nq = s.nq ∧
    (startScan s).lnk = s.lnk ∧ (startScan s).cfg = s.cfg ∧ (startScan s).choice = s.choice ∧
    (startScan s).pending = s.pending := by
  simp [startScan]

@[simp] theorem endWaitOnZero_frame (s : State) :
    (endWaitOnZero s).vsc = s.vsc ∧ (endWaitOnZero s).sup = s.sup ∧ (endWaitOnZero s).trc = s.trc ∧
    (endWaitOnZero s).stc = s.stc ∧ (endWaitOnZero s).pgc = s.pgc ∧ (endWaitOnZero s).wch = s.wch ∧
    (endWaitOnZero s).ltc = s.ltc ∧ (endWaitOnZero s).lmx = s.lmx ∧ (endWaitOnZero s).nq = s.nq ∧
    (endWaitOnZero s).lnk = s.lnk ∧ (endWaitOnZero s).cfg = s.cfg ∧ (endWaitOnZero s).choice = s.choice ∧
    (endWaitOnZero s).pending = s.pending := by
  refine ⟨?_, ?_, ?_, ?_, ?_, ?_, ?_, ?_, ?_, ?_, ?_, ?_, ?_⟩ <;> (unfold endWaitOnZero; (repeat' split) <;> simp)

@[simp] theorem startWatchExpired_frame (s : State) :
    (startWatchExpired s).vsc = s.vsc ∧ (startWatchExpired s).sup = s.sup ∧
    (startWatchExpired s).trc = s.trc ∧ (startWatchExpired s).stc = s.stc ∧
    (startWatchExpired s).pgc = s.pgc ∧ (startWatchExpired s).wch = s.wch ∧
    (startWatchExpired s).ltc = s.ltc ∧ (startWatchExpired s).lmx = s.lmx ∧ (startWatchExpired s).nq = s.nq ∧
    (startWatchExpired s).lnk = s.lnk ∧ (startWatchExpired s).cfg = s.cfg ∧
    (startWatchExpired s).choice = s.choice ∧ (startWatchExpired s).pending = s.pending := by
  simp [startWatchExpired]

@[simp] theorem scanContinuous_frame (s : State) :
    (scanContinuous s).vsc = s.vsc ∧ (scanContinuous s).sup = s.sup ∧ (scanContinuous s).trc = s.trc ∧
    (scanContinuous s).stc = s.stc ∧ (scanContinuous s).pgc = s.pgc ∧ (scanContinuous s).wch = s.wch ∧
    (scanContinuous s).ltc = s.ltc ∧ (scanContinuous s).lmx = s.lmx ∧ (scanContinuous s).nq = s.nq ∧
    (scanContinuous s).lnk = s.lnk ∧ (scanContinuous s).cfg = s.cfg ∧ (scanContinuous s).choice = s.choice ∧
    (scanContinuous s).pending = s.pending := by
  simp [scanContinuous]

@[simp] theorem scanWatch_frame (s : State) :
    (scanWatch s).vsc = s.vsc ∧ (scanWatch s).sup = s.sup ∧ (scanWatch s).trc = s.trc ∧
    (scanWatch s).stc = s.stc ∧ (scanWatch s).pgc = s.pgc ∧ (scanWatch s).wch = s.wch ∧
    (scanWatch s).ltc = s.ltc ∧ (scanWatch s).lmx = s.lmx ∧ (scanWatch s).nq = s.nq ∧
    (scanWatch s).lnk = s.lnk ∧ (scanWatch s).cfg = s.cfg ∧ (scanWatch s).choice = s.choice ∧
    (scanWatch s).pending = s.pending := by
  simp [scanWatch]

@[simp] theorem cellCountChanged_frame (s : State) :
    (cellCountChanged s).vsc = s.vsc ∧ (cellCountChanged s).sup = s.sup ∧ (cellCountChanged s).trc = s.trc ∧
    (cellCountChanged s).stc = s.stc ∧ (cellCountChanged s).pgc = s.pgc ∧ (cellCountChanged s).wch = s.wch ∧
    (cellCountChanged s).ltc = s.ltc ∧ (cellCountChanged s).lmx = s.lmx ∧ (cellCountChanged s).nq = s.nq ∧
    (cellCountChanged s).lnk = s.lnk ∧ (cellCountChanged s).cfg = s.cfg ∧
    (cellCountChanged s).choice = s.choice ∧ (cellCountChanged s).pending = s.pending := by
  simp [cellCountChanged]

@[simp] theorem publishScan_frame (c : Scan) (s : State) :
    (publishScan c s).vsc = s.vsc ∧ (publishScan c s).sup = s.sup ∧ (publishScan c s).trc = s.trc ∧
    (publishScan c s).stc = s.stc ∧ (publishScan c s).pgc = s.pgc ∧ (publishScan c s).wch = s.wch ∧
    (publishScan c s).ltc = s.ltc ∧ (publishScan c s).lmx = s.lmx ∧ (publishScan c s).nq = s.nq ∧
    (publishScan c s).lnk = s.lnk ∧ (publishScan c s).cfg = s.cfg ∧ (publishScan c s).choice = s.choice ∧
    (publishScan c s).pending = s.pending := by
  simp [publishScan]

@[simp] theorem watchCheck_frame (s : State) :
    (watchCheck s).vsc = s.vsc ∧ (watchCheck s).sup = s.sup ∧ (watchCheck s).trc = s.trc ∧
    (watchCheck s).stc = s.stc ∧ (watchCheck s).wch = s.wch ∧ (watchCheck s).ltc = s.ltc ∧
    (watchCheck s).lmx = s.lmx ∧ (watchCheck s).lnk = s.lnk ∧ (watchCheck s).cfg = s.cfg ∧
    (watchCheck s).choice = s.choice ∧ (watchCheck s).pending = s.pending ∧
    (watchCheck s).pgc.store = s.pgc.store := by
  refine ⟨?_, ?_, ?_, ?_, ?_, ?_, ?_, ?_, ?_, ?_, ?_, ?_⟩ <;> (unfold watchCheck; dsimp only; (repeat' split) <;> simp_all)

@[simp] theorem afterScan_frame (kind : ScanMode) (s : State) :
    (afterScan kind s).vsc = s.vsc ∧ (afterScan kind s).sup = s.sup ∧ (afterScan kind s).trc = s.trc ∧
    (afterScan kind s).stc = s.stc ∧ (afterScan kind s).wch = s.wch ∧ (afterScan kind s).ltc = s.ltc ∧
    (afterScan kind s).lmx = s.lmx ∧ (afterScan kind s).lnk = s.lnk ∧ (afterScan kind s).cfg = s.cfg ∧
    (afterScan kind s).choice = s.choice ∧ (afterScan kind s).pending = s.pending ∧
    (afterScan kind s).pgc.store = s.pgc.store := by
  refine ⟨?_, ?_, ?_, ?_, ?_, ?_, ?_, ?_, ?_, ?_, ?_, ?_⟩ <;> (unfold afterScan; (repeat' split) <;> simp)

@[simp] theorem scanComplete_frame (c : Scan) (s : State) :
    (scanComplete c s).vsc = s.vsc ∧ (scanComplete c s).sup = s.sup ∧ (scanComplete c s).trc = s.trc ∧
    (scanComplete c s).stc = s.stc ∧ (scanComplete c s).wch = s.wch ∧ (scanComplete c s).ltc = s.ltc ∧
    (scanComplete c s).lmx = s.lmx ∧ (scanComplete c s).lnk = s.lnk ∧ (scanComplete c s).cfg = s.cfg ∧
    (scanComplete c s).choice = s.choice ∧ (scanComplete c s).pending = s.pending ∧
    (scanComplete c s).pgc.store = s.pgc.store := by
  simp [scanComplete]

end Sys2Proof.Machine
end

