-- ==== Sys2Proof/Laws/Steering.lean ====
section
/-! SUPPORT. What each operation of the Steering Controller leaves alone, once for each, and what it can do. -/

namespace Sys2Proof.Machine

@[simp] theorem clampWindow_frame (x : Axle) (s : State) :
    (clampWindow x s).vsc = s.vsc ∧ (clampWindow x s).scn = s.scn ∧ (clampWindow x s).sup = s.sup ∧
    (clampWindow x s).trc = s.trc ∧ (clampWindow x s).pgc = s.pgc ∧ (clampWindow x s).wch = s.wch ∧
    (clampWindow x s).ltc = s.ltc ∧ (clampWindow x s).lmx = s.lmx ∧ (clampWindow x s).nq = s.nq ∧
    (clampWindow x s).lnk = s.lnk ∧ (clampWindow x s).cfg = s.cfg ∧ (clampWindow x s).choice = s.choice ∧
    (clampWindow x s).pending = s.pending := by
  simp [clampWindow]

@[simp] theorem relaxTest_frame (s : State) :
    (relaxTest s).vsc = s.vsc ∧ (relaxTest s).scn = s.scn ∧ (relaxTest s).sup = s.sup ∧
    (relaxTest s).trc = s.trc ∧ (relaxTest s).pgc = s.pgc ∧ (relaxTest s).wch = s.wch ∧
    (relaxTest s).ltc = s.ltc ∧ (relaxTest s).lmx = s.lmx ∧ (relaxTest s).nq = s.nq ∧
    (relaxTest s).lnk = s.lnk ∧ (relaxTest s).cfg = s.cfg ∧ (relaxTest s).choice = s.choice ∧
    (relaxTest s).pending = s.pending := by
  refine ⟨?_, ?_, ?_, ?_, ?_, ?_, ?_, ?_, ?_, ?_, ?_, ?_, ?_⟩ <;> (unfold relaxTest; (repeat' split) <;> simp)

@[simp] theorem wake_frame (s : State) :
    (wake s).vsc = s.vsc ∧ (wake s).scn = s.scn ∧ (wake s).sup = s.sup ∧ (wake s).trc = s.trc ∧
    (wake s).pgc = s.pgc ∧ (wake s).wch = s.wch ∧ (wake s).ltc = s.ltc ∧ (wake s).lmx = s.lmx ∧
    (wake s).nq = s.nq ∧ (wake s).lnk = s.lnk ∧ (wake s).cfg = s.cfg ∧ (wake s).choice = s.choice ∧
    (wake s).pending = s.pending := by
  simp [wake]

@[simp] theorem steerOnDuties_frame (s : State) :
    (steerOnDuties s).vsc = s.vsc ∧ (steerOnDuties s).scn = s.scn ∧ (steerOnDuties s).sup = s.sup ∧
    (steerOnDuties s).trc = s.trc ∧ (steerOnDuties s).pgc = s.pgc ∧ (steerOnDuties s).wch = s.wch ∧
    (steerOnDuties s).ltc = s.ltc ∧ (steerOnDuties s).lmx = s.lmx ∧ (steerOnDuties s).nq = s.nq ∧
    (steerOnDuties s).lnk = s.lnk ∧ (steerOnDuties s).cfg = s.cfg ∧ (steerOnDuties s).choice = s.choice ∧
    (steerOnDuties s).pending = s.pending := by
  refine ⟨?_, ?_, ?_, ?_, ?_, ?_, ?_, ?_, ?_, ?_, ?_, ?_, ?_⟩ <;> (unfold steerOnDuties; (repeat' split) <;> simp)

@[simp] theorem relaxTimeSet_frame (s : State) :
    (relaxTimeSet s).vsc = s.vsc ∧ (relaxTimeSet s).scn = s.scn ∧ (relaxTimeSet s).sup = s.sup ∧
    (relaxTimeSet s).trc = s.trc ∧ (relaxTimeSet s).pgc = s.pgc ∧ (relaxTimeSet s).wch = s.wch ∧
    (relaxTimeSet s).ltc = s.ltc ∧ (relaxTimeSet s).lmx = s.lmx ∧ (relaxTimeSet s).nq = s.nq ∧
    (relaxTimeSet s).lnk = s.lnk ∧ (relaxTimeSet s).cfg = s.cfg ∧ (relaxTimeSet s).choice = s.choice ∧
    (relaxTimeSet s).pending = s.pending := by
  refine ⟨?_, ?_, ?_, ?_, ?_, ?_, ?_, ?_, ?_, ?_, ?_, ?_, ?_⟩ <;> (unfold relaxTimeSet; (repeat' split) <;> simp)

@[simp] theorem pendingTest_frame (s : State) :
    (pendingTest s).vsc = s.vsc ∧ (pendingTest s).scn = s.scn ∧ (pendingTest s).sup = s.sup ∧
    (pendingTest s).trc = s.trc ∧ (pendingTest s).pgc = s.pgc ∧ (pendingTest s).wch = s.wch ∧
    (pendingTest s).ltc = s.ltc ∧ (pendingTest s).lmx = s.lmx ∧ (pendingTest s).nq = s.nq ∧
    (pendingTest s).lnk = s.lnk ∧ (pendingTest s).cfg = s.cfg ∧ (pendingTest s).choice = s.choice ∧
    (pendingTest s).pending = s.pending := by
  refine ⟨?_, ?_, ?_, ?_, ?_, ?_, ?_, ?_, ?_, ?_, ?_, ?_, ?_⟩ <;> (unfold pendingTest; (repeat' split) <;> simp)

@[simp] theorem wakeTest_frame (throttle : Int) (s : State) :
    (wakeTest throttle s).vsc = s.vsc ∧ (wakeTest throttle s).scn = s.scn ∧
    (wakeTest throttle s).sup = s.sup ∧ (wakeTest throttle s).trc = s.trc ∧
    (wakeTest throttle s).pgc = s.pgc ∧ (wakeTest throttle s).wch = s.wch ∧
    (wakeTest throttle s).ltc = s.ltc ∧ (wakeTest throttle s).lmx = s.lmx ∧ (wakeTest throttle s).nq = s.nq ∧
    (wakeTest throttle s).lnk = s.lnk ∧ (wakeTest throttle s).cfg = s.cfg ∧
    (wakeTest throttle s).choice = s.choice ∧ (wakeTest throttle s).pending = s.pending := by
  refine ⟨?_, ?_, ?_, ?_, ?_, ?_, ?_, ?_, ?_, ?_, ?_, ?_, ?_⟩ <;> (unfold wakeTest; dsimp only; (repeat' split) <;> simp_all)

@[simp] theorem steerDrive_frame (throttle steer : Int) (s : State) :
    (steerDrive throttle steer s).vsc = s.vsc ∧ (steerDrive throttle steer s).scn = s.scn ∧
    (steerDrive throttle steer s).sup = s.sup ∧ (steerDrive throttle steer s).trc = s.trc ∧
    (steerDrive throttle steer s).pgc = s.pgc ∧ (steerDrive throttle steer s).wch = s.wch ∧
    (steerDrive throttle steer s).ltc = s.ltc ∧ (steerDrive throttle steer s).lmx = s.lmx ∧
    (steerDrive throttle steer s).nq = s.nq ∧ (steerDrive throttle steer s).lnk = s.lnk ∧
    (steerDrive throttle steer s).cfg = s.cfg ∧ (steerDrive throttle steer s).choice = s.choice ∧
    (steerDrive throttle steer s).pending = s.pending := by
  simp [steerDrive]

@[simp] theorem steerMode_frame (m : SteerMode) (s : State) :
    (steerMode m s).vsc = s.vsc ∧ (steerMode m s).scn = s.scn ∧ (steerMode m s).sup = s.sup ∧
    (steerMode m s).trc = s.trc ∧ (steerMode m s).pgc = s.pgc ∧ (steerMode m s).wch = s.wch ∧
    (steerMode m s).ltc = s.ltc ∧ (steerMode m s).lmx = s.lmx ∧ (steerMode m s).nq = s.nq ∧
    (steerMode m s).lnk = s.lnk ∧ (steerMode m s).cfg = s.cfg ∧ (steerMode m s).choice = s.choice ∧
    (steerMode m s).pending = s.pending := by
  refine ⟨?_, ?_, ?_, ?_, ?_, ?_, ?_, ?_, ?_, ?_, ?_, ?_, ?_⟩ <;> (unfold steerMode; (repeat' split) <;> simp)

@[simp] theorem steerFrame_frame (s : State) :
    (steerFrame s).vsc = s.vsc ∧ (steerFrame s).scn = s.scn ∧ (steerFrame s).sup = s.sup ∧
    (steerFrame s).trc = s.trc ∧ (steerFrame s).pgc = s.pgc ∧ (steerFrame s).wch = s.wch ∧
    (steerFrame s).ltc = s.ltc ∧ (steerFrame s).lmx = s.lmx ∧ (steerFrame s).nq = s.nq ∧
    (steerFrame s).lnk = s.lnk ∧ (steerFrame s).cfg = s.cfg ∧ (steerFrame s).choice = s.choice ∧
    (steerFrame s).pending = s.pending := by
  simp [steerFrame]

@[simp] theorem restartServoTimer_frame (s : State) :
    (restartServoTimer s).vsc = s.vsc ∧ (restartServoTimer s).scn = s.scn ∧
    (restartServoTimer s).sup = s.sup ∧ (restartServoTimer s).trc = s.trc ∧
    (restartServoTimer s).pgc = s.pgc ∧ (restartServoTimer s).wch = s.wch ∧
    (restartServoTimer s).ltc = s.ltc ∧ (restartServoTimer s).lmx = s.lmx ∧ (restartServoTimer s).nq = s.nq ∧
    (restartServoTimer s).lnk = s.lnk ∧ (restartServoTimer s).cfg = s.cfg ∧
    (restartServoTimer s).choice = s.choice ∧ (restartServoTimer s).pending = s.pending := by
  simp [restartServoTimer]

@[simp] theorem steerArmed_frame (s : State) :
    (steerArmed s).vsc = s.vsc ∧ (steerArmed s).scn = s.scn ∧ (steerArmed s).sup = s.sup ∧
    (steerArmed s).trc = s.trc ∧ (steerArmed s).pgc = s.pgc ∧ (steerArmed s).wch = s.wch ∧
    (steerArmed s).ltc = s.ltc ∧ (steerArmed s).lmx = s.lmx ∧ (steerArmed s).nq = s.nq ∧
    (steerArmed s).lnk = s.lnk ∧ (steerArmed s).cfg = s.cfg ∧ (steerArmed s).choice = s.choice ∧
    (steerArmed s).pending = s.pending := by
  simp [steerArmed]

@[simp] theorem steerUnfreeze_frame (s : State) :
    (steerUnfreeze s).vsc = s.vsc ∧ (steerUnfreeze s).scn = s.scn ∧ (steerUnfreeze s).sup = s.sup ∧
    (steerUnfreeze s).trc = s.trc ∧ (steerUnfreeze s).pgc = s.pgc ∧ (steerUnfreeze s).wch = s.wch ∧
    (steerUnfreeze s).ltc = s.ltc ∧ (steerUnfreeze s).lmx = s.lmx ∧ (steerUnfreeze s).nq = s.nq ∧
    (steerUnfreeze s).lnk = s.lnk ∧ (steerUnfreeze s).cfg = s.cfg ∧ (steerUnfreeze s).choice = s.choice ∧
    (steerUnfreeze s).pending = s.pending := by
  simp [steerUnfreeze]

@[simp] theorem steerFailsafe_frame (s : State) :
    (steerFailsafe s).vsc = s.vsc ∧ (steerFailsafe s).scn = s.scn ∧ (steerFailsafe s).sup = s.sup ∧
    (steerFailsafe s).trc = s.trc ∧ (steerFailsafe s).pgc = s.pgc ∧ (steerFailsafe s).wch = s.wch ∧
    (steerFailsafe s).ltc = s.ltc ∧ (steerFailsafe s).lmx = s.lmx ∧ (steerFailsafe s).nq = s.nq ∧
    (steerFailsafe s).lnk = s.lnk ∧ (steerFailsafe s).cfg = s.cfg ∧ (steerFailsafe s).choice = s.choice ∧
    (steerFailsafe s).pending = s.pending := by
  simp [steerFailsafe]

@[simp] theorem steerShutdown_frame (s : State) :
    (steerShutdown s).vsc = s.vsc ∧ (steerShutdown s).scn = s.scn ∧ (steerShutdown s).sup = s.sup ∧
    (steerShutdown s).trc = s.trc ∧ (steerShutdown s).pgc = s.pgc ∧ (steerShutdown s).wch = s.wch ∧
    (steerShutdown s).ltc = s.ltc ∧ (steerShutdown s).lmx = s.lmx ∧ (steerShutdown s).nq = s.nq ∧
    (steerShutdown s).lnk = s.lnk ∧ (steerShutdown s).cfg = s.cfg ∧ (steerShutdown s).choice = s.choice ∧
    (steerShutdown s).pending = s.pending := by
  simp [steerShutdown]

@[simp] theorem steerTripped_frame (s : State) :
    (steerTripped s).vsc = s.vsc ∧ (steerTripped s).scn = s.scn ∧ (steerTripped s).sup = s.sup ∧
    (steerTripped s).trc = s.trc ∧ (steerTripped s).pgc = s.pgc ∧ (steerTripped s).wch = s.wch ∧
    (steerTripped s).ltc = s.ltc ∧ (steerTripped s).lmx = s.lmx ∧ (steerTripped s).nq = s.nq ∧
    (steerTripped s).lnk = s.lnk ∧ (steerTripped s).cfg = s.cfg ∧ (steerTripped s).choice = s.choice ∧
    (steerTripped s).pending = s.pending := by
  simp [steerTripped]

@[simp] theorem steerParked_frame (s : State) :
    (steerParked s).vsc = s.vsc ∧ (steerParked s).scn = s.scn ∧ (steerParked s).sup = s.sup ∧
    (steerParked s).trc = s.trc ∧ (steerParked s).pgc = s.pgc ∧ (steerParked s).wch = s.wch ∧
    (steerParked s).ltc = s.ltc ∧ (steerParked s).lmx = s.lmx ∧ (steerParked s).nq = s.nq ∧
    (steerParked s).lnk = s.lnk ∧ (steerParked s).cfg = s.cfg ∧ (steerParked s).choice = s.choice ∧
    (steerParked s).pending = s.pending := by
  simp [steerParked]

end Sys2Proof.Machine
end

