-- ==== Sys2Proof/Laws/Lights.lean ====
section
/-! SUPPORT. What each operation of the Light Controller leaves alone, once for each, and what it can do. -/

namespace Sys2Proof.Machine

@[simp] theorem formDesired_frame (c : Chan) (s : State) :
    (formDesired c s).vsc = s.vsc ∧ (formDesired c s).scn = s.scn ∧ (formDesired c s).sup = s.sup ∧
    (formDesired c s).trc = s.trc ∧ (formDesired c s).stc = s.stc ∧ (formDesired c s).pgc = s.pgc ∧
    (formDesired c s).wch = s.wch ∧ (formDesired c s).lmx = s.lmx ∧ (formDesired c s).nq = s.nq ∧
    (formDesired c s).lnk = s.lnk ∧ (formDesired c s).cfg = s.cfg ∧ (formDesired c s).choice = s.choice ∧
    (formDesired c s).pending = s.pending := by
  simp [formDesired]

@[simp] theorem overlayTests_frame (s : State) :
    (overlayTests s).vsc = s.vsc ∧ (overlayTests s).scn = s.scn ∧ (overlayTests s).sup = s.sup ∧
    (overlayTests s).trc = s.trc ∧ (overlayTests s).stc = s.stc ∧ (overlayTests s).pgc = s.pgc ∧
    (overlayTests s).wch = s.wch ∧ (overlayTests s).lmx = s.lmx ∧ (overlayTests s).nq = s.nq ∧
    (overlayTests s).lnk = s.lnk ∧ (overlayTests s).cfg = s.cfg ∧ (overlayTests s).choice = s.choice ∧
    (overlayTests s).pending = s.pending := by
  simp [overlayTests]

@[simp] theorem overlayTest_frame (c : Chan) (s : State) :
    (overlayTest c s).vsc = s.vsc ∧ (overlayTest c s).scn = s.scn ∧ (overlayTest c s).sup = s.sup ∧
    (overlayTest c s).trc = s.trc ∧ (overlayTest c s).stc = s.stc ∧ (overlayTest c s).pgc = s.pgc ∧
    (overlayTest c s).wch = s.wch ∧ (overlayTest c s).lmx = s.lmx ∧ (overlayTest c s).nq = s.nq ∧
    (overlayTest c s).lnk = s.lnk ∧ (overlayTest c s).cfg = s.cfg ∧ (overlayTest c s).choice = s.choice ∧
    (overlayTest c s).pending = s.pending := by
  simp [overlayTest]

@[simp] theorem hazardStart_frame (s : State) :
    (hazardStart s).vsc = s.vsc ∧ (hazardStart s).scn = s.scn ∧ (hazardStart s).sup = s.sup ∧
    (hazardStart s).trc = s.trc ∧ (hazardStart s).stc = s.stc ∧ (hazardStart s).pgc = s.pgc ∧
    (hazardStart s).wch = s.wch ∧ (hazardStart s).lmx = s.lmx ∧ (hazardStart s).nq = s.nq ∧
    (hazardStart s).lnk = s.lnk ∧ (hazardStart s).cfg = s.cfg ∧ (hazardStart s).choice = s.choice ∧
    (hazardStart s).pending = s.pending := by
  simp [hazardStart]

@[simp] theorem hazardStop_frame (s : State) :
    (hazardStop s).vsc = s.vsc ∧ (hazardStop s).scn = s.scn ∧ (hazardStop s).sup = s.sup ∧
    (hazardStop s).trc = s.trc ∧ (hazardStop s).stc = s.stc ∧ (hazardStop s).pgc = s.pgc ∧
    (hazardStop s).wch = s.wch ∧ (hazardStop s).lmx = s.lmx ∧ (hazardStop s).nq = s.nq ∧
    (hazardStop s).lnk = s.lnk ∧ (hazardStop s).cfg = s.cfg ∧ (hazardStop s).choice = s.choice ∧
    (hazardStop s).pending = s.pending := by
  simp [hazardStop]

@[simp] theorem cutLights_frame (s : State) :
    (cutLights s).vsc = s.vsc ∧ (cutLights s).scn = s.scn ∧ (cutLights s).sup = s.sup ∧
    (cutLights s).trc = s.trc ∧ (cutLights s).stc = s.stc ∧ (cutLights s).pgc = s.pgc ∧
    (cutLights s).wch = s.wch ∧ (cutLights s).lmx = s.lmx ∧ (cutLights s).nq = s.nq ∧
    (cutLights s).lnk = s.lnk ∧ (cutLights s).cfg = s.cfg ∧ (cutLights s).choice = s.choice ∧
    (cutLights s).pending = s.pending := by
  simp [cutLights]

@[simp] theorem takeLevel_frame (c : Chan) (s : State) :
    (takeLevel c s).vsc = s.vsc ∧ (takeLevel c s).scn = s.scn ∧ (takeLevel c s).sup = s.sup ∧
    (takeLevel c s).trc = s.trc ∧ (takeLevel c s).stc = s.stc ∧ (takeLevel c s).pgc = s.pgc ∧
    (takeLevel c s).wch = s.wch ∧ (takeLevel c s).lmx = s.lmx ∧ (takeLevel c s).nq = s.nq ∧
    (takeLevel c s).lnk = s.lnk ∧ (takeLevel c s).cfg = s.cfg ∧ (takeLevel c s).choice = s.choice ∧
    (takeLevel c s).pending = s.pending := by
  simp [takeLevel]

@[simp] theorem beginLightStep_frame (c : Chan) (slot : Slot) (r : LightRec) (s : State) :
    (beginLightStep c slot r s).vsc = s.vsc ∧ (beginLightStep c slot r s).scn = s.scn ∧
    (beginLightStep c slot r s).sup = s.sup ∧ (beginLightStep c slot r s).trc = s.trc ∧
    (beginLightStep c slot r s).stc = s.stc ∧ (beginLightStep c slot r s).pgc = s.pgc ∧
    (beginLightStep c slot r s).wch = s.wch ∧ (beginLightStep c slot r s).lmx = s.lmx ∧
    (beginLightStep c slot r s).nq = s.nq ∧ (beginLightStep c slot r s).lnk = s.lnk ∧
    (beginLightStep c slot r s).cfg = s.cfg ∧ (beginLightStep c slot r s).choice = s.choice ∧
    (beginLightStep c slot r s).pending = s.pending := by
  simp [beginLightStep]

@[simp] theorem handLight_frame (c : Chan) (slot : Slot) (s : State) :
    (handLight c slot s).vsc = s.vsc ∧ (handLight c slot s).scn = s.scn ∧ (handLight c slot s).sup = s.sup ∧
    (handLight c slot s).trc = s.trc ∧ (handLight c slot s).stc = s.stc ∧ (handLight c slot s).pgc = s.pgc ∧
    (handLight c slot s).wch = s.wch ∧ (handLight c slot s).lmx = s.lmx ∧ (handLight c slot s).nq = s.nq ∧
    (handLight c slot s).lnk = s.lnk ∧ (handLight c slot s).cfg = s.cfg ∧
    (handLight c slot s).choice = s.choice ∧ (handLight c slot s).pending = s.pending := by
  refine ⟨?_, ?_, ?_, ?_, ?_, ?_, ?_, ?_, ?_, ?_, ?_, ?_, ?_⟩ <;> (unfold handLight; (repeat' split) <;> simp)

@[simp] theorem endLightWith_frame (c : Chan) (cause : EndCause) (r : Nat) (s : State) :
    (endLightWith c cause r s).vsc = s.vsc ∧ (endLightWith c cause r s).scn = s.scn ∧
    (endLightWith c cause r s).sup = s.sup ∧ (endLightWith c cause r s).trc = s.trc ∧
    (endLightWith c cause r s).stc = s.stc ∧ (endLightWith c cause r s).wch = s.wch ∧
    (endLightWith c cause r s).lmx = s.lmx ∧ (endLightWith c cause r s).lnk = s.lnk ∧
    (endLightWith c cause r s).cfg = s.cfg ∧ (endLightWith c cause r s).choice = s.choice ∧
    (endLightWith c cause r s).pending = s.pending ∧ (endLightWith c cause r s).pgc.store = s.pgc.store := by
  simp [endLightWith]

@[simp] theorem endLightUnit_frame (c : Chan) (cause : EndCause) (s : State) :
    (endLightUnit c cause s).vsc = s.vsc ∧ (endLightUnit c cause s).scn = s.scn ∧
    (endLightUnit c cause s).sup = s.sup ∧ (endLightUnit c cause s).trc = s.trc ∧
    (endLightUnit c cause s).stc = s.stc ∧ (endLightUnit c cause s).wch = s.wch ∧
    (endLightUnit c cause s).lmx = s.lmx ∧ (endLightUnit c cause s).lnk = s.lnk ∧
    (endLightUnit c cause s).cfg = s.cfg ∧ (endLightUnit c cause s).choice = s.choice ∧
    (endLightUnit c cause s).pending = s.pending ∧ (endLightUnit c cause s).pgc.store = s.pgc.store := by
  simp [endLightUnit]

@[simp] theorem lightStepDone_frame (c : Chan) (s : State) :
    (lightStepDone c s).vsc = s.vsc ∧ (lightStepDone c s).scn = s.scn ∧ (lightStepDone c s).sup = s.sup ∧
    (lightStepDone c s).trc = s.trc ∧ (lightStepDone c s).stc = s.stc ∧ (lightStepDone c s).wch = s.wch ∧
    (lightStepDone c s).lmx = s.lmx ∧ (lightStepDone c s).lnk = s.lnk ∧ (lightStepDone c s).cfg = s.cfg ∧
    (lightStepDone c s).choice = s.choice ∧ (lightStepDone c s).pending = s.pending ∧
    (lightStepDone c s).pgc.store = s.pgc.store := by
  refine ⟨?_, ?_, ?_, ?_, ?_, ?_, ?_, ?_, ?_, ?_, ?_, ?_⟩ <;> (unfold lightStepDone; dsimp only; (repeat' split) <;> simp_all)

@[simp] theorem lightStepFrame_frame (c : Chan) (s : State) :
    (lightStepFrame c s).vsc = s.vsc ∧ (lightStepFrame c s).scn = s.scn ∧ (lightStepFrame c s).sup = s.sup ∧
    (lightStepFrame c s).trc = s.trc ∧ (lightStepFrame c s).stc = s.stc ∧ (lightStepFrame c s).wch = s.wch ∧
    (lightStepFrame c s).lmx = s.lmx ∧ (lightStepFrame c s).lnk = s.lnk ∧ (lightStepFrame c s).cfg = s.cfg ∧
    (lightStepFrame c s).choice = s.choice ∧ (lightStepFrame c s).pending = s.pending ∧
    (lightStepFrame c s).pgc.store = s.pgc.store := by
  refine ⟨?_, ?_, ?_, ?_, ?_, ?_, ?_, ?_, ?_, ?_, ?_, ?_⟩ <;> (unfold lightStepFrame; dsimp only; (repeat' split) <;> simp_all)

@[simp] theorem blinkFrame_frame (c : Chan) (s : State) :
    (blinkFrame c s).vsc = s.vsc ∧ (blinkFrame c s).scn = s.scn ∧ (blinkFrame c s).sup = s.sup ∧
    (blinkFrame c s).trc = s.trc ∧ (blinkFrame c s).stc = s.stc ∧ (blinkFrame c s).pgc = s.pgc ∧
    (blinkFrame c s).wch = s.wch ∧ (blinkFrame c s).lmx = s.lmx ∧ (blinkFrame c s).nq = s.nq ∧
    (blinkFrame c s).lnk = s.lnk ∧ (blinkFrame c s).cfg = s.cfg ∧ (blinkFrame c s).choice = s.choice ∧
    (blinkFrame c s).pending = s.pending := by
  simp [blinkFrame]

@[simp] theorem channelFrame_frame (s : State) (c : Chan) :
    (channelFrame s c).vsc = s.vsc ∧ (channelFrame s c).scn = s.scn ∧ (channelFrame s c).sup = s.sup ∧
    (channelFrame s c).trc = s.trc ∧ (channelFrame s c).stc = s.stc ∧ (channelFrame s c).wch = s.wch ∧
    (channelFrame s c).lmx = s.lmx ∧ (channelFrame s c).lnk = s.lnk ∧ (channelFrame s c).cfg = s.cfg ∧
    (channelFrame s c).choice = s.choice ∧ (channelFrame s c).pending = s.pending ∧
    (channelFrame s c).pgc.store = s.pgc.store := by
  simp [channelFrame]

@[simp] theorem lightsFrame_frame (s : State) :
    (lightsFrame s).vsc = s.vsc ∧ (lightsFrame s).scn = s.scn ∧ (lightsFrame s).sup = s.sup ∧
    (lightsFrame s).trc = s.trc ∧ (lightsFrame s).stc = s.stc ∧ (lightsFrame s).wch = s.wch ∧
    (lightsFrame s).lmx = s.lmx ∧ (lightsFrame s).lnk = s.lnk ∧ (lightsFrame s).cfg = s.cfg ∧
    (lightsFrame s).choice = s.choice ∧ (lightsFrame s).pending = s.pending ∧
    (lightsFrame s).pgc.store = s.pgc.store := by
  unfold lightsFrame
  exact ⟨(foldl_keeps (fun s => s.vsc) _ (fun _ _ => by simp) _ _).trans (by simp),
    (foldl_keeps (fun s => s.scn) _ (fun _ _ => by simp) _ _).trans (by simp),
    (foldl_keeps (fun s => s.sup) _ (fun _ _ => by simp) _ _).trans (by simp),
    (foldl_keeps (fun s => s.trc) _ (fun _ _ => by simp) _ _).trans (by simp),
    (foldl_keeps (fun s => s.stc) _ (fun _ _ => by simp) _ _).trans (by simp),
    (foldl_keeps (fun s => s.wch) _ (fun _ _ => by simp) _ _).trans (by simp),
    (foldl_keeps (fun s => s.lmx) _ (fun _ _ => by simp) _ _).trans (by simp),
    (foldl_keeps (fun s => s.lnk) _ (fun _ _ => by simp) _ _).trans (by simp),
    (foldl_keeps (fun s => s.cfg) _ (fun _ _ => by simp) _ _).trans (by simp),
    (foldl_keeps (fun s => s.choice) _ (fun _ _ => by simp) _ _).trans (by simp),
    (foldl_keeps (fun s => s.pending) _ (fun _ _ => by simp) _ _).trans (by simp),
    (foldl_keeps (fun s => s.pgc.store) _ (fun _ _ => by simp) _ _).trans (by simp)⟩

@[simp] theorem startLightUnit_frame (c : Chan) (first : Slot) (s : State) :
    (startLightUnit c first s).vsc = s.vsc ∧ (startLightUnit c first s).scn = s.scn ∧
    (startLightUnit c first s).sup = s.sup ∧ (startLightUnit c first s).trc = s.trc ∧
    (startLightUnit c first s).stc = s.stc ∧ (startLightUnit c first s).pgc = s.pgc ∧
    (startLightUnit c first s).wch = s.wch ∧ (startLightUnit c first s).lmx = s.lmx ∧
    (startLightUnit c first s).nq = s.nq ∧ (startLightUnit c first s).lnk = s.lnk ∧
    (startLightUnit c first s).cfg = s.cfg ∧ (startLightUnit c first s).choice = s.choice ∧
    (startLightUnit c first s).pending = s.pending := by
  simp [startLightUnit]

@[simp] theorem haltLight_frame (cause : EndCause) (s : State) (c : Chan) :
    (haltLight cause s c).vsc = s.vsc ∧ (haltLight cause s c).scn = s.scn ∧
    (haltLight cause s c).sup = s.sup ∧ (haltLight cause s c).trc = s.trc ∧
    (haltLight cause s c).stc = s.stc ∧ (haltLight cause s c).wch = s.wch ∧
    (haltLight cause s c).lmx = s.lmx ∧ (haltLight cause s c).lnk = s.lnk ∧
    (haltLight cause s c).cfg = s.cfg ∧ (haltLight cause s c).choice = s.choice ∧
    (haltLight cause s c).pending = s.pending ∧ (haltLight cause s c).pgc.store = s.pgc.store := by
  refine ⟨?_, ?_, ?_, ?_, ?_, ?_, ?_, ?_, ?_, ?_, ?_, ?_⟩ <;> (unfold haltLight; (repeat' split) <;> simp)

@[simp] theorem cutoffLights_frame (s : State) :
    (cutoffLights s).vsc = s.vsc ∧ (cutoffLights s).scn = s.scn ∧ (cutoffLights s).sup = s.sup ∧
    (cutoffLights s).trc = s.trc ∧ (cutoffLights s).stc = s.stc ∧ (cutoffLights s).wch = s.wch ∧
    (cutoffLights s).lmx = s.lmx ∧ (cutoffLights s).lnk = s.lnk ∧ (cutoffLights s).cfg = s.cfg ∧
    (cutoffLights s).choice = s.choice ∧ (cutoffLights s).pending = s.pending ∧
    (cutoffLights s).pgc.store = s.pgc.store := by
  unfold cutoffLights
  exact ⟨(foldl_keeps (fun s => s.vsc) _ (fun _ _ => by simp) _ _).trans (by simp),
    (foldl_keeps (fun s => s.scn) _ (fun _ _ => by simp) _ _).trans (by simp),
    (foldl_keeps (fun s => s.sup) _ (fun _ _ => by simp) _ _).trans (by simp),
    (foldl_keeps (fun s => s.trc) _ (fun _ _ => by simp) _ _).trans (by simp),
    (foldl_keeps (fun s => s.stc) _ (fun _ _ => by simp) _ _).trans (by simp),
    (foldl_keeps (fun s => s.wch) _ (fun _ _ => by simp) _ _).trans (by simp),
    (foldl_keeps (fun s => s.lmx) _ (fun _ _ => by simp) _ _).trans (by simp),
    (foldl_keeps (fun s => s.lnk) _ (fun _ _ => by simp) _ _).trans (by simp),
    (foldl_keeps (fun s => s.cfg) _ (fun _ _ => by simp) _ _).trans (by simp),
    (foldl_keeps (fun s => s.choice) _ (fun _ _ => by simp) _ _).trans (by simp),
    (foldl_keeps (fun s => s.pending) _ (fun _ _ => by simp) _ _).trans (by simp),
    (foldl_keeps (fun s => s.pgc.store) _ (fun _ _ => by simp) _ _).trans (by simp)⟩

@[simp] theorem setManual_frame (c : Chan) (level : Nat) (s : State) :
    (setManual c level s).vsc = s.vsc ∧ (setManual c level s).scn = s.scn ∧
    (setManual c level s).sup = s.sup ∧ (setManual c level s).trc = s.trc ∧
    (setManual c level s).stc = s.stc ∧ (setManual c level s).pgc = s.pgc ∧
    (setManual c level s).wch = s.wch ∧ (setManual c level s).lmx = s.lmx ∧ (setManual c level s).nq = s.nq ∧
    (setManual c level s).lnk = s.lnk ∧ (setManual c level s).cfg = s.cfg ∧
    (setManual c level s).choice = s.choice ∧ (setManual c level s).pending = s.pending := by
  refine ⟨?_, ?_, ?_, ?_, ?_, ?_, ?_, ?_, ?_, ?_, ?_, ?_, ?_⟩ <;> (unfold setManual; dsimp only; (repeat' split) <;> simp_all)

end Sys2Proof.Machine
end

