-- ==== Sys2Proof/Laws/Traction.lean ====
section
/-! SUPPORT. What each operation of the Traction Controller leaves alone, once for each, and what it can do. -/

namespace Sys2Proof.Machine

@[simp] theorem formTargets_frame (s : State) :
    (formTargets s).vsc = s.vsc ∧ (formTargets s).scn = s.scn ∧ (formTargets s).sup = s.sup ∧
    (formTargets s).stc = s.stc ∧ (formTargets s).pgc = s.pgc ∧ (formTargets s).wch = s.wch ∧
    (formTargets s).ltc = s.ltc ∧ (formTargets s).lmx = s.lmx ∧ (formTargets s).nq = s.nq ∧
    (formTargets s).lnk = s.lnk ∧ (formTargets s).cfg = s.cfg ∧ (formTargets s).choice = s.choice ∧
    (formTargets s).pending = s.pending := by
  simp [formTargets]

@[simp] theorem chooseModes_frame (s : State) :
    (chooseModes s).vsc = s.vsc ∧ (chooseModes s).scn = s.scn ∧ (chooseModes s).sup = s.sup ∧
    (chooseModes s).stc = s.stc ∧ (chooseModes s).pgc = s.pgc ∧ (chooseModes s).wch = s.wch ∧
    (chooseModes s).ltc = s.ltc ∧ (chooseModes s).lmx = s.lmx ∧ (chooseModes s).nq = s.nq ∧
    (chooseModes s).lnk = s.lnk ∧ (chooseModes s).cfg = s.cfg ∧ (chooseModes s).choice = s.choice ∧
    (chooseModes s).pending = s.pending := by
  simp [chooseModes]

@[simp] theorem classifyTraction_frame (s : State) :
    (classifyTraction s).vsc = s.vsc ∧ (classifyTraction s).scn = s.scn ∧ (classifyTraction s).sup = s.sup ∧
    (classifyTraction s).stc = s.stc ∧ (classifyTraction s).pgc = s.pgc ∧ (classifyTraction s).wch = s.wch ∧
    (classifyTraction s).ltc = s.ltc ∧ (classifyTraction s).lmx = s.lmx ∧ (classifyTraction s).nq = s.nq ∧
    (classifyTraction s).lnk = s.lnk ∧ (classifyTraction s).cfg = s.cfg ∧
    (classifyTraction s).choice = s.choice ∧ (classifyTraction s).pending = s.pending := by
  simp [classifyTraction]

@[simp] theorem publishDuties_frame (s : State) :
    (publishDuties s).vsc = s.vsc ∧ (publishDuties s).sup = s.sup ∧ (publishDuties s).trc = s.trc ∧
    (publishDuties s).pgc = s.pgc ∧ (publishDuties s).wch = s.wch ∧ (publishDuties s).lmx = s.lmx ∧
    (publishDuties s).nq = s.nq ∧ (publishDuties s).lnk = s.lnk ∧ (publishDuties s).cfg = s.cfg ∧
    (publishDuties s).choice = s.choice ∧ (publishDuties s).pending = s.pending := by
  simp [publishDuties]

@[simp] theorem slewAxle_frame (x : Axle) (s : State) :
    (slewAxle x s).vsc = s.vsc ∧ (slewAxle x s).scn = s.scn ∧ (slewAxle x s).sup = s.sup ∧
    (slewAxle x s).stc = s.stc ∧ (slewAxle x s).pgc = s.pgc ∧ (slewAxle x s).wch = s.wch ∧
    (slewAxle x s).ltc = s.ltc ∧ (slewAxle x s).lmx = s.lmx ∧ (slewAxle x s).nq = s.nq ∧
    (slewAxle x s).lnk = s.lnk ∧ (slewAxle x s).cfg = s.cfg ∧ (slewAxle x s).choice = s.choice ∧
    (slewAxle x s).pending = s.pending := by
  simp [slewAxle]

@[simp] theorem takeDig_frame (s : State) :
    (takeDig s).vsc = s.vsc ∧ (takeDig s).scn = s.scn ∧ (takeDig s).sup = s.sup ∧ (takeDig s).stc = s.stc ∧
    (takeDig s).pgc = s.pgc ∧ (takeDig s).wch = s.wch ∧ (takeDig s).ltc = s.ltc ∧ (takeDig s).lmx = s.lmx ∧
    (takeDig s).nq = s.nq ∧ (takeDig s).lnk = s.lnk ∧ (takeDig s).cfg = s.cfg ∧
    (takeDig s).choice = s.choice ∧ (takeDig s).pending = s.pending := by
  simp [takeDig]

@[simp] theorem takeRatio_frame (s : State) :
    (takeRatio s).vsc = s.vsc ∧ (takeRatio s).scn = s.scn ∧ (takeRatio s).sup = s.sup ∧ (takeRatio s).stc = s.stc ∧
    (takeRatio s).pgc = s.pgc ∧ (takeRatio s).wch = s.wch ∧ (takeRatio s).ltc = s.ltc ∧ (takeRatio s).lmx = s.lmx ∧
    (takeRatio s).nq = s.nq ∧ (takeRatio s).lnk = s.lnk ∧ (takeRatio s).cfg = s.cfg ∧
    (takeRatio s).choice = s.choice ∧ (takeRatio s).pending = s.pending := by
  simp [takeRatio]

@[simp] theorem driveFrame_frame (s : State) :
    (driveFrame s).vsc = s.vsc ∧ (driveFrame s).sup = s.sup ∧ (driveFrame s).pgc = s.pgc ∧
    (driveFrame s).wch = s.wch ∧ (driveFrame s).lmx = s.lmx ∧ (driveFrame s).nq = s.nq ∧
    (driveFrame s).lnk = s.lnk ∧ (driveFrame s).cfg = s.cfg ∧ (driveFrame s).choice = s.choice ∧
    (driveFrame s).pending = s.pending := by
  simp [driveFrame]

@[simp] theorem tractionDrive_frame (throttle : Int) (dig : Dig) (latched : Bool) (s : State) :
    (tractionDrive throttle dig latched s).vsc = s.vsc ∧ (tractionDrive throttle dig latched s).scn = s.scn ∧
    (tractionDrive throttle dig latched s).sup = s.sup ∧ (tractionDrive throttle dig latched s).stc = s.stc ∧
    (tractionDrive throttle dig latched s).pgc = s.pgc ∧ (tractionDrive throttle dig latched s).wch = s.wch ∧
    (tractionDrive throttle dig latched s).ltc = s.ltc ∧ (tractionDrive throttle dig latched s).lmx = s.lmx ∧
    (tractionDrive throttle dig latched s).nq = s.nq ∧ (tractionDrive throttle dig latched s).lnk = s.lnk ∧
    (tractionDrive throttle dig latched s).cfg = s.cfg ∧
    (tractionDrive throttle dig latched s).choice = s.choice ∧
    (tractionDrive throttle dig latched s).pending = s.pending := by
  simp [tractionDrive]

@[simp] theorem cutAxle_frame (x : Axle) (cap : Nat) (why : Limiter) (s : State) :
    (cutAxle x cap why s).vsc = s.vsc ∧ (cutAxle x cap why s).scn = s.scn ∧
    (cutAxle x cap why s).sup = s.sup ∧ (cutAxle x cap why s).stc = s.stc ∧
    (cutAxle x cap why s).pgc = s.pgc ∧ (cutAxle x cap why s).wch = s.wch ∧
    (cutAxle x cap why s).ltc = s.ltc ∧ (cutAxle x cap why s).lmx = s.lmx ∧ (cutAxle x cap why s).nq = s.nq ∧
    (cutAxle x cap why s).lnk = s.lnk ∧ (cutAxle x cap why s).cfg = s.cfg ∧
    (cutAxle x cap why s).choice = s.choice ∧ (cutAxle x cap why s).pending = s.pending := by
  refine ⟨?_, ?_, ?_, ?_, ?_, ?_, ?_, ?_, ?_, ?_, ?_, ?_, ?_⟩ <;> (unfold cutAxle; (repeat' split) <;> simp)

@[simp] theorem cutAxles_frame (capFront capRear : Nat) (why : Limiter) (s : State) :
    (cutAxles capFront capRear why s).vsc = s.vsc ∧ (cutAxles capFront capRear why s).sup = s.sup ∧
    (cutAxles capFront capRear why s).pgc = s.pgc ∧ (cutAxles capFront capRear why s).wch = s.wch ∧
    (cutAxles capFront capRear why s).lmx = s.lmx ∧ (cutAxles capFront capRear why s).nq = s.nq ∧
    (cutAxles capFront capRear why s).lnk = s.lnk ∧ (cutAxles capFront capRear why s).cfg = s.cfg ∧
    (cutAxles capFront capRear why s).choice = s.choice ∧
    (cutAxles capFront capRear why s).pending = s.pending := by
  refine ⟨?_, ?_, ?_, ?_, ?_, ?_, ?_, ?_, ?_, ?_⟩ <;> (unfold cutAxles; (repeat' split) <;> simp)

@[simp] theorem tractionArmed_frame (s : State) :
    (tractionArmed s).vsc = s.vsc ∧ (tractionArmed s).sup = s.sup ∧ (tractionArmed s).pgc = s.pgc ∧
    (tractionArmed s).wch = s.wch ∧ (tractionArmed s).lmx = s.lmx ∧ (tractionArmed s).nq = s.nq ∧
    (tractionArmed s).lnk = s.lnk ∧ (tractionArmed s).cfg = s.cfg ∧ (tractionArmed s).choice = s.choice ∧
    (tractionArmed s).pending = s.pending := by
  simp [tractionArmed]

@[simp] theorem tractionRestored_frame (s : State) :
    (tractionRestored s).vsc = s.vsc ∧ (tractionRestored s).scn = s.scn ∧ (tractionRestored s).sup = s.sup ∧
    (tractionRestored s).stc = s.stc ∧ (tractionRestored s).pgc = s.pgc ∧ (tractionRestored s).wch = s.wch ∧
    (tractionRestored s).ltc = s.ltc ∧ (tractionRestored s).lmx = s.lmx ∧ (tractionRestored s).nq = s.nq ∧
    (tractionRestored s).lnk = s.lnk ∧ (tractionRestored s).cfg = s.cfg ∧
    (tractionRestored s).choice = s.choice ∧ (tractionRestored s).pending = s.pending := by
  simp [tractionRestored]

@[simp] theorem tractionFailsafe_frame (s : State) :
    (tractionFailsafe s).vsc = s.vsc ∧ (tractionFailsafe s).sup = s.sup ∧ (tractionFailsafe s).pgc = s.pgc ∧
    (tractionFailsafe s).wch = s.wch ∧ (tractionFailsafe s).lmx = s.lmx ∧ (tractionFailsafe s).nq = s.nq ∧
    (tractionFailsafe s).lnk = s.lnk ∧ (tractionFailsafe s).cfg = s.cfg ∧
    (tractionFailsafe s).choice = s.choice ∧ (tractionFailsafe s).pending = s.pending := by
  simp [tractionFailsafe]

@[simp] theorem tractionShutdown_frame (s : State) :
    (tractionShutdown s).vsc = s.vsc ∧ (tractionShutdown s).sup = s.sup ∧ (tractionShutdown s).pgc = s.pgc ∧
    (tractionShutdown s).wch = s.wch ∧ (tractionShutdown s).lmx = s.lmx ∧ (tractionShutdown s).nq = s.nq ∧
    (tractionShutdown s).lnk = s.lnk ∧ (tractionShutdown s).cfg = s.cfg ∧
    (tractionShutdown s).choice = s.choice ∧ (tractionShutdown s).pending = s.pending := by
  simp [tractionShutdown]

@[simp] theorem tractionParked_frame (s : State) :
    (tractionParked s).vsc = s.vsc ∧ (tractionParked s).sup = s.sup ∧ (tractionParked s).pgc = s.pgc ∧
    (tractionParked s).wch = s.wch ∧ (tractionParked s).lmx = s.lmx ∧ (tractionParked s).nq = s.nq ∧
    (tractionParked s).lnk = s.lnk ∧ (tractionParked s).cfg = s.cfg ∧ (tractionParked s).choice = s.choice ∧
    (tractionParked s).pending = s.pending := by
  simp [tractionParked]

@[simp] theorem tractionForced_frame (s : State) :
    (tractionForced s).vsc = s.vsc ∧ (tractionForced s).sup = s.sup ∧ (tractionForced s).pgc = s.pgc ∧
    (tractionForced s).wch = s.wch ∧ (tractionForced s).lmx = s.lmx ∧ (tractionForced s).nq = s.nq ∧
    (tractionForced s).lnk = s.lnk ∧ (tractionForced s).cfg = s.cfg ∧ (tractionForced s).choice = s.choice ∧
    (tractionForced s).pending = s.pending := by
  simp [tractionForced]

@[simp] theorem tractionTripped_frame (s : State) :
    (tractionTripped s).vsc = s.vsc ∧ (tractionTripped s).sup = s.sup ∧ (tractionTripped s).pgc = s.pgc ∧
    (tractionTripped s).wch = s.wch ∧ (tractionTripped s).lmx = s.lmx ∧ (tractionTripped s).nq = s.nq ∧
    (tractionTripped s).lnk = s.lnk ∧ (tractionTripped s).cfg = s.cfg ∧
    (tractionTripped s).choice = s.choice ∧ (tractionTripped s).pending = s.pending := by
  simp [tractionTripped]

@[simp] theorem assistStart_frame (s : State) :
    (assistStart s).vsc = s.vsc ∧ (assistStart s).scn = s.scn ∧ (assistStart s).sup = s.sup ∧
    (assistStart s).stc = s.stc ∧ (assistStart s).pgc = s.pgc ∧ (assistStart s).wch = s.wch ∧
    (assistStart s).ltc = s.ltc ∧ (assistStart s).lmx = s.lmx ∧ (assistStart s).nq = s.nq ∧
    (assistStart s).lnk = s.lnk ∧ (assistStart s).cfg = s.cfg ∧ (assistStart s).choice = s.choice ∧
    (assistStart s).pending = s.pending := by
  simp [assistStart]

@[simp] theorem assistEnd_frame (s : State) :
    (assistEnd s).vsc = s.vsc ∧ (assistEnd s).scn = s.scn ∧ (assistEnd s).sup = s.sup ∧
    (assistEnd s).stc = s.stc ∧ (assistEnd s).pgc = s.pgc ∧ (assistEnd s).wch = s.wch ∧
    (assistEnd s).ltc = s.ltc ∧ (assistEnd s).lmx = s.lmx ∧ (assistEnd s).nq = s.nq ∧
    (assistEnd s).lnk = s.lnk ∧ (assistEnd s).cfg = s.cfg ∧ (assistEnd s).choice = s.choice ∧
    (assistEnd s).pending = s.pending := by
  simp [assistEnd]

end Sys2Proof.Machine
end

