-- ==== Sys2Proof/Laws/Parking.lean ====
section
/-! SUPPORT. What each operation of the entry to PARKED leaves alone, once for each, and what it can do. -/

namespace Sys2Proof.Machine

@[simp] theorem changeOp_frame (new : OpState) (cause : OpCause) (s : State) :
    (changeOp new cause s).scn = s.scn ∧ (changeOp new cause s).sup = s.sup ∧
    (changeOp new cause s).trc = s.trc ∧ (changeOp new cause s).stc = s.stc ∧
    (changeOp new cause s).wch = s.wch ∧ (changeOp new cause s).ltc = s.ltc ∧
    (changeOp new cause s).lmx = s.lmx ∧ (changeOp new cause s).lnk = s.lnk ∧
    (changeOp new cause s).cfg = s.cfg ∧ (changeOp new cause s).choice = s.choice ∧
    (changeOp new cause s).pending = s.pending ∧ (changeOp new cause s).pgc.store = s.pgc.store := by
  simp [changeOp]

@[simp] theorem parkClutch_frame (s : State) :
    (parkClutch s).vsc = s.vsc ∧ (parkClutch s).scn = s.scn ∧ (parkClutch s).sup = s.sup ∧
    (parkClutch s).trc = s.trc ∧ (parkClutch s).stc = s.stc ∧ (parkClutch s).pgc = s.pgc ∧
    (parkClutch s).ltc = s.ltc ∧ (parkClutch s).lmx = s.lmx ∧ (parkClutch s).nq = s.nq ∧
    (parkClutch s).lnk = s.lnk ∧ (parkClutch s).cfg = s.cfg ∧ (parkClutch s).choice = s.choice ∧
    (parkClutch s).pending = s.pending := by
  simp [parkClutch]

@[simp] theorem parkedActions_frame (s : State) :
    (parkedActions s).vsc = s.vsc ∧ (parkedActions s).sup = s.sup ∧ (parkedActions s).pgc = s.pgc ∧
    (parkedActions s).lmx = s.lmx ∧ (parkedActions s).nq = s.nq ∧ (parkedActions s).lnk = s.lnk ∧
    (parkedActions s).cfg = s.cfg ∧ (parkedActions s).choice = s.choice ∧
    (parkedActions s).pending = s.pending := by
  simp [parkedActions]

@[simp] theorem enterParked_frame (cause : OpCause) (s : State) :
    (enterParked cause s).sup = s.sup ∧ (enterParked cause s).lmx = s.lmx ∧
    (enterParked cause s).lnk = s.lnk ∧ (enterParked cause s).cfg = s.cfg ∧
    (enterParked cause s).choice = s.choice ∧ (enterParked cause s).pending = s.pending ∧
    (enterParked cause s).pgc.store = s.pgc.store := by
  simp [enterParked]

@[simp] theorem completionTest_frame (s : State) :
    (completionTest s).sup = s.sup ∧ (completionTest s).lmx = s.lmx ∧ (completionTest s).lnk = s.lnk ∧
    (completionTest s).cfg = s.cfg ∧ (completionTest s).choice = s.choice ∧
    (completionTest s).pending = s.pending ∧ (completionTest s).pgc.store = s.pgc.store := by
  refine ⟨?_, ?_, ?_, ?_, ?_, ?_, ?_⟩ <;> (unfold completionTest; (repeat' split) <;> simp)

end Sys2Proof.Machine
end

