-- ==== Sys2Proof/Laws/Winch.lean ====
section
/-! SUPPORT. What each operation of the Winch Controller leaves alone, once for each, and what it can do. -/

namespace Sys2Proof.Machine

@[simp] theorem startClutch_frame (toward : ClutchState) (s : State) :
    (startClutch toward s).vsc = s.vsc ∧ (startClutch toward s).scn = s.scn ∧
    (startClutch toward s).sup = s.sup ∧ (startClutch toward s).trc = s.trc ∧
    (startClutch toward s).stc = s.stc ∧ (startClutch toward s).pgc = s.pgc ∧
    (startClutch toward s).ltc = s.ltc ∧ (startClutch toward s).lmx = s.lmx ∧
    (startClutch toward s).nq = s.nq ∧ (startClutch toward s).lnk = s.lnk ∧
    (startClutch toward s).cfg = s.cfg ∧ (startClutch toward s).choice = s.choice ∧
    (startClutch toward s).pending = s.pending := by
  refine ⟨?_, ?_, ?_, ?_, ?_, ?_, ?_, ?_, ?_, ?_, ?_, ?_, ?_⟩ <;> (unfold startClutch; (repeat' split) <;> simp)

@[simp] theorem clutchArmed_frame (s : State) :
    (clutchArmed s).vsc = s.vsc ∧ (clutchArmed s).scn = s.scn ∧ (clutchArmed s).sup = s.sup ∧
    (clutchArmed s).trc = s.trc ∧ (clutchArmed s).stc = s.stc ∧ (clutchArmed s).pgc = s.pgc ∧
    (clutchArmed s).ltc = s.ltc ∧ (clutchArmed s).lmx = s.lmx ∧ (clutchArmed s).nq = s.nq ∧
    (clutchArmed s).lnk = s.lnk ∧ (clutchArmed s).cfg = s.cfg ∧ (clutchArmed s).choice = s.choice ∧
    (clutchArmed s).pending = s.pending := by
  refine ⟨?_, ?_, ?_, ?_, ?_, ?_, ?_, ?_, ?_, ?_, ?_, ?_, ?_⟩ <;> (unfold clutchArmed; (repeat' split) <;> simp)

@[simp] theorem reportProgress_frame (s : State) :
    (reportProgress s).vsc = s.vsc ∧ (reportProgress s).scn = s.scn ∧ (reportProgress s).sup = s.sup ∧
    (reportProgress s).trc = s.trc ∧ (reportProgress s).stc = s.stc ∧ (reportProgress s).wch = s.wch ∧
    (reportProgress s).ltc = s.ltc ∧ (reportProgress s).lmx = s.lmx ∧ (reportProgress s).nq = s.nq ∧
    (reportProgress s).lnk = s.lnk ∧ (reportProgress s).cfg = s.cfg ∧ (reportProgress s).choice = s.choice ∧
    (reportProgress s).pending = s.pending ∧ (reportProgress s).pgc.store = s.pgc.store := by
  simp [reportProgress]

@[simp] theorem assistOff_frame (s : State) :
    (assistOff s).vsc = s.vsc ∧ (assistOff s).scn = s.scn ∧ (assistOff s).sup = s.sup ∧
    (assistOff s).stc = s.stc ∧ (assistOff s).pgc = s.pgc ∧ (assistOff s).ltc = s.ltc ∧
    (assistOff s).lmx = s.lmx ∧ (assistOff s).nq = s.nq ∧ (assistOff s).lnk = s.lnk ∧
    (assistOff s).cfg = s.cfg ∧ (assistOff s).choice = s.choice ∧ (assistOff s).pending = s.pending := by
  simp [assistOff]

@[simp] theorem setWinchDuty_frame (d : Nat) (s : State) :
    (setWinchDuty d s).vsc = s.vsc ∧ (setWinchDuty d s).sup = s.sup ∧ (setWinchDuty d s).trc = s.trc ∧
    (setWinchDuty d s).stc = s.stc ∧ (setWinchDuty d s).pgc = s.pgc ∧ (setWinchDuty d s).ltc = s.ltc ∧
    (setWinchDuty d s).lmx = s.lmx ∧ (setWinchDuty d s).nq = s.nq ∧ (setWinchDuty d s).lnk = s.lnk ∧
    (setWinchDuty d s).cfg = s.cfg ∧ (setWinchDuty d s).choice = s.choice ∧
    (setWinchDuty d s).pending = s.pending := by
  simp [setWinchDuty]

@[simp] theorem winchIdle_frame (s : State) :
    (winchIdle s).vsc = s.vsc ∧ (winchIdle s).sup = s.sup ∧ (winchIdle s).stc = s.stc ∧
    (winchIdle s).pgc = s.pgc ∧ (winchIdle s).ltc = s.ltc ∧ (winchIdle s).lmx = s.lmx ∧
    (winchIdle s).nq = s.nq ∧ (winchIdle s).lnk = s.lnk ∧ (winchIdle s).cfg = s.cfg ∧
    (winchIdle s).choice = s.choice ∧ (winchIdle s).pending = s.pending := by
  simp [winchIdle]

@[simp] theorem winchEnd_frame (cause : EndCause) (s : State) :
    (winchEnd cause s).vsc = s.vsc ∧ (winchEnd cause s).sup = s.sup ∧ (winchEnd cause s).stc = s.stc ∧
    (winchEnd cause s).ltc = s.ltc ∧ (winchEnd cause s).lmx = s.lmx ∧ (winchEnd cause s).lnk = s.lnk ∧
    (winchEnd cause s).cfg = s.cfg ∧ (winchEnd cause s).choice = s.choice ∧
    (winchEnd cause s).pending = s.pending ∧ (winchEnd cause s).pgc.store = s.pgc.store := by
  simp [winchEnd]

@[simp] theorem winchEnds_frame (cause : EndCause) (s : State) :
    (winchEnds cause s).sup = s.sup ∧ (winchEnds cause s).lmx = s.lmx ∧ (winchEnds cause s).lnk = s.lnk ∧
    (winchEnds cause s).cfg = s.cfg ∧ (winchEnds cause s).choice = s.choice ∧
    (winchEnds cause s).pending = s.pending ∧ (winchEnds cause s).pgc.store = s.pgc.store := by
  simp [winchEnds]

@[simp] theorem beginWinchStep_frame (r : WinchRec) (s : State) :
    (beginWinchStep r s).1.vsc = s.vsc ∧ (beginWinchStep r s).1.sup = s.sup ∧
    (beginWinchStep r s).1.stc = s.stc ∧ (beginWinchStep r s).1.pgc = s.pgc ∧
    (beginWinchStep r s).1.ltc = s.ltc ∧ (beginWinchStep r s).1.lmx = s.lmx ∧
    (beginWinchStep r s).1.nq = s.nq ∧ (beginWinchStep r s).1.lnk = s.lnk ∧
    (beginWinchStep r s).1.cfg = s.cfg ∧ (beginWinchStep r s).1.choice = s.choice ∧
    (beginWinchStep r s).1.pending = s.pending := by
  refine ⟨?_, ?_, ?_, ?_, ?_, ?_, ?_, ?_, ?_, ?_, ?_⟩ <;> (unfold beginWinchStep; (repeat' split) <;> simp)

@[simp] theorem waitForClutch_frame (s : State) :
    (waitForClutch s).vsc = s.vsc ∧ (waitForClutch s).sup = s.sup ∧ (waitForClutch s).stc = s.stc ∧
    (waitForClutch s).pgc = s.pgc ∧ (waitForClutch s).ltc = s.ltc ∧ (waitForClutch s).lmx = s.lmx ∧
    (waitForClutch s).nq = s.nq ∧ (waitForClutch s).lnk = s.lnk ∧ (waitForClutch s).cfg = s.cfg ∧
    (waitForClutch s).choice = s.choice ∧ (waitForClutch s).pending = s.pending := by
  simp [waitForClutch]

@[simp] theorem handWinch_frame (slot : Slot) (s : State) :
    (handWinch slot s).1.vsc = s.vsc ∧ (handWinch slot s).1.sup = s.sup ∧ (handWinch slot s).1.stc = s.stc ∧
    (handWinch slot s).1.pgc = s.pgc ∧ (handWinch slot s).1.ltc = s.ltc ∧ (handWinch slot s).1.lmx = s.lmx ∧
    (handWinch slot s).1.nq = s.nq ∧ (handWinch slot s).1.lnk = s.lnk ∧ (handWinch slot s).1.cfg = s.cfg ∧
    (handWinch slot s).1.choice = s.choice ∧ (handWinch slot s).1.pending = s.pending := by
  refine ⟨?_, ?_, ?_, ?_, ?_, ?_, ?_, ?_, ?_, ?_, ?_⟩ <;> (unfold handWinch; dsimp only; (repeat' split) <;> simp_all)

/-- What every part of a winch run keeps, the whole run keeps. -/
theorem runWinch_keeps {β : Type} (g : State → β) (ends : ∀ cause s, g (winchEnds cause s) = g s)
    (off : ∀ s, g (assistOff s) = g s) (unit : ∀ s f, g (s.modUnit 0 f) = g s)
    (hand : ∀ slot s, g (handWinch slot s).1 = g s) :
    ∀ fuel p, g (runWinch fuel p) = g p.1 := by
  intro fuel
  induction fuel with
  | zero => rintro ⟨s, _ | _ | c⟩ <;> simp [runWinch, ends]
  | succ n ih =>
    rintro ⟨s, _ | _ | c⟩
    · simp [runWinch]
    · simp only [runWinch]
      split
      · simp [ends, unit, off]
      · simp [ih, hand, passTo, unit, off]
    · simp [runWinch, ends]

@[simp] theorem settleWinch_frame (p : State × Verdict) :
    (settleWinch p).sup = p.1.sup ∧ (settleWinch p).lmx = p.1.lmx ∧ (settleWinch p).lnk = p.1.lnk ∧
    (settleWinch p).cfg = p.1.cfg ∧ (settleWinch p).choice = p.1.choice ∧
    (settleWinch p).pending = p.1.pending ∧ (settleWinch p).pgc.store = p.1.pgc.store := by
  unfold settleWinch
  refine ⟨runWinch_keeps (fun s => s.sup) ?_ ?_ ?_ ?_ _ _, runWinch_keeps (fun s => s.lmx) ?_ ?_ ?_ ?_ _ _,
    runWinch_keeps (fun s => s.lnk) ?_ ?_ ?_ ?_ _ _, runWinch_keeps (fun s => s.cfg) ?_ ?_ ?_ ?_ _ _,
    runWinch_keeps (fun s => s.choice) ?_ ?_ ?_ ?_ _ _, runWinch_keeps (fun s => s.pending) ?_ ?_ ?_ ?_ _ _,
    runWinch_keeps (fun s => s.pgc.store) ?_ ?_ ?_ ?_ _ _⟩ <;> simp

@[simp] theorem startWinch_frame (first : Slot) (s : State) :
    (startWinch first s).sup = s.sup ∧ (startWinch first s).lmx = s.lmx ∧ (startWinch first s).lnk = s.lnk ∧
    (startWinch first s).cfg = s.cfg ∧ (startWinch first s).choice = s.choice ∧
    (startWinch first s).pending = s.pending ∧ (startWinch first s).pgc.store = s.pgc.store := by
  simp [startWinch]

@[simp] theorem restartStall_frame (s : State) :
    (restartStall s).vsc = s.vsc ∧ (restartStall s).scn = s.scn ∧ (restartStall s).sup = s.sup ∧
    (restartStall s).trc = s.trc ∧ (restartStall s).stc = s.stc ∧ (restartStall s).pgc = s.pgc ∧
    (restartStall s).ltc = s.ltc ∧ (restartStall s).lmx = s.lmx ∧ (restartStall s).nq = s.nq ∧
    (restartStall s).lnk = s.lnk ∧ (restartStall s).cfg = s.cfg ∧ (restartStall s).choice = s.choice ∧
    (restartStall s).pending = s.pending := by
  refine ⟨?_, ?_, ?_, ?_, ?_, ?_, ?_, ?_, ?_, ?_, ?_, ?_, ?_⟩ <;> (unfold restartStall; (repeat' split) <;> simp)

@[simp] theorem movePosition_frame (p : Nat) (s : State) :
    (movePosition p s).vsc = s.vsc ∧ (movePosition p s).scn = s.scn ∧ (movePosition p s).sup = s.sup ∧
    (movePosition p s).trc = s.trc ∧ (movePosition p s).stc = s.stc ∧ (movePosition p s).ltc = s.ltc ∧
    (movePosition p s).lmx = s.lmx ∧ (movePosition p s).nq = s.nq ∧ (movePosition p s).lnk = s.lnk ∧
    (movePosition p s).cfg = s.cfg ∧ (movePosition p s).choice = s.choice ∧
    (movePosition p s).pending = s.pending ∧ (movePosition p s).pgc.store = s.pgc.store := by
  simp [movePosition]

@[simp] theorem pulseTests_frame (e : EndOn) (atLimit : Bool) (limitCause : EndCause) (s : State) :
    (pulseTests e atLimit limitCause s).sup = s.sup ∧ (pulseTests e atLimit limitCause s).lmx = s.lmx ∧
    (pulseTests e atLimit limitCause s).lnk = s.lnk ∧ (pulseTests e atLimit limitCause s).cfg = s.cfg ∧
    (pulseTests e atLimit limitCause s).choice = s.choice ∧
    (pulseTests e atLimit limitCause s).pending = s.pending ∧
    (pulseTests e atLimit limitCause s).pgc.store = s.pgc.store := by
  refine ⟨?_, ?_, ?_, ?_, ?_, ?_, ?_⟩ <;> (unfold pulseTests; (repeat' split) <;> simp)

@[simp] theorem pulseIn_frame (e : EndOn) (s : State) :
    (pulseIn e s).sup = s.sup ∧ (pulseIn e s).lmx = s.lmx ∧ (pulseIn e s).lnk = s.lnk ∧
    (pulseIn e s).cfg = s.cfg ∧ (pulseIn e s).choice = s.choice ∧ (pulseIn e s).pending = s.pending ∧
    (pulseIn e s).pgc.store = s.pgc.store := by
  simp [pulseIn]

@[simp] theorem pulseOut_frame (e : EndOn) (s : State) :
    (pulseOut e s).sup = s.sup ∧ (pulseOut e s).lmx = s.lmx ∧ (pulseOut e s).lnk = s.lnk ∧
    (pulseOut e s).cfg = s.cfg ∧ (pulseOut e s).choice = s.choice ∧ (pulseOut e s).pending = s.pending ∧
    (pulseOut e s).pgc.store = s.pgc.store := by
  simp [pulseOut]

@[simp] theorem drumPulse_frame (s : State) :
    (drumPulse s).sup = s.sup ∧ (drumPulse s).lmx = s.lmx ∧ (drumPulse s).lnk = s.lnk ∧
    (drumPulse s).cfg = s.cfg ∧ (drumPulse s).choice = s.choice ∧ (drumPulse s).pending = s.pending ∧
    (drumPulse s).pgc.store = s.pgc.store := by
  refine ⟨?_, ?_, ?_, ?_, ?_, ?_, ?_⟩ <;> (unfold drumPulse; (repeat' split) <;> simp)

@[simp] theorem fairleadChange_frame (s : State) :
    (fairleadChange s).sup = s.sup ∧ (fairleadChange s).lmx = s.lmx ∧ (fairleadChange s).lnk = s.lnk ∧
    (fairleadChange s).cfg = s.cfg ∧ (fairleadChange s).choice = s.choice ∧
    (fairleadChange s).pending = s.pending ∧ (fairleadChange s).pgc.store = s.pgc.store := by
  refine ⟨?_, ?_, ?_, ?_, ?_, ?_, ?_⟩ <;> (unfold fairleadChange; (repeat' split) <;> simp)

@[simp] theorem winchTimeFrame_frame (s : State) :
    (winchTimeFrame s).sup = s.sup ∧ (winchTimeFrame s).lmx = s.lmx ∧ (winchTimeFrame s).lnk = s.lnk ∧
    (winchTimeFrame s).cfg = s.cfg ∧ (winchTimeFrame s).choice = s.choice ∧
    (winchTimeFrame s).pending = s.pending ∧ (winchTimeFrame s).pgc.store = s.pgc.store := by
  refine ⟨?_, ?_, ?_, ?_, ?_, ?_, ?_⟩ <;> (unfold winchTimeFrame; dsimp only; (repeat' split) <;> simp_all)

@[simp] theorem winchRaise_frame (s : State) :
    (winchRaise s).vsc = s.vsc ∧ (winchRaise s).sup = s.sup ∧ (winchRaise s).trc = s.trc ∧
    (winchRaise s).stc = s.stc ∧ (winchRaise s).pgc = s.pgc ∧ (winchRaise s).ltc = s.ltc ∧
    (winchRaise s).lmx = s.lmx ∧ (winchRaise s).nq = s.nq ∧ (winchRaise s).lnk = s.lnk ∧
    (winchRaise s).cfg = s.cfg ∧ (winchRaise s).choice = s.choice ∧ (winchRaise s).pending = s.pending := by
  refine ⟨?_, ?_, ?_, ?_, ?_, ?_, ?_, ?_, ?_, ?_, ?_, ?_⟩ <;> (unfold winchRaise; (repeat' split) <;> simp)

@[simp] theorem winchFrame_frame (s : State) :
    (winchFrame s).sup = s.sup ∧ (winchFrame s).lmx = s.lmx ∧ (winchFrame s).lnk = s.lnk ∧
    (winchFrame s).cfg = s.cfg ∧ (winchFrame s).choice = s.choice ∧ (winchFrame s).pending = s.pending ∧
    (winchFrame s).pgc.store = s.pgc.store := by
  simp [winchFrame]

@[simp] theorem cutWinch_frame (s : State) :
    (cutWinch s).vsc = s.vsc ∧ (cutWinch s).sup = s.sup ∧ (cutWinch s).trc = s.trc ∧
    (cutWinch s).stc = s.stc ∧ (cutWinch s).pgc = s.pgc ∧ (cutWinch s).ltc = s.ltc ∧
    (cutWinch s).lmx = s.lmx ∧ (cutWinch s).nq = s.nq ∧ (cutWinch s).lnk = s.lnk ∧ (cutWinch s).cfg = s.cfg ∧
    (cutWinch s).choice = s.choice ∧ (cutWinch s).pending = s.pending := by
  refine ⟨?_, ?_, ?_, ?_, ?_, ?_, ?_, ?_, ?_, ?_, ?_, ?_⟩ <;> (unfold cutWinch; (repeat' split) <;> simp)

@[simp] theorem stallTiming_frame (s : State) :
    (stallTiming s).vsc = s.vsc ∧ (stallTiming s).scn = s.scn ∧ (stallTiming s).sup = s.sup ∧
    (stallTiming s).trc = s.trc ∧ (stallTiming s).stc = s.stc ∧ (stallTiming s).pgc = s.pgc ∧
    (stallTiming s).ltc = s.ltc ∧ (stallTiming s).lmx = s.lmx ∧ (stallTiming s).nq = s.nq ∧
    (stallTiming s).lnk = s.lnk ∧ (stallTiming s).cfg = s.cfg ∧ (stallTiming s).choice = s.choice ∧
    (stallTiming s).pending = s.pending := by
  simp [stallTiming]

@[simp] theorem winchCompletion_frame (s : State) :
    (winchCompletion s).sup = s.sup ∧ (winchCompletion s).lmx = s.lmx ∧ (winchCompletion s).lnk = s.lnk ∧
    (winchCompletion s).cfg = s.cfg ∧ (winchCompletion s).choice = s.choice ∧
    (winchCompletion s).pending = s.pending ∧ (winchCompletion s).pgc.store = s.pgc.store := by
  refine ⟨?_, ?_, ?_, ?_, ?_, ?_, ?_⟩ <;> (unfold winchCompletion; dsimp only; (repeat' split) <;> simp_all)

@[simp] theorem winchHalt_frame (cause : EndCause) (s : State) :
    (winchHalt cause s).sup = s.sup ∧ (winchHalt cause s).lmx = s.lmx ∧ (winchHalt cause s).lnk = s.lnk ∧
    (winchHalt cause s).cfg = s.cfg ∧ (winchHalt cause s).choice = s.choice ∧
    (winchHalt cause s).pending = s.pending ∧ (winchHalt cause s).pgc.store = s.pgc.store := by
  refine ⟨?_, ?_, ?_, ?_, ?_, ?_, ?_⟩ <;> (unfold winchHalt; (repeat' split) <;> simp)

@[simp] theorem winchKill_frame (cause : EndCause) (s : State) :
    (winchKill cause s).vsc = s.vsc ∧ (winchKill cause s).sup = s.sup ∧ (winchKill cause s).stc = s.stc ∧
    (winchKill cause s).ltc = s.ltc ∧ (winchKill cause s).lmx = s.lmx ∧ (winchKill cause s).lnk = s.lnk ∧
    (winchKill cause s).cfg = s.cfg ∧ (winchKill cause s).choice = s.choice ∧
    (winchKill cause s).pending = s.pending ∧ (winchKill cause s).pgc.store = s.pgc.store := by
  refine ⟨?_, ?_, ?_, ?_, ?_, ?_, ?_, ?_, ?_, ?_⟩ <;> (unfold winchKill; (repeat' split) <;> simp)

@[simp] theorem afterTravel_frame (s : State) :
    (afterTravel s).sup = s.sup ∧ (afterTravel s).lmx = s.lmx ∧ (afterTravel s).lnk = s.lnk ∧
    (afterTravel s).cfg = s.cfg ∧ (afterTravel s).choice = s.choice ∧ (afterTravel s).pending = s.pending ∧
    (afterTravel s).pgc.store = s.pgc.store := by
  refine ⟨?_, ?_, ?_, ?_, ?_, ?_, ?_⟩ <;> (unfold afterTravel; (repeat' split) <;> simp)

@[simp] theorem clutchArrives_frame (s : State) :
    (clutchArrives s).sup = s.sup ∧ (clutchArrives s).lmx = s.lmx ∧ (clutchArrives s).lnk = s.lnk ∧
    (clutchArrives s).cfg = s.cfg ∧ (clutchArrives s).choice = s.choice ∧
    (clutchArrives s).pending = s.pending ∧ (clutchArrives s).pgc.store = s.pgc.store := by
  simp [clutchArrives]

end Sys2Proof.Machine
end

