-- ==== Sys2Proof/Laws/Vehicle.lean ====
section
/-! SUPPORT. What each operation of the Vehicle State Controller leaves alone, once for each, and what it can do. -/

namespace Sys2Proof.Machine

@[simp] theorem enterArmed_frame (s : State) :
    (enterArmed s).sup = s.sup ∧ (enterArmed s).lmx = s.lmx ∧ (enterArmed s).lnk = s.lnk ∧
    (enterArmed s).cfg = s.cfg ∧ (enterArmed s).choice = s.choice ∧ (enterArmed s).pending = s.pending ∧
    (enterArmed s).pgc.store = s.pgc.store := by
  simp [enterArmed]

@[simp] theorem linkRestored_frame (s : State) :
    (linkRestored s).scn = s.scn ∧ (linkRestored s).sup = s.sup ∧ (linkRestored s).wch = s.wch ∧
    (linkRestored s).lmx = s.lmx ∧ (linkRestored s).lnk = s.lnk ∧ (linkRestored s).cfg = s.cfg ∧
    (linkRestored s).choice = s.choice ∧ (linkRestored s).pending = s.pending ∧
    (linkRestored s).pgc.store = s.pgc.store := by
  simp [linkRestored]

@[simp] theorem enterFailsafe_frame (s : State) :
    (enterFailsafe s).sup = s.sup ∧ (enterFailsafe s).lmx = s.lmx ∧ (enterFailsafe s).lnk = s.lnk ∧
    (enterFailsafe s).cfg = s.cfg ∧ (enterFailsafe s).choice = s.choice ∧
    (enterFailsafe s).pending = s.pending ∧ (enterFailsafe s).pgc.store = s.pgc.store := by
  simp [enterFailsafe]

@[simp] theorem beginShutdown_frame (origin : Origin) (cause : OpCause) (s : State) :
    (beginShutdown origin cause s).sup = s.sup ∧ (beginShutdown origin cause s).lmx = s.lmx ∧
    (beginShutdown origin cause s).lnk = s.lnk ∧ (beginShutdown origin cause s).cfg = s.cfg ∧
    (beginShutdown origin cause s).choice = s.choice ∧ (beginShutdown origin cause s).pending = s.pending ∧
    (beginShutdown origin cause s).pgc.store = s.pgc.store := by
  simp [beginShutdown]

@[simp] theorem secondExpiry_frame (s : State) :
    (secondExpiry s).sup = s.sup ∧ (secondExpiry s).lmx = s.lmx ∧ (secondExpiry s).lnk = s.lnk ∧
    (secondExpiry s).cfg = s.cfg ∧ (secondExpiry s).choice = s.choice ∧
    (secondExpiry s).pending = s.pending ∧ (secondExpiry s).pgc.store = s.pgc.store := by
  simp [secondExpiry]

@[simp] theorem enterTripped_frame (added : List TripCause) (first : TripCause) (s : State) :
    (enterTripped added first s).sup = s.sup ∧ (enterTripped added first s).lmx = s.lmx ∧
    (enterTripped added first s).lnk = s.lnk ∧ (enterTripped added first s).cfg = s.cfg ∧
    (enterTripped added first s).choice = s.choice ∧ (enterTripped added first s).pending = s.pending ∧
    (enterTripped added first s).pgc.store = s.pgc.store := by
  simp [enterTripped]

@[simp] theorem addCauses_frame (added : List TripCause) (s : State) :
    (addCauses added s).scn = s.scn ∧ (addCauses added s).sup = s.sup ∧ (addCauses added s).trc = s.trc ∧
    (addCauses added s).stc = s.stc ∧ (addCauses added s).wch = s.wch ∧ (addCauses added s).ltc = s.ltc ∧
    (addCauses added s).lmx = s.lmx ∧ (addCauses added s).lnk = s.lnk ∧ (addCauses added s).cfg = s.cfg ∧
    (addCauses added s).choice = s.choice ∧ (addCauses added s).pending = s.pending ∧
    (addCauses added s).pgc.store = s.pgc.store := by
  refine ⟨?_, ?_, ?_, ?_, ?_, ?_, ?_, ?_, ?_, ?_, ?_, ?_⟩ <;> (unfold addCauses; (repeat' split) <;> simp)

@[simp] theorem tripWith_frame (added : List TripCause) (s : State) :
    (tripWith added s).sup = s.sup ∧ (tripWith added s).lmx = s.lmx ∧ (tripWith added s).lnk = s.lnk ∧
    (tripWith added s).cfg = s.cfg ∧ (tripWith added s).choice = s.choice ∧
    (tripWith added s).pending = s.pending ∧ (tripWith added s).pgc.store = s.pgc.store := by
  refine ⟨?_, ?_, ?_, ?_, ?_, ?_, ?_⟩ <;> (unfold tripWith; (repeat' split) <;> simp)

@[simp] theorem assertShort_frame (b : Bridge) (s : State) :
    (assertShort b s).sup = s.sup ∧ (assertShort b s).lmx = s.lmx ∧ (assertShort b s).lnk = s.lnk ∧
    (assertShort b s).cfg = s.cfg ∧ (assertShort b s).choice = s.choice ∧
    (assertShort b s).pending = s.pending ∧ (assertShort b s).pgc.store = s.pgc.store := by
  simp [assertShort]

@[simp] theorem forceShutdown_frame (s : State) :
    (forceShutdown s).sup = s.sup ∧ (forceShutdown s).lmx = s.lmx ∧ (forceShutdown s).lnk = s.lnk ∧
    (forceShutdown s).cfg = s.cfg ∧ (forceShutdown s).choice = s.choice ∧
    (forceShutdown s).pending = s.pending ∧ (forceShutdown s).pgc.store = s.pgc.store := by
  simp [forceShutdown]

@[simp] theorem leaveTripped_frame (s : State) :
    (leaveTripped s).sup = s.sup ∧ (leaveTripped s).lmx = s.lmx ∧ (leaveTripped s).lnk = s.lnk ∧
    (leaveTripped s).cfg = s.cfg ∧ (leaveTripped s).choice = s.choice ∧
    (leaveTripped s).pending = s.pending ∧ (leaveTripped s).pgc.store = s.pgc.store := by
  simp [leaveTripped]

@[simp] theorem cutoffTest_frame (became : Bool) (s : State) :
    (cutoffTest became s).sup = s.sup ∧ (cutoffTest became s).lmx = s.lmx ∧
    (cutoffTest became s).lnk = s.lnk ∧ (cutoffTest became s).cfg = s.cfg ∧
    (cutoffTest became s).choice = s.choice ∧ (cutoffTest became s).pending = s.pending ∧
    (cutoffTest became s).pgc.store = s.pgc.store := by
  refine ⟨?_, ?_, ?_, ?_, ?_, ?_, ?_⟩ <;> (unfold cutoffTest; (repeat' split) <;> simp)

@[simp] theorem vehicleCompletion_frame (became : Bool) (s : State) :
    (vehicleCompletion became s).sup = s.sup ∧ (vehicleCompletion became s).lmx = s.lmx ∧
    (vehicleCompletion became s).lnk = s.lnk ∧ (vehicleCompletion became s).cfg = s.cfg ∧
    (vehicleCompletion became s).choice = s.choice ∧ (vehicleCompletion became s).pending = s.pending ∧
    (vehicleCompletion became s).pgc.store = s.pgc.store := by
  refine ⟨?_, ?_, ?_, ?_, ?_, ?_, ?_⟩ <;> (unfold vehicleCompletion; dsimp only; (repeat' split) <;> simp_all)

end Sys2Proof.Machine
end

