-- ==== Sys2Proof/Laws/Supply.lean ====
section
/-! SUPPORT. What each operation of the Supply Supervisor leaves alone, once for each, and what it can do. -/

namespace Sys2Proof.Machine

@[simp] theorem stageNotice_frame (old : Stage) (s : State) :
    (stageNotice old s).vsc = s.vsc ∧ (stageNotice old s).scn = s.scn ∧ (stageNotice old s).sup = s.sup ∧
    (stageNotice old s).trc = s.trc ∧ (stageNotice old s).stc = s.stc ∧ (stageNotice old s).wch = s.wch ∧
    (stageNotice old s).ltc = s.ltc ∧ (stageNotice old s).lmx = s.lmx ∧ (stageNotice old s).lnk = s.lnk ∧
    (stageNotice old s).cfg = s.cfg ∧ (stageNotice old s).choice = s.choice ∧
    (stageNotice old s).pending = s.pending ∧ (stageNotice old s).pgc.store = s.pgc.store := by
  refine ⟨?_, ?_, ?_, ?_, ?_, ?_, ?_, ?_, ?_, ?_, ?_, ?_, ?_⟩ <;> (unfold stageNotice; (repeat' split) <;> simp)

@[simp] theorem cutAndTest_frame (capFront capRear : Nat) (why : Limiter) (s : State) :
    (cutAndTest capFront capRear why s).sup = s.sup ∧ (cutAndTest capFront capRear why s).lmx = s.lmx ∧
    (cutAndTest capFront capRear why s).lnk = s.lnk ∧ (cutAndTest capFront capRear why s).cfg = s.cfg ∧
    (cutAndTest capFront capRear why s).choice = s.choice ∧
    (cutAndTest capFront capRear why s).pending = s.pending ∧
    (cutAndTest capFront capRear why s).pgc.store = s.pgc.store := by
  refine ⟨?_, ?_, ?_, ?_, ?_, ?_, ?_⟩ <;> (unfold cutAndTest; (repeat' split) <;> simp)

@[simp] theorem cutConsumers_frame (s : State) :
    (cutConsumers s).sup = s.sup ∧ (cutConsumers s).lmx = s.lmx ∧ (cutConsumers s).lnk = s.lnk ∧
    (cutConsumers s).cfg = s.cfg ∧ (cutConsumers s).choice = s.choice ∧
    (cutConsumers s).pending = s.pending ∧ (cutConsumers s).pgc.store = s.pgc.store := by
  simp [cutConsumers]

@[simp] theorem supplyCompletion_frame (s : State) :
    (supplyCompletion s).lmx = s.lmx ∧ (supplyCompletion s).lnk = s.lnk ∧ (supplyCompletion s).cfg = s.cfg ∧
    (supplyCompletion s).choice = s.choice ∧ (supplyCompletion s).pending = s.pending ∧
    (supplyCompletion s).pgc.store = s.pgc.store := by
  refine ⟨?_, ?_, ?_, ?_, ?_, ?_⟩ <;> (unfold supplyCompletion; dsimp only; (repeat' split) <;> simp_all)

end Sys2Proof.Machine
end

