-- ==== Sys2Proof/Laws/Lines.lean ====
section
/-! SUPPORT. What each operation of the Line Matrix leaves alone, once for each, and what it can do. -/

namespace Sys2Proof.Machine

@[simp] theorem sampleLines_frame (pins : PinLevels) (s : State) :
    (sampleLines pins s).vsc = s.vsc ∧ (sampleLines pins s).scn = s.scn ∧ (sampleLines pins s).sup = s.sup ∧
    (sampleLines pins s).trc = s.trc ∧ (sampleLines pins s).stc = s.stc ∧ (sampleLines pins s).pgc = s.pgc ∧
    (sampleLines pins s).wch = s.wch ∧ (sampleLines pins s).ltc = s.ltc ∧ (sampleLines pins s).nq = s.nq ∧
    (sampleLines pins s).lnk = s.lnk ∧ (sampleLines pins s).cfg = s.cfg ∧
    (sampleLines pins s).choice = s.choice ∧ (sampleLines pins s).pending = s.pending := by
  simp [sampleLines]

@[simp] theorem generalChange_frame (i : Fin 4) (s : State) :
    (generalChange i s).vsc = s.vsc ∧ (generalChange i s).scn = s.scn ∧ (generalChange i s).sup = s.sup ∧
    (generalChange i s).trc = s.trc ∧ (generalChange i s).stc = s.stc ∧ (generalChange i s).wch = s.wch ∧
    (generalChange i s).ltc = s.ltc ∧ (generalChange i s).lnk = s.lnk ∧ (generalChange i s).cfg = s.cfg ∧
    (generalChange i s).choice = s.choice ∧ (generalChange i s).pending = s.pending ∧
    (generalChange i s).pgc.store = s.pgc.store := by
  simp [generalChange]

@[simp] theorem handChange_frame (fn : LineFn) (level : Level) (i : Fin 4) (s : State) :
    (handChange fn level i s).sup = s.sup ∧ (handChange fn level i s).lnk = s.lnk ∧
    (handChange fn level i s).cfg = s.cfg ∧ (handChange fn level i s).choice = s.choice ∧
    (handChange fn level i s).pending = s.pending ∧ (handChange fn level i s).pgc.store = s.pgc.store := by
  refine ⟨?_, ?_, ?_, ?_, ?_, ?_⟩ <;> (unfold handChange; (repeat' split) <;> simp)

@[simp] theorem handOut_frame (before : State) (pins : PinLevels) (fn : LineFn) (s : State) :
    (handOut before pins fn s).sup = s.sup ∧ (handOut before pins fn s).lnk = s.lnk ∧
    (handOut before pins fn s).cfg = s.cfg ∧ (handOut before pins fn s).choice = s.choice ∧
    (handOut before pins fn s).pending = s.pending ∧ (handOut before pins fn s).pgc.store = s.pgc.store := by
  unfold handOut
  exact ⟨(foldl_keeps (fun s => s.sup) _ (fun _ _ => by split <;> simp) _ _).trans (by simp),
    (foldl_keeps (fun s => s.lnk) _ (fun _ _ => by split <;> simp) _ _).trans (by simp),
    (foldl_keeps (fun s => s.cfg) _ (fun _ _ => by split <;> simp) _ _).trans (by simp),
    (foldl_keeps (fun s => s.choice) _ (fun _ _ => by split <;> simp) _ _).trans (by simp),
    (foldl_keeps (fun s => s.pending) _ (fun _ _ => by split <;> simp) _ _).trans (by simp),
    (foldl_keeps (fun s => s.pgc.store) _ (fun _ _ => by split <;> simp) _ _).trans (by simp)⟩

@[simp] theorem linesFrame_frame (order : Order3) (pins : PinLevels) (s : State) :
    (linesFrame order pins s).sup = s.sup ∧ (linesFrame order pins s).lnk = s.lnk ∧
    (linesFrame order pins s).cfg = s.cfg ∧ (linesFrame order pins s).choice = s.choice ∧
    (linesFrame order pins s).pending = s.pending ∧ (linesFrame order pins s).pgc.store = s.pgc.store := by
  unfold linesFrame
  exact ⟨(runOrder_keeps (fun s => s.sup) _ _ _ _ (fun _ => by simp) (fun _ => by simp) (fun _ => by simp) _).trans (by simp),
    (runOrder_keeps (fun s => s.lnk) _ _ _ _ (fun _ => by simp) (fun _ => by simp) (fun _ => by simp) _).trans (by simp),
    (runOrder_keeps (fun s => s.cfg) _ _ _ _ (fun _ => by simp) (fun _ => by simp) (fun _ => by simp) _).trans (by simp),
    (runOrder_keeps (fun s => s.choice) _ _ _ _ (fun _ => by simp) (fun _ => by simp) (fun _ => by simp) _).trans (by simp),
    (runOrder_keeps (fun s => s.pending) _ _ _ _ (fun _ => by simp) (fun _ => by simp) (fun _ => by simp) _).trans (by simp),
    (runOrder_keeps (fun s => s.pgc.store) _ _ _ _ (fun _ => by simp) (fun _ => by simp) (fun _ => by simp) _).trans (by simp)⟩

@[simp] theorem assignLine_frame (i : Fin 4) (fn : LineFn) (s : State) :
    (assignLine i fn s).vsc = s.vsc ∧ (assignLine i fn s).scn = s.scn ∧ (assignLine i fn s).sup = s.sup ∧
    (assignLine i fn s).trc = s.trc ∧ (assignLine i fn s).stc = s.stc ∧ (assignLine i fn s).pgc = s.pgc ∧
    (assignLine i fn s).ltc = s.ltc ∧ (assignLine i fn s).nq = s.nq ∧ (assignLine i fn s).lnk = s.lnk ∧
    (assignLine i fn s).cfg = s.cfg ∧ (assignLine i fn s).choice = s.choice ∧
    (assignLine i fn s).pending = s.pending := by
  refine ⟨?_, ?_, ?_, ?_, ?_, ?_, ?_, ?_, ?_, ?_, ?_, ?_⟩ <;> (unfold assignLine; dsimp only; (repeat' split) <;> simp_all)

end Sys2Proof.Machine
end

