-- ==== Sys2Proof/Laws/Frames.lean ====
section
/-! SUPPORT. What each operation of the part's own events leaves alone, once for each, and what it can do. -/

namespace Sys2Proof.Machine

@[simp] theorem assistStep_frame (s : State) :
    (assistStep s).sup = s.sup ∧ (assistStep s).lmx = s.lmx ∧ (assistStep s).lnk = s.lnk ∧
    (assistStep s).cfg = s.cfg ∧ (assistStep s).choice = s.choice ∧ (assistStep s).pending = s.pending ∧
    (assistStep s).pgc.store = s.pgc.store := by
  refine ⟨?_, ?_, ?_, ?_, ?_, ?_, ?_⟩ <;> (unfold assistStep; (repeat' split) <;> simp)

@[simp] theorem supplyAndVehicle_frame (s : State) :
    (supplyAndVehicle s).lmx = s.lmx ∧ (supplyAndVehicle s).lnk = s.lnk ∧ (supplyAndVehicle s).cfg = s.cfg ∧
    (supplyAndVehicle s).choice = s.choice ∧ (supplyAndVehicle s).pending = s.pending ∧
    (supplyAndVehicle s).pgc.store = s.pgc.store := by
  simp [supplyAndVehicle]

@[simp] theorem completionEvent_frame (order : Order3) (s : State) :
    (completionEvent order s).lmx = s.lmx ∧ (completionEvent order s).lnk = s.lnk ∧
    (completionEvent order s).cfg = s.cfg ∧ (completionEvent order s).choice = s.choice ∧
    (completionEvent order s).pending = s.pending ∧ (completionEvent order s).pgc.store = s.pgc.store := by
  unfold completionEvent
  exact ⟨(runOrder_keeps (fun s => s.lmx) _ _ _ _ (fun _ => by simp) (fun _ => by simp) (fun _ => by simp) _).trans (by simp),
    (runOrder_keeps (fun s => s.lnk) _ _ _ _ (fun _ => by simp) (fun _ => by simp) (fun _ => by simp) _).trans (by simp),
    (runOrder_keeps (fun s => s.cfg) _ _ _ _ (fun _ => by simp) (fun _ => by simp) (fun _ => by simp) _).trans (by simp),
    (runOrder_keeps (fun s => s.choice) _ _ _ _ (fun _ => by simp) (fun _ => by simp) (fun _ => by simp) _).trans (by simp),
    (runOrder_keeps (fun s => s.pending) _ _ _ _ (fun _ => by simp) (fun _ => by simp) (fun _ => by simp) _).trans (by simp),
    (runOrder_keeps (fun s => s.pgc.store) _ _ _ _ (fun _ => by simp) (fun _ => by simp) (fun _ => by simp) _).trans (by simp)⟩

@[simp] theorem completeScan_frame (c : Scan) (s : State) :
    (completeScan c s).lmx = s.lmx ∧ (completeScan c s).lnk = s.lnk ∧ (completeScan c s).cfg = s.cfg ∧
    (completeScan c s).pending = s.pending ∧ (completeScan c s).pgc.store = s.pgc.store := by
  simp [completeScan]

@[simp] theorem conversionEnd_frame (code : Code) (s : State) :
    (conversionEnd code s).lmx = s.lmx ∧ (conversionEnd code s).lnk = s.lnk ∧
    (conversionEnd code s).cfg = s.cfg ∧ (conversionEnd code s).pending = s.pending ∧
    (conversionEnd code s).pgc.store = s.pgc.store := by
  refine ⟨?_, ?_, ?_, ?_, ?_⟩ <;> (unfold conversionEnd; dsimp only; (repeat' split) <;> simp_all)

@[simp] theorem bridgeTrigger_frame (b : Bridge) (s : State) :
    (bridgeTrigger b s).vsc = s.vsc ∧ (bridgeTrigger b s).sup = s.sup ∧ (bridgeTrigger b s).trc = s.trc ∧
    (bridgeTrigger b s).stc = s.stc ∧ (bridgeTrigger b s).pgc = s.pgc ∧ (bridgeTrigger b s).wch = s.wch ∧
    (bridgeTrigger b s).ltc = s.ltc ∧ (bridgeTrigger b s).lmx = s.lmx ∧ (bridgeTrigger b s).nq = s.nq ∧
    (bridgeTrigger b s).lnk = s.lnk ∧ (bridgeTrigger b s).cfg = s.cfg ∧
    (bridgeTrigger b s).choice = s.choice ∧ (bridgeTrigger b s).pending = s.pending := by
  refine ⟨?_, ?_, ?_, ?_, ?_, ?_, ?_, ?_, ?_, ?_, ?_, ?_, ?_⟩ <;> (unfold bridgeTrigger; (repeat' split) <;> simp)

@[simp] theorem watchExpiry_frame (s : State) :
    (watchExpiry s).vsc = s.vsc ∧ (watchExpiry s).sup = s.sup ∧ (watchExpiry s).trc = s.trc ∧
    (watchExpiry s).stc = s.stc ∧ (watchExpiry s).pgc = s.pgc ∧ (watchExpiry s).wch = s.wch ∧
    (watchExpiry s).ltc = s.ltc ∧ (watchExpiry s).lmx = s.lmx ∧ (watchExpiry s).nq = s.nq ∧
    (watchExpiry s).lnk = s.lnk ∧ (watchExpiry s).cfg = s.cfg ∧ (watchExpiry s).choice = s.choice ∧
    (watchExpiry s).pending = s.pending := by
  refine ⟨?_, ?_, ?_, ?_, ?_, ?_, ?_, ?_, ?_, ?_, ?_, ?_, ?_⟩ <;> (unfold watchExpiry; dsimp only; (repeat' split) <;> simp_all)

@[simp] theorem comparatorAsserts_frame (b : Bridge) (s : State) :
    (comparatorAsserts b s).sup = s.sup ∧ (comparatorAsserts b s).lmx = s.lmx ∧
    (comparatorAsserts b s).lnk = s.lnk ∧ (comparatorAsserts b s).cfg = s.cfg ∧
    (comparatorAsserts b s).choice = s.choice ∧ (comparatorAsserts b s).pending = s.pending ∧
    (comparatorAsserts b s).pgc.store = s.pgc.store := by
  refine ⟨?_, ?_, ?_, ?_, ?_, ?_, ?_⟩ <;> (unfold comparatorAsserts; (repeat' split) <;> simp)

@[simp] theorem comparatorDeasserts_frame (b : Bridge) (s : State) :
    (comparatorDeasserts b s).scn = s.scn ∧ (comparatorDeasserts b s).sup = s.sup ∧
    (comparatorDeasserts b s).trc = s.trc ∧ (comparatorDeasserts b s).stc = s.stc ∧
    (comparatorDeasserts b s).pgc = s.pgc ∧ (comparatorDeasserts b s).wch = s.wch ∧
    (comparatorDeasserts b s).ltc = s.ltc ∧ (comparatorDeasserts b s).lmx = s.lmx ∧
    (comparatorDeasserts b s).nq = s.nq ∧ (comparatorDeasserts b s).lnk = s.lnk ∧
    (comparatorDeasserts b s).cfg = s.cfg ∧ (comparatorDeasserts b s).choice = s.choice ∧
    (comparatorDeasserts b s).pending = s.pending := by
  simp [comparatorDeasserts]

@[simp] theorem holdExpiry_frame (s : State) :
    (holdExpiry s).sup = s.sup ∧ (holdExpiry s).lmx = s.lmx ∧ (holdExpiry s).lnk = s.lnk ∧
    (holdExpiry s).cfg = s.cfg ∧ (holdExpiry s).choice = s.choice ∧ (holdExpiry s).pending = s.pending ∧
    (holdExpiry s).pgc.store = s.pgc.store := by
  refine ⟨?_, ?_, ?_, ?_, ?_, ?_, ?_⟩ <;> (unfold holdExpiry; (repeat' split) <;> simp)

@[simp] theorem graceExpiry_frame (s : State) :
    (graceExpiry s).sup = s.sup ∧ (graceExpiry s).lmx = s.lmx ∧ (graceExpiry s).lnk = s.lnk ∧
    (graceExpiry s).cfg = s.cfg ∧ (graceExpiry s).choice = s.choice ∧ (graceExpiry s).pending = s.pending ∧
    (graceExpiry s).pgc.store = s.pgc.store := by
  refine ⟨?_, ?_, ?_, ?_, ?_, ?_, ?_⟩ <;> (unfold graceExpiry; (repeat' split) <;> simp)

@[simp] theorem driveFrameExpiry_frame (s : State) :
    (driveFrameExpiry s).sup = s.sup ∧ (driveFrameExpiry s).lmx = s.lmx ∧ (driveFrameExpiry s).lnk = s.lnk ∧
    (driveFrameExpiry s).cfg = s.cfg ∧ (driveFrameExpiry s).choice = s.choice ∧
    (driveFrameExpiry s).pending = s.pending ∧ (driveFrameExpiry s).pgc.store = s.pgc.store := by
  refine ⟨?_, ?_, ?_, ?_, ?_, ?_, ?_⟩ <;> (unfold driveFrameExpiry; (repeat' split) <;> simp)

@[simp] theorem servoFrameExpiry_frame (s : State) :
    (servoFrameExpiry s).vsc = s.vsc ∧ (servoFrameExpiry s).scn = s.scn ∧ (servoFrameExpiry s).sup = s.sup ∧
    (servoFrameExpiry s).trc = s.trc ∧ (servoFrameExpiry s).pgc = s.pgc ∧ (servoFrameExpiry s).ltc = s.ltc ∧
    (servoFrameExpiry s).lmx = s.lmx ∧ (servoFrameExpiry s).nq = s.nq ∧ (servoFrameExpiry s).lnk = s.lnk ∧
    (servoFrameExpiry s).cfg = s.cfg ∧ (servoFrameExpiry s).choice = s.choice ∧
    (servoFrameExpiry s).pending = s.pending := by
  simp [servoFrameExpiry]

@[simp] theorem relaxExpiry_frame (s : State) :
    (relaxExpiry s).vsc = s.vsc ∧ (relaxExpiry s).scn = s.scn ∧ (relaxExpiry s).sup = s.sup ∧
    (relaxExpiry s).trc = s.trc ∧ (relaxExpiry s).pgc = s.pgc ∧ (relaxExpiry s).wch = s.wch ∧
    (relaxExpiry s).ltc = s.ltc ∧ (relaxExpiry s).lmx = s.lmx ∧ (relaxExpiry s).nq = s.nq ∧
    (relaxExpiry s).lnk = s.lnk ∧ (relaxExpiry s).cfg = s.cfg ∧ (relaxExpiry s).choice = s.choice ∧
    (relaxExpiry s).pending = s.pending := by
  refine ⟨?_, ?_, ?_, ?_, ?_, ?_, ?_, ?_, ?_, ?_, ?_, ?_, ?_⟩ <;> (unfold relaxExpiry; (repeat' split) <;> simp)

@[simp] theorem clutchExpiry_frame (s : State) :
    (clutchExpiry s).sup = s.sup ∧ (clutchExpiry s).lmx = s.lmx ∧ (clutchExpiry s).lnk = s.lnk ∧
    (clutchExpiry s).cfg = s.cfg ∧ (clutchExpiry s).choice = s.choice ∧
    (clutchExpiry s).pending = s.pending ∧ (clutchExpiry s).pgc.store = s.pgc.store := by
  refine ⟨?_, ?_, ?_, ?_, ?_, ?_, ?_⟩ <;> (unfold clutchExpiry; (repeat' split) <;> simp)

@[simp] theorem stallExpiry_frame (s : State) :
    (stallExpiry s).sup = s.sup ∧ (stallExpiry s).lmx = s.lmx ∧ (stallExpiry s).lnk = s.lnk ∧
    (stallExpiry s).cfg = s.cfg ∧ (stallExpiry s).choice = s.choice ∧ (stallExpiry s).pending = s.pending ∧
    (stallExpiry s).pgc.store = s.pgc.store := by
  refine ⟨?_, ?_, ?_, ?_, ?_, ?_, ?_⟩ <;> (unfold stallExpiry; (repeat' split) <;> simp)

@[simp] theorem lightFrame_frame (blocks changes : Order3) (pins : PinLevels) (s : State) :
    (lightFrame blocks changes pins s).sup = s.sup ∧ (lightFrame blocks changes pins s).lnk = s.lnk ∧
    (lightFrame blocks changes pins s).cfg = s.cfg ∧ (lightFrame blocks changes pins s).choice = s.choice ∧
    (lightFrame blocks changes pins s).pending = s.pending ∧
    (lightFrame blocks changes pins s).pgc.store = s.pgc.store := by
  unfold lightFrame
  exact ⟨(runOrder_keeps (fun s => s.sup) _ _ _ _ (fun _ => by simp) (fun _ => by simp) (fun _ => by simp) _).trans (by simp),
    (runOrder_keeps (fun s => s.lnk) _ _ _ _ (fun _ => by simp) (fun _ => by simp) (fun _ => by simp) _).trans (by simp),
    (runOrder_keeps (fun s => s.cfg) _ _ _ _ (fun _ => by simp) (fun _ => by simp) (fun _ => by simp) _).trans (by simp),
    (runOrder_keeps (fun s => s.choice) _ _ _ _ (fun _ => by simp) (fun _ => by simp) (fun _ => by simp) _).trans (by simp),
    (runOrder_keeps (fun s => s.pending) _ _ _ _ (fun _ => by simp) (fun _ => by simp) (fun _ => by simp) _).trans (by simp),
    (runOrder_keeps (fun s => s.pgc.store) _ _ _ _ (fun _ => by simp) (fun _ => by simp) (fun _ => by simp) _).trans (by simp)⟩

@[simp] theorem lightFrameExpiry_frame (pins : PinLevels) (s : State) :
    (lightFrameExpiry pins s).sup = s.sup ∧ (lightFrameExpiry pins s).lnk = s.lnk ∧
    (lightFrameExpiry pins s).cfg = s.cfg ∧ (lightFrameExpiry pins s).pending = s.pending ∧
    (lightFrameExpiry pins s).pgc.store = s.pgc.store := by
  simp [lightFrameExpiry]

end Sys2Proof.Machine
end

