-- ==== Sys2Proof/Laws/Resets.lean ====
section
/-! SUPPORT. What each operation of the resets leaves alone, once for each, and what it can do. -/

namespace Sys2Proof.Machine

@[simp] theorem resetTo_frame (cfg : Settings) (store : Vector StepRec 128) (fns : Vector LineFn 4) (position : Nat) (old : OpState) (s : State) :
    (resetTo cfg store fns position old s).choice = s.choice ∧
    (resetTo cfg store fns position old s).pending = s.pending := by
  simp [resetTo]

@[simp] theorem assertedAtReset_frame (b : Bridge) (s : State) :
    (assertedAtReset b s).sup = s.sup ∧ (assertedAtReset b s).lmx = s.lmx ∧
    (assertedAtReset b s).lnk = s.lnk ∧ (assertedAtReset b s).cfg = s.cfg ∧
    (assertedAtReset b s).choice = s.choice ∧ (assertedAtReset b s).pending = s.pending ∧
    (assertedAtReset b s).pgc.store = s.pgc.store := by
  refine ⟨?_, ?_, ?_, ?_, ?_, ?_, ?_⟩ <;> (unfold assertedAtReset; (repeat' split) <;> simp)

@[simp] theorem assertionsAtReset_frame (s : State) :
    (assertionsAtReset s).sup = s.sup ∧ (assertionsAtReset s).lmx = s.lmx ∧
    (assertionsAtReset s).lnk = s.lnk ∧ (assertionsAtReset s).cfg = s.cfg ∧
    (assertionsAtReset s).pending = s.pending ∧ (assertionsAtReset s).pgc.store = s.pgc.store := by
  refine ⟨?_, ?_, ?_, ?_, ?_, ?_⟩ <;> unfold assertionsAtReset <;> split
  · exact (runOrder_keeps (fun s => s.sup) _ _ _ _ (fun _ => by simp) (fun _ => by simp) (fun _ => by simp) _).trans (by simp)
  · rfl
  · exact (runOrder_keeps (fun s => s.lmx) _ _ _ _ (fun _ => by simp) (fun _ => by simp) (fun _ => by simp) _).trans (by simp)
  · rfl
  · exact (runOrder_keeps (fun s => s.lnk) _ _ _ _ (fun _ => by simp) (fun _ => by simp) (fun _ => by simp) _).trans (by simp)
  · rfl
  · exact (runOrder_keeps (fun s => s.cfg) _ _ _ _ (fun _ => by simp) (fun _ => by simp) (fun _ => by simp) _).trans (by simp)
  · rfl
  · exact (runOrder_keeps (fun s => s.pending) _ _ _ _ (fun _ => by simp) (fun _ => by simp) (fun _ => by simp) _).trans (by simp)
  · rfl
  · exact (runOrder_keeps (fun s => s.pgc.store) _ _ _ _ (fun _ => by simp) (fun _ => by simp) (fun _ => by simp) _).trans (by simp)
  · rfl

@[simp] theorem fullReset_frame (s : State) :
    (fullReset s).pending = s.pending := by
  simp [fullReset]

@[simp] theorem softReset_frame (s : State) :
    (softReset s).pending = s.pending := by
  simp [softReset]

end Sys2Proof.Machine
end

