-- ==== Sys2Proof/Laws/Settings.lean ====
section
/-! SUPPORT. What each operation of the settings leaves alone, once for each, and what it can do. -/

namespace Sys2Proof.Machine

@[simp] theorem lineMaxSet_frame (s : State) :
    (lineMaxSet s).vsc = s.vsc ∧ (lineMaxSet s).scn = s.scn ∧ (lineMaxSet s).sup = s.sup ∧
    (lineMaxSet s).trc = s.trc ∧ (lineMaxSet s).stc = s.stc ∧ (lineMaxSet s).pgc = s.pgc ∧
    (lineMaxSet s).ltc = s.ltc ∧ (lineMaxSet s).lmx = s.lmx ∧ (lineMaxSet s).nq = s.nq ∧
    (lineMaxSet s).lnk = s.lnk ∧ (lineMaxSet s).cfg = s.cfg ∧ (lineMaxSet s).choice = s.choice ∧
    (lineMaxSet s).pending = s.pending := by
  simp [lineMaxSet]

@[simp] theorem plainChanged_frame (p : PlainId) (s : State) :
    (plainChanged p s).vsc = s.vsc ∧ (plainChanged p s).sup = s.sup ∧ (plainChanged p s).trc = s.trc ∧
    (plainChanged p s).pgc = s.pgc ∧ (plainChanged p s).lmx = s.lmx ∧ (plainChanged p s).nq = s.nq ∧
    (plainChanged p s).lnk = s.lnk ∧ (plainChanged p s).cfg = s.cfg ∧ (plainChanged p s).choice = s.choice ∧
    (plainChanged p s).pending = s.pending := by
  refine ⟨?_, ?_, ?_, ?_, ?_, ?_, ?_, ?_, ?_, ?_⟩ <;> (unfold plainChanged; (repeat' split) <;> simp)

@[simp] theorem axleChanged_frame (a : AxleId) (x : Axle) (s : State) :
    (axleChanged a x s).vsc = s.vsc ∧ (axleChanged a x s).scn = s.scn ∧ (axleChanged a x s).sup = s.sup ∧
    (axleChanged a x s).trc = s.trc ∧ (axleChanged a x s).pgc = s.pgc ∧ (axleChanged a x s).wch = s.wch ∧
    (axleChanged a x s).ltc = s.ltc ∧ (axleChanged a x s).lmx = s.lmx ∧ (axleChanged a x s).nq = s.nq ∧
    (axleChanged a x s).lnk = s.lnk ∧ (axleChanged a x s).cfg = s.cfg ∧
    (axleChanged a x s).choice = s.choice ∧ (axleChanged a x s).pending = s.pending := by
  refine ⟨?_, ?_, ?_, ?_, ?_, ?_, ?_, ?_, ?_, ?_, ?_, ?_, ?_⟩ <;> (unfold axleChanged; (repeat' split) <;> simp)

@[simp] theorem chanChanged_frame (k : ChanId) (c : Chan) (s : State) :
    (chanChanged k c s).vsc = s.vsc ∧ (chanChanged k c s).scn = s.scn ∧ (chanChanged k c s).sup = s.sup ∧
    (chanChanged k c s).trc = s.trc ∧ (chanChanged k c s).stc = s.stc ∧ (chanChanged k c s).pgc = s.pgc ∧
    (chanChanged k c s).wch = s.wch ∧ (chanChanged k c s).lmx = s.lmx ∧ (chanChanged k c s).nq = s.nq ∧
    (chanChanged k c s).lnk = s.lnk ∧ (chanChanged k c s).cfg = s.cfg ∧
    (chanChanged k c s).choice = s.choice ∧ (chanChanged k c s).pending = s.pending := by
  refine ⟨?_, ?_, ?_, ?_, ?_, ?_, ?_, ?_, ?_, ?_, ?_, ?_, ?_⟩ <;> (unfold chanChanged; (repeat' split) <;> simp)

@[simp] theorem settingChanged_frame (k : Key) (s : State) :
    (settingChanged k s).vsc = s.vsc ∧ (settingChanged k s).sup = s.sup ∧ (settingChanged k s).trc = s.trc ∧
    (settingChanged k s).pgc = s.pgc ∧ (settingChanged k s).lmx = s.lmx ∧ (settingChanged k s).nq = s.nq ∧
    (settingChanged k s).lnk = s.lnk ∧ (settingChanged k s).cfg = s.cfg ∧
    (settingChanged k s).choice = s.choice ∧ (settingChanged k s).pending = s.pending := by
  refine ⟨?_, ?_, ?_, ?_, ?_, ?_, ?_, ?_, ?_, ?_⟩ <;> (unfold settingChanged; (repeat' split) <;> simp)

@[simp] theorem storeSetting_frame (k : Key) (v : Nat) (s : State) :
    (storeSetting k v s).vsc = s.vsc ∧ (storeSetting k v s).sup = s.sup ∧ (storeSetting k v s).trc = s.trc ∧
    (storeSetting k v s).pgc = s.pgc ∧ (storeSetting k v s).lmx = s.lmx ∧ (storeSetting k v s).nq = s.nq ∧
    (storeSetting k v s).lnk = s.lnk ∧ (storeSetting k v s).choice = s.choice ∧
    (storeSetting k v s).pending = s.pending := by
  refine ⟨?_, ?_, ?_, ?_, ?_, ?_, ?_, ?_, ?_⟩ <;> (unfold storeSetting; (repeat' split) <;> simp)

end Sys2Proof.Machine
end

