-- ==== Sys2Proof/Laws/Requests.lean ====
section
/-! SUPPORT. What each operation of the request handlers leaves alone, once for each, and what it can do. -/

namespace Sys2Proof.Machine

@[simp] theorem onIdentify_frame (s : State) (p : List Byte) :
    (onIdentify s p).1.vsc = s.vsc ∧ (onIdentify s p).1.scn = s.scn ∧ (onIdentify s p).1.sup = s.sup ∧
    (onIdentify s p).1.trc = s.trc ∧ (onIdentify s p).1.stc = s.stc ∧ (onIdentify s p).1.pgc = s.pgc ∧
    (onIdentify s p).1.wch = s.wch ∧ (onIdentify s p).1.ltc = s.ltc ∧ (onIdentify s p).1.lmx = s.lmx ∧
    (onIdentify s p).1.nq = s.nq ∧ (onIdentify s p).1.lnk = s.lnk ∧ (onIdentify s p).1.cfg = s.cfg ∧
    (onIdentify s p).1.choice = s.choice ∧ (onIdentify s p).1.pending = s.pending := by
  refine ⟨?_, ?_, ?_, ?_, ?_, ?_, ?_, ?_, ?_, ?_, ?_, ?_, ?_, ?_⟩ <;> (unfold onIdentify; (repeat' split) <;> simp)

@[simp] theorem onStatus_frame (s : State) (p : List Byte) :
    (onStatus s p).1.vsc = s.vsc ∧ (onStatus s p).1.scn = s.scn ∧ (onStatus s p).1.sup = s.sup ∧
    (onStatus s p).1.trc = s.trc ∧ (onStatus s p).1.stc = s.stc ∧ (onStatus s p).1.pgc = s.pgc ∧
    (onStatus s p).1.wch = s.wch ∧ (onStatus s p).1.ltc = s.ltc ∧ (onStatus s p).1.lmx = s.lmx ∧
    (onStatus s p).1.nq = s.nq ∧ (onStatus s p).1.lnk = s.lnk ∧ (onStatus s p).1.cfg = s.cfg ∧
    (onStatus s p).1.choice = s.choice ∧ (onStatus s p).1.pending = s.pending := by
  refine ⟨?_, ?_, ?_, ?_, ?_, ?_, ?_, ?_, ?_, ?_, ?_, ?_, ?_, ?_⟩ <;> (unfold onStatus; (repeat' split) <;> simp)

@[simp] theorem onReset_frame (s : State) (p : List Byte) :
    (onReset s p).1.vsc = s.vsc ∧ (onReset s p).1.scn = s.scn ∧ (onReset s p).1.sup = s.sup ∧
    (onReset s p).1.trc = s.trc ∧ (onReset s p).1.stc = s.stc ∧ (onReset s p).1.pgc = s.pgc ∧
    (onReset s p).1.wch = s.wch ∧ (onReset s p).1.ltc = s.ltc ∧ (onReset s p).1.lmx = s.lmx ∧
    (onReset s p).1.nq = s.nq ∧ (onReset s p).1.lnk = s.lnk ∧ (onReset s p).1.cfg = s.cfg ∧
    (onReset s p).1.choice = s.choice ∧ (onReset s p).1.pending = s.pending := by
  refine ⟨?_, ?_, ?_, ?_, ?_, ?_, ?_, ?_, ?_, ?_, ?_, ?_, ?_, ?_⟩ <;> (unfold onReset; (repeat' split) <;> simp)

@[simp] theorem onGet_frame (s : State) (p : List Byte) :
    (onGet s p).1.vsc = s.vsc ∧ (onGet s p).1.scn = s.scn ∧ (onGet s p).1.sup = s.sup ∧
    (onGet s p).1.trc = s.trc ∧ (onGet s p).1.stc = s.stc ∧ (onGet s p).1.pgc = s.pgc ∧
    (onGet s p).1.wch = s.wch ∧ (onGet s p).1.ltc = s.ltc ∧ (onGet s p).1.lmx = s.lmx ∧
    (onGet s p).1.nq = s.nq ∧ (onGet s p).1.lnk = s.lnk ∧ (onGet s p).1.cfg = s.cfg ∧
    (onGet s p).1.choice = s.choice ∧ (onGet s p).1.pending = s.pending := by
  refine ⟨?_, ?_, ?_, ?_, ?_, ?_, ?_, ?_, ?_, ?_, ?_, ?_, ?_, ?_⟩ <;> (unfold onGet; (repeat' split) <;> simp)

@[simp] theorem onSet_frame (s : State) (p : List Byte) :
    (onSet s p).1.vsc = s.vsc ∧ (onSet s p).1.sup = s.sup ∧ (onSet s p).1.trc = s.trc ∧
    (onSet s p).1.pgc = s.pgc ∧ (onSet s p).1.lmx = s.lmx ∧ (onSet s p).1.nq = s.nq ∧
    (onSet s p).1.lnk = s.lnk ∧ (onSet s p).1.choice = s.choice ∧ (onSet s p).1.pending = s.pending := by
  refine ⟨?_, ?_, ?_, ?_, ?_, ?_, ?_, ?_, ?_⟩ <;> (unfold onSet; (repeat' split) <;> simp)

@[simp] theorem armParked_frame (s : State) :
    (armParked s).1.sup = s.sup ∧ (armParked s).1.lmx = s.lmx ∧ (armParked s).1.lnk = s.lnk ∧
    (armParked s).1.cfg = s.cfg ∧ (armParked s).1.choice = s.choice ∧ (armParked s).1.pending = s.pending ∧
    (armParked s).1.pgc.store = s.pgc.store := by
  refine ⟨?_, ?_, ?_, ?_, ?_, ?_, ?_⟩ <;> (unfold armParked; (repeat' split) <;> simp)

@[simp] theorem onArm_frame (s : State) (p : List Byte) :
    (onArm s p).1.sup = s.sup ∧ (onArm s p).1.lmx = s.lmx ∧ (onArm s p).1.lnk = s.lnk ∧
    (onArm s p).1.cfg = s.cfg ∧ (onArm s p).1.choice = s.choice ∧ (onArm s p).1.pending = s.pending ∧
    (onArm s p).1.pgc.store = s.pgc.store := by
  refine ⟨?_, ?_, ?_, ?_, ?_, ?_, ?_⟩ <;> (unfold onArm; (repeat' split) <;> simp)

@[simp] theorem parkTripped_frame (s : State) :
    (parkTripped s).1.sup = s.sup ∧ (parkTripped s).1.lmx = s.lmx ∧ (parkTripped s).1.lnk = s.lnk ∧
    (parkTripped s).1.cfg = s.cfg ∧ (parkTripped s).1.choice = s.choice ∧
    (parkTripped s).1.pending = s.pending ∧ (parkTripped s).1.pgc.store = s.pgc.store := by
  refine ⟨?_, ?_, ?_, ?_, ?_, ?_, ?_⟩ <;> (unfold parkTripped; (repeat' split) <;> simp)

@[simp] theorem onPark_frame (s : State) (p : List Byte) :
    (onPark s p).1.sup = s.sup ∧ (onPark s p).1.lmx = s.lmx ∧ (onPark s p).1.lnk = s.lnk ∧
    (onPark s p).1.cfg = s.cfg ∧ (onPark s p).1.choice = s.choice ∧ (onPark s p).1.pending = s.pending ∧
    (onPark s p).1.pgc.store = s.pgc.store := by
  refine ⟨?_, ?_, ?_, ?_, ?_, ?_, ?_⟩ <;> (unfold onPark; (repeat' split) <;> simp)

@[simp] theorem driveReturns_frame (s : State) :
    (driveReturns s).scn = s.scn ∧ (driveReturns s).sup = s.sup ∧ (driveReturns s).wch = s.wch ∧
    (driveReturns s).lmx = s.lmx ∧ (driveReturns s).lnk = s.lnk ∧ (driveReturns s).cfg = s.cfg ∧
    (driveReturns s).choice = s.choice ∧ (driveReturns s).pending = s.pending ∧
    (driveReturns s).pgc.store = s.pgc.store := by
  refine ⟨?_, ?_, ?_, ?_, ?_, ?_, ?_, ?_, ?_⟩ <;> (unfold driveReturns; (repeat' split) <;> simp)

@[simp] theorem driveKeepsAlive_frame (throttle : Int) (s : State) :
    (driveKeepsAlive throttle s).scn = s.scn ∧ (driveKeepsAlive throttle s).sup = s.sup ∧
    (driveKeepsAlive throttle s).trc = s.trc ∧ (driveKeepsAlive throttle s).stc = s.stc ∧
    (driveKeepsAlive throttle s).pgc = s.pgc ∧ (driveKeepsAlive throttle s).wch = s.wch ∧
    (driveKeepsAlive throttle s).ltc = s.ltc ∧ (driveKeepsAlive throttle s).lmx = s.lmx ∧
    (driveKeepsAlive throttle s).nq = s.nq ∧ (driveKeepsAlive throttle s).lnk = s.lnk ∧
    (driveKeepsAlive throttle s).cfg = s.cfg ∧ (driveKeepsAlive throttle s).choice = s.choice ∧
    (driveKeepsAlive throttle s).pending = s.pending := by
  simp [driveKeepsAlive]

@[simp] theorem driveTraction_frame (throttle : Int) (dig : Dig) (s : State) :
    (driveTraction throttle dig s).vsc = s.vsc ∧ (driveTraction throttle dig s).scn = s.scn ∧
    (driveTraction throttle dig s).sup = s.sup ∧ (driveTraction throttle dig s).stc = s.stc ∧
    (driveTraction throttle dig s).pgc = s.pgc ∧ (driveTraction throttle dig s).wch = s.wch ∧
    (driveTraction throttle dig s).ltc = s.ltc ∧ (driveTraction throttle dig s).lmx = s.lmx ∧
    (driveTraction throttle dig s).nq = s.nq ∧ (driveTraction throttle dig s).lnk = s.lnk ∧
    (driveTraction throttle dig s).cfg = s.cfg ∧ (driveTraction throttle dig s).choice = s.choice ∧
    (driveTraction throttle dig s).pending = s.pending := by
  simp [driveTraction]

@[simp] theorem driveTaken_frame (throttle steer : Int) (dig : Dig) (s : State) :
    (driveTaken throttle steer dig s).scn = s.scn ∧ (driveTaken throttle steer dig s).sup = s.sup ∧
    (driveTaken throttle steer dig s).wch = s.wch ∧ (driveTaken throttle steer dig s).lmx = s.lmx ∧
    (driveTaken throttle steer dig s).lnk = s.lnk ∧ (driveTaken throttle steer dig s).cfg = s.cfg ∧
    (driveTaken throttle steer dig s).choice = s.choice ∧
    (driveTaken throttle steer dig s).pending = s.pending ∧
    (driveTaken throttle steer dig s).pgc.store = s.pgc.store := by
  simp [driveTaken]

@[simp] theorem onDrive_frame (s : State) (p : List Byte) :
    (onDrive s p).1.scn = s.scn ∧ (onDrive s p).1.sup = s.sup ∧ (onDrive s p).1.wch = s.wch ∧
    (onDrive s p).1.lmx = s.lmx ∧ (onDrive s p).1.lnk = s.lnk ∧ (onDrive s p).1.cfg = s.cfg ∧
    (onDrive s p).1.choice = s.choice ∧ (onDrive s p).1.pending = s.pending ∧
    (onDrive s p).1.pgc.store = s.pgc.store := by
  refine ⟨?_, ?_, ?_, ?_, ?_, ?_, ?_, ?_, ?_⟩ <;> (unfold onDrive; (repeat' split) <;> simp)

@[simp] theorem onSteerMode_frame (s : State) (p : List Byte) :
    (onSteerMode s p).1.vsc = s.vsc ∧ (onSteerMode s p).1.scn = s.scn ∧ (onSteerMode s p).1.sup = s.sup ∧
    (onSteerMode s p).1.trc = s.trc ∧ (onSteerMode s p).1.pgc = s.pgc ∧ (onSteerMode s p).1.wch = s.wch ∧
    (onSteerMode s p).1.ltc = s.ltc ∧ (onSteerMode s p).1.lmx = s.lmx ∧ (onSteerMode s p).1.nq = s.nq ∧
    (onSteerMode s p).1.lnk = s.lnk ∧ (onSteerMode s p).1.cfg = s.cfg ∧
    (onSteerMode s p).1.choice = s.choice ∧ (onSteerMode s p).1.pending = s.pending := by
  refine ⟨?_, ?_, ?_, ?_, ?_, ?_, ?_, ?_, ?_, ?_, ?_, ?_, ?_⟩ <;> (unfold onSteerMode; (repeat' split) <;> simp)

@[simp] theorem onSetLight_frame (s : State) (p : List Byte) :
    (onSetLight s p).1.vsc = s.vsc ∧ (onSetLight s p).1.scn = s.scn ∧ (onSetLight s p).1.sup = s.sup ∧
    (onSetLight s p).1.trc = s.trc ∧ (onSetLight s p).1.stc = s.stc ∧ (onSetLight s p).1.pgc = s.pgc ∧
    (onSetLight s p).1.wch = s.wch ∧ (onSetLight s p).1.lmx = s.lmx ∧ (onSetLight s p).1.nq = s.nq ∧
    (onSetLight s p).1.lnk = s.lnk ∧ (onSetLight s p).1.cfg = s.cfg ∧ (onSetLight s p).1.choice = s.choice ∧
    (onSetLight s p).1.pending = s.pending := by
  refine ⟨?_, ?_, ?_, ?_, ?_, ?_, ?_, ?_, ?_, ?_, ?_, ?_, ?_⟩ <;> (unfold onSetLight; (repeat' split) <;> simp)

@[simp] theorem writeSteps_frame (first : Nat) (records : List StepRec) (s : State) :
    (writeSteps first records s).vsc = s.vsc ∧ (writeSteps first records s).scn = s.scn ∧
    (writeSteps first records s).sup = s.sup ∧ (writeSteps first records s).trc = s.trc ∧
    (writeSteps first records s).stc = s.stc ∧ (writeSteps first records s).wch = s.wch ∧
    (writeSteps first records s).ltc = s.ltc ∧ (writeSteps first records s).lmx = s.lmx ∧
    (writeSteps first records s).nq = s.nq ∧ (writeSteps first records s).lnk = s.lnk ∧
    (writeSteps first records s).cfg = s.cfg ∧ (writeSteps first records s).choice = s.choice ∧
    (writeSteps first records s).pending = s.pending := by
  simp [writeSteps]

@[simp] theorem storeRecords_frame (s : State) (first : Nat) (records : List (Option StepRec)) :
    (storeRecords s first records).1.vsc = s.vsc ∧ (storeRecords s first records).1.scn = s.scn ∧
    (storeRecords s first records).1.sup = s.sup ∧ (storeRecords s first records).1.trc = s.trc ∧
    (storeRecords s first records).1.stc = s.stc ∧ (storeRecords s first records).1.wch = s.wch ∧
    (storeRecords s first records).1.ltc = s.ltc ∧ (storeRecords s first records).1.lmx = s.lmx ∧
    (storeRecords s first records).1.nq = s.nq ∧ (storeRecords s first records).1.lnk = s.lnk ∧
    (storeRecords s first records).1.cfg = s.cfg ∧ (storeRecords s first records).1.choice = s.choice ∧
    (storeRecords s first records).1.pending = s.pending := by
  refine ⟨?_, ?_, ?_, ?_, ?_, ?_, ?_, ?_, ?_, ?_, ?_, ?_, ?_⟩ <;> (unfold storeRecords; (repeat' split) <;> simp)

@[simp] theorem onStoreSteps_frame (s : State) (p : List Byte) :
    (onStoreSteps s p).1.vsc = s.vsc ∧ (onStoreSteps s p).1.scn = s.scn ∧ (onStoreSteps s p).1.sup = s.sup ∧
    (onStoreSteps s p).1.trc = s.trc ∧ (onStoreSteps s p).1.stc = s.stc ∧ (onStoreSteps s p).1.wch = s.wch ∧
    (onStoreSteps s p).1.ltc = s.ltc ∧ (onStoreSteps s p).1.lmx = s.lmx ∧ (onStoreSteps s p).1.nq = s.nq ∧
    (onStoreSteps s p).1.lnk = s.lnk ∧ (onStoreSteps s p).1.cfg = s.cfg ∧
    (onStoreSteps s p).1.choice = s.choice ∧ (onStoreSteps s p).1.pending = s.pending := by
  refine ⟨?_, ?_, ?_, ?_, ?_, ?_, ?_, ?_, ?_, ?_, ?_, ?_, ?_⟩ <;> (unfold onStoreSteps; (repeat' split) <;> simp)

@[simp] theorem onReadSteps_frame (s : State) (p : List Byte) :
    (onReadSteps s p).1.vsc = s.vsc ∧ (onReadSteps s p).1.scn = s.scn ∧ (onReadSteps s p).1.sup = s.sup ∧
    (onReadSteps s p).1.trc = s.trc ∧ (onReadSteps s p).1.stc = s.stc ∧ (onReadSteps s p).1.pgc = s.pgc ∧
    (onReadSteps s p).1.wch = s.wch ∧ (onReadSteps s p).1.ltc = s.ltc ∧ (onReadSteps s p).1.lmx = s.lmx ∧
    (onReadSteps s p).1.nq = s.nq ∧ (onReadSteps s p).1.lnk = s.lnk ∧ (onReadSteps s p).1.cfg = s.cfg ∧
    (onReadSteps s p).1.choice = s.choice ∧ (onReadSteps s p).1.pending = s.pending := by
  refine ⟨?_, ?_, ?_, ?_, ?_, ?_, ?_, ?_, ?_, ?_, ?_, ?_, ?_, ?_⟩ <;> (unfold onReadSteps; (repeat' split) <;> simp)

@[simp] theorem startUnit_frame (u : UnitNo) (first : Slot) (slots : List Slot) (tag : Byte) (s : State) :
    (startUnit u first slots tag s).sup = s.sup ∧ (startUnit u first slots tag s).lmx = s.lmx ∧
    (startUnit u first slots tag s).lnk = s.lnk ∧ (startUnit u first slots tag s).cfg = s.cfg ∧
    (startUnit u first slots tag s).choice = s.choice ∧ (startUnit u first slots tag s).pending = s.pending ∧
    (startUnit u first slots tag s).pgc.store = s.pgc.store := by
  refine ⟨?_, ?_, ?_, ?_, ?_, ?_, ?_⟩ <;> (unfold startUnit; (repeat' split) <;> simp)

@[simp] theorem startIdle_frame (s : State) (u : UnitNo) (first : Slot) (tag : Byte) :
    (startIdle s u first tag).1.sup = s.sup ∧ (startIdle s u first tag).1.lmx = s.lmx ∧
    (startIdle s u first tag).1.lnk = s.lnk ∧ (startIdle s u first tag).1.cfg = s.cfg ∧
    (startIdle s u first tag).1.choice = s.choice ∧ (startIdle s u first tag).1.pending = s.pending ∧
    (startIdle s u first tag).1.pgc.store = s.pgc.store := by
  refine ⟨?_, ?_, ?_, ?_, ?_, ?_, ?_⟩ <;> (unfold startIdle; (repeat' split) <;> simp)

@[simp] theorem answerStatus_frame (s : State) (u : UnitNo) (e : EndingStatus) :
    (answerStatus s u e).1.vsc = s.vsc ∧ (answerStatus s u e).1.scn = s.scn ∧
    (answerStatus s u e).1.sup = s.sup ∧ (answerStatus s u e).1.trc = s.trc ∧
    (answerStatus s u e).1.stc = s.stc ∧ (answerStatus s u e).1.wch = s.wch ∧
    (answerStatus s u e).1.ltc = s.ltc ∧ (answerStatus s u e).1.lmx = s.lmx ∧
    (answerStatus s u e).1.lnk = s.lnk ∧ (answerStatus s u e).1.cfg = s.cfg ∧
    (answerStatus s u e).1.choice = s.choice ∧ (answerStatus s u e).1.pending = s.pending ∧
    (answerStatus s u e).1.pgc.store = s.pgc.store := by
  simp [answerStatus]

@[simp] theorem onStart_frame (s : State) (p : List Byte) :
    (onStart s p).1.sup = s.sup ∧ (onStart s p).1.lmx = s.lmx ∧ (onStart s p).1.lnk = s.lnk ∧
    (onStart s p).1.cfg = s.cfg ∧ (onStart s p).1.choice = s.choice ∧ (onStart s p).1.pending = s.pending ∧
    (onStart s p).1.pgc.store = s.pgc.store := by
  refine ⟨?_, ?_, ?_, ?_, ?_, ?_, ?_⟩ <;> (unfold onStart; (repeat' split) <;> simp)

@[simp] theorem onProbe_frame (s : State) (p : List Byte) :
    (onProbe s p).1.vsc = s.vsc ∧ (onProbe s p).1.scn = s.scn ∧ (onProbe s p).1.sup = s.sup ∧
    (onProbe s p).1.trc = s.trc ∧ (onProbe s p).1.stc = s.stc ∧ (onProbe s p).1.wch = s.wch ∧
    (onProbe s p).1.ltc = s.ltc ∧ (onProbe s p).1.lmx = s.lmx ∧ (onProbe s p).1.lnk = s.lnk ∧
    (onProbe s p).1.cfg = s.cfg ∧ (onProbe s p).1.choice = s.choice ∧ (onProbe s p).1.pending = s.pending ∧
    (onProbe s p).1.pgc.store = s.pgc.store := by
  refine ⟨?_, ?_, ?_, ?_, ?_, ?_, ?_, ?_, ?_, ?_, ?_, ?_, ?_⟩ <;> (unfold onProbe; (repeat' split) <;> simp)

@[simp] theorem haltChannel_frame (c : Chan) (s : State) :
    (haltChannel c s).vsc = s.vsc ∧ (haltChannel c s).scn = s.scn ∧ (haltChannel c s).sup = s.sup ∧
    (haltChannel c s).trc = s.trc ∧ (haltChannel c s).stc = s.stc ∧ (haltChannel c s).wch = s.wch ∧
    (haltChannel c s).lmx = s.lmx ∧ (haltChannel c s).lnk = s.lnk ∧ (haltChannel c s).cfg = s.cfg ∧
    (haltChannel c s).choice = s.choice + 1 ∧ (haltChannel c s).pending = s.pending ∧
    (haltChannel c s).pgc.store = s.pgc.store := by
  simp [haltChannel]

@[simp] theorem haltUnit_frame (u : UnitNo) (s : State) :
    (haltUnit u s).sup = s.sup ∧ (haltUnit u s).lmx = s.lmx ∧ (haltUnit u s).lnk = s.lnk ∧
    (haltUnit u s).cfg = s.cfg ∧ (haltUnit u s).pending = s.pending ∧
    (haltUnit u s).pgc.store = s.pgc.store := by
  refine ⟨?_, ?_, ?_, ?_, ?_, ?_⟩ <;> (unfold haltUnit; (repeat' split) <;> simp)

@[simp] theorem onHalt_frame (s : State) (p : List Byte) :
    (onHalt s p).1.sup = s.sup ∧ (onHalt s p).1.lmx = s.lmx ∧ (onHalt s p).1.lnk = s.lnk ∧
    (onHalt s p).1.cfg = s.cfg ∧ (onHalt s p).1.pending = s.pending ∧
    (onHalt s p).1.pgc.store = s.pgc.store := by
  refine ⟨?_, ?_, ?_, ?_, ?_, ?_⟩ <;> (unfold onHalt; (repeat' split) <;> simp)

@[simp] theorem onLineSet_frame (s : State) (p : List Byte) :
    (onLineSet s p).1.vsc = s.vsc ∧ (onLineSet s p).1.scn = s.scn ∧ (onLineSet s p).1.sup = s.sup ∧
    (onLineSet s p).1.trc = s.trc ∧ (onLineSet s p).1.stc = s.stc ∧ (onLineSet s p).1.pgc = s.pgc ∧
    (onLineSet s p).1.ltc = s.ltc ∧ (onLineSet s p).1.lmx = s.lmx ∧ (onLineSet s p).1.nq = s.nq ∧
    (onLineSet s p).1.lnk = s.lnk ∧ (onLineSet s p).1.cfg = s.cfg ∧ (onLineSet s p).1.choice = s.choice ∧
    (onLineSet s p).1.pending = s.pending := by
  refine ⟨?_, ?_, ?_, ?_, ?_, ?_, ?_, ?_, ?_, ?_, ?_, ?_, ?_⟩ <;> (unfold onLineSet; (repeat' split) <;> simp)

@[simp] theorem assignKnown_frame (s : State) (i : Fin 4) (fn : LineFn) :
    (assignKnown s i fn).1.vsc = s.vsc ∧ (assignKnown s i fn).1.scn = s.scn ∧
    (assignKnown s i fn).1.sup = s.sup ∧ (assignKnown s i fn).1.trc = s.trc ∧
    (assignKnown s i fn).1.stc = s.stc ∧ (assignKnown s i fn).1.pgc = s.pgc ∧
    (assignKnown s i fn).1.ltc = s.ltc ∧ (assignKnown s i fn).1.nq = s.nq ∧
    (assignKnown s i fn).1.lnk = s.lnk ∧ (assignKnown s i fn).1.cfg = s.cfg ∧
    (assignKnown s i fn).1.choice = s.choice ∧ (assignKnown s i fn).1.pending = s.pending := by
  refine ⟨?_, ?_, ?_, ?_, ?_, ?_, ?_, ?_, ?_, ?_, ?_, ?_⟩ <;> (unfold assignKnown; (repeat' split) <;> simp)

@[simp] theorem onAssignLine_frame (s : State) (p : List Byte) :
    (onAssignLine s p).1.vsc = s.vsc ∧ (onAssignLine s p).1.scn = s.scn ∧ (onAssignLine s p).1.sup = s.sup ∧
    (onAssignLine s p).1.trc = s.trc ∧ (onAssignLine s p).1.stc = s.stc ∧ (onAssignLine s p).1.pgc = s.pgc ∧
    (onAssignLine s p).1.ltc = s.ltc ∧ (onAssignLine s p).1.nq = s.nq ∧ (onAssignLine s p).1.lnk = s.lnk ∧
    (onAssignLine s p).1.cfg = s.cfg ∧ (onAssignLine s p).1.choice = s.choice ∧
    (onAssignLine s p).1.pending = s.pending := by
  refine ⟨?_, ?_, ?_, ?_, ?_, ?_, ?_, ?_, ?_, ?_, ?_, ?_⟩ <;> (unfold onAssignLine; (repeat' split) <;> simp)

@[simp] theorem afterTaking_frame (n : Notice) (s : State) :
    (afterTaking n s).vsc = s.vsc ∧ (afterTaking n s).scn = s.scn ∧ (afterTaking n s).sup = s.sup ∧
    (afterTaking n s).trc = s.trc ∧ (afterTaking n s).stc = s.stc ∧ (afterTaking n s).pgc = s.pgc ∧
    (afterTaking n s).wch = s.wch ∧ (afterTaking n s).ltc = s.ltc ∧ (afterTaking n s).nq = s.nq ∧
    (afterTaking n s).lnk = s.lnk ∧ (afterTaking n s).cfg = s.cfg ∧ (afterTaking n s).choice = s.choice ∧
    (afterTaking n s).pending = s.pending := by
  refine ⟨?_, ?_, ?_, ?_, ?_, ?_, ?_, ?_, ?_, ?_, ?_, ?_, ?_⟩ <;> (unfold afterTaking; (repeat' split) <;> simp)

@[simp] theorem onFetchNotice_frame (s : State) (p : List Byte) :
    (onFetchNotice s p).1.vsc = s.vsc ∧ (onFetchNotice s p).1.scn = s.scn ∧
    (onFetchNotice s p).1.sup = s.sup ∧ (onFetchNotice s p).1.trc = s.trc ∧
    (onFetchNotice s p).1.stc = s.stc ∧ (onFetchNotice s p).1.wch = s.wch ∧
    (onFetchNotice s p).1.ltc = s.ltc ∧ (onFetchNotice s p).1.lnk = s.lnk ∧
    (onFetchNotice s p).1.cfg = s.cfg ∧ (onFetchNotice s p).1.choice = s.choice ∧
    (onFetchNotice s p).1.pending = s.pending ∧ (onFetchNotice s p).1.pgc.store = s.pgc.store := by
  refine ⟨?_, ?_, ?_, ?_, ?_, ?_, ?_, ?_, ?_, ?_, ?_, ?_⟩ <;> (unfold onFetchNotice; (repeat' split) <;> simp)

end Sys2Proof.Machine
end

