-- ==== Sys2Proof/Laws/Link.lean ====
section
/-! SUPPORT. What each operation of the Link Interface leaves alone, once for each, and what it can do. -/

namespace Sys2Proof.Machine

/-- What every handler leaves alone. -/
@[simp] theorem Kind.handle_frame (k : Kind) (s : State) (p : List Byte) :
    (k.handle s p).1.sup = s.sup ∧ (k.handle s p).1.lnk = s.lnk ∧ (k.handle s p).1.pending = s.pending := by
  cases k <;> simp [Kind.handle]

@[simp] theorem answerFrame_frame (f : Frame) (s : State) :
    (answerFrame f s).1.sup = s.sup ∧ (answerFrame f s).1.lnk = s.lnk ∧
    (answerFrame f s).1.pending = s.pending := by
  refine ⟨?_, ?_, ?_⟩ <;> (unfold answerFrame; split <;> simp)

@[simp] theorem sendReply_frame (f : Frame) (p : State × Answer) :
    (sendReply f p).vsc = p.1.vsc ∧ (sendReply f p).scn = p.1.scn ∧ (sendReply f p).sup = p.1.sup ∧
    (sendReply f p).trc = p.1.trc ∧ (sendReply f p).stc = p.1.stc ∧ (sendReply f p).pgc = p.1.pgc ∧
    (sendReply f p).wch = p.1.wch ∧ (sendReply f p).ltc = p.1.ltc ∧ (sendReply f p).lmx = p.1.lmx ∧
    (sendReply f p).nq = p.1.nq ∧ (sendReply f p).cfg = p.1.cfg ∧ (sendReply f p).choice = p.1.choice ∧
    (sendReply f p).pending = p.1.pending := by
  simp [sendReply]

@[simp] theorem takeRequest_frame (f : Frame) (s : State) :
    (takeRequest f s).sup = s.sup ∧ (takeRequest f s).pending = s.pending := by
  simp [takeRequest]

@[simp] theorem frameArrives_frame (f : Frame) (s : State) :
    (frameArrives f s).sup = s.sup ∧ (frameArrives f s).pending = s.pending := by
  refine ⟨?_, ?_⟩ <;> (unfold frameArrives; dsimp only; (repeat' split) <;> simp_all)

@[simp] theorem nextRequest_frame (s : State) :
    (nextRequest s).sup = s.sup ∧ (nextRequest s).pending = s.pending := by
  refine ⟨?_, ?_⟩ <;> (unfold nextRequest; (repeat' split) <;> simp)

@[simp] theorem replySent_frame (s : State) :
    (replySent s).pending = s.pending := by
  (unfold replySent; (repeat' split) <;> simp)

@[simp] theorem discardFrame_frame (s : State) :
    (discardFrame s).vsc = s.vsc ∧ (discardFrame s).scn = s.scn ∧ (discardFrame s).sup = s.sup ∧
    (discardFrame s).trc = s.trc ∧ (discardFrame s).stc = s.stc ∧ (discardFrame s).pgc = s.pgc ∧
    (discardFrame s).wch = s.wch ∧ (discardFrame s).ltc = s.ltc ∧ (discardFrame s).lmx = s.lmx ∧
    (discardFrame s).nq = s.nq ∧ (discardFrame s).cfg = s.cfg ∧ (discardFrame s).choice = s.choice ∧
    (discardFrame s).pending = s.pending := by
  simp [discardFrame]

@[simp] theorem huntByte_frame (b : Byte) (s : State) :
    (huntByte b s).vsc = s.vsc ∧ (huntByte b s).scn = s.scn ∧ (huntByte b s).sup = s.sup ∧
    (huntByte b s).trc = s.trc ∧ (huntByte b s).stc = s.stc ∧ (huntByte b s).pgc = s.pgc ∧
    (huntByte b s).wch = s.wch ∧ (huntByte b s).ltc = s.ltc ∧ (huntByte b s).lmx = s.lmx ∧
    (huntByte b s).nq = s.nq ∧ (huntByte b s).cfg = s.cfg ∧ (huntByte b s).choice = s.choice ∧
    (huntByte b s).pending = s.pending := by
  refine ⟨?_, ?_, ?_, ?_, ?_, ?_, ?_, ?_, ?_, ?_, ?_, ?_, ?_⟩ <;> (unfold huntByte; (repeat' split) <;> simp)

@[simp] theorem lengthByte_frame (b : Byte) (s : State) :
    (lengthByte b s).vsc = s.vsc ∧ (lengthByte b s).scn = s.scn ∧ (lengthByte b s).sup = s.sup ∧
    (lengthByte b s).trc = s.trc ∧ (lengthByte b s).stc = s.stc ∧ (lengthByte b s).pgc = s.pgc ∧
    (lengthByte b s).wch = s.wch ∧ (lengthByte b s).ltc = s.ltc ∧ (lengthByte b s).lmx = s.lmx ∧
    (lengthByte b s).nq = s.nq ∧ (lengthByte b s).cfg = s.cfg ∧ (lengthByte b s).choice = s.choice ∧
    (lengthByte b s).pending = s.pending := by
  refine ⟨?_, ?_, ?_, ?_, ?_, ?_, ?_, ?_, ?_, ?_, ?_, ?_, ?_⟩ <;> (unfold lengthByte; (repeat' split) <;> simp)

@[simp] theorem bodyByte_frame (b : Byte) (s : State) :
    (bodyByte b s).vsc = s.vsc ∧ (bodyByte b s).scn = s.scn ∧ (bodyByte b s).sup = s.sup ∧
    (bodyByte b s).trc = s.trc ∧ (bodyByte b s).stc = s.stc ∧ (bodyByte b s).pgc = s.pgc ∧
    (bodyByte b s).wch = s.wch ∧ (bodyByte b s).ltc = s.ltc ∧ (bodyByte b s).lmx = s.lmx ∧
    (bodyByte b s).nq = s.nq ∧ (bodyByte b s).cfg = s.cfg ∧ (bodyByte b s).choice = s.choice ∧
    (bodyByte b s).pending = s.pending := by
  simp [bodyByte]

@[simp] theorem checkByte_frame (b : Byte) (s : State) :
    (checkByte b s).sup = s.sup ∧ (checkByte b s).pending = s.pending := by
  refine ⟨?_, ?_⟩ <;> (unfold checkByte; (repeat' split) <;> simp)

@[simp] theorem byteIn_frame (b : Byte) (s : State) :
    (byteIn b s).sup = s.sup ∧ (byteIn b s).pending = s.pending := by
  refine ⟨?_, ?_⟩ <;> (unfold byteIn; (repeat' split) <;> simp)

@[simp] theorem receive_frame (rx : RxByte) (s : State) :
    (receive rx s).sup = s.sup ∧ (receive rx s).pending = s.pending := by
  refine ⟨?_, ?_⟩ <;> (unfold receive; (repeat' split) <;> simp)

@[simp] theorem gapExpiry_frame (s : State) :
    (gapExpiry s).vsc = s.vsc ∧ (gapExpiry s).scn = s.scn ∧ (gapExpiry s).sup = s.sup ∧
    (gapExpiry s).trc = s.trc ∧ (gapExpiry s).stc = s.stc ∧ (gapExpiry s).pgc = s.pgc ∧
    (gapExpiry s).wch = s.wch ∧ (gapExpiry s).ltc = s.ltc ∧ (gapExpiry s).lmx = s.lmx ∧
    (gapExpiry s).nq = s.nq ∧ (gapExpiry s).cfg = s.cfg ∧ (gapExpiry s).choice = s.choice ∧
    (gapExpiry s).pending = s.pending := by
  refine ⟨?_, ?_, ?_, ?_, ?_, ?_, ?_, ?_, ?_, ?_, ?_, ?_, ?_⟩ <;> (unfold gapExpiry; (repeat' split) <;> simp)

end Sys2Proof.Machine
end

