-- ==== Sys2Proof/Laws/PerInstr.lean ====
section
/-! SUPPORT. Statements about every command, made one constructor at a time. -/

namespace Sys2Proof.Laws

/-- 10 R169: a well-formed command's payload fits a frame. -/
def PayloadFits.Statement (i : Instr) : Prop := i.wellFormed = true → i.payload.length ≤ 64

/-- The first check of a well-formed command. -/
theorem payload_le_of_wellFormed (i : Instr) : PayloadFits.Statement i := by
  intro h
  simp only [Instr.wellFormed, Bool.and_eq_true] at h
  exact of_decide_eq_true h.1

theorem PayloadFits.fullReset : PayloadFits.Statement .fullReset := payload_le_of_wellFormed _
theorem PayloadFits.softReset : PayloadFits.Statement .softReset := payload_le_of_wellFormed _
theorem PayloadFits.identify (tag : Byte) (payload : List Byte) : PayloadFits.Statement (.identify tag payload) := payload_le_of_wellFormed _
theorem PayloadFits.status (tag : Byte) (payload : List Byte) : PayloadFits.Statement (.status tag payload) := payload_le_of_wellFormed _
theorem PayloadFits.reset (tag : Byte) (payload : List Byte) : PayloadFits.Statement (.reset tag payload) := payload_le_of_wellFormed _
theorem PayloadFits.get (tag : Byte) (payload : List Byte) : PayloadFits.Statement (.get tag payload) := payload_le_of_wellFormed _
theorem PayloadFits.set (tag : Byte) (payload : List Byte) : PayloadFits.Statement (.set tag payload) := payload_le_of_wellFormed _
theorem PayloadFits.arm (tag : Byte) (payload : List Byte) : PayloadFits.Statement (.arm tag payload) := payload_le_of_wellFormed _
theorem PayloadFits.park (tag : Byte) (payload : List Byte) : PayloadFits.Statement (.park tag payload) := payload_le_of_wellFormed _
theorem PayloadFits.drive (tag : Byte) (payload : List Byte) : PayloadFits.Statement (.drive tag payload) := payload_le_of_wellFormed _
theorem PayloadFits.steerMode (tag : Byte) (payload : List Byte) : PayloadFits.Statement (.steerMode tag payload) := payload_le_of_wellFormed _
theorem PayloadFits.setLight (tag : Byte) (payload : List Byte) : PayloadFits.Statement (.setLight tag payload) := payload_le_of_wellFormed _
theorem PayloadFits.storeSteps (tag : Byte) (payload : List Byte) : PayloadFits.Statement (.storeSteps tag payload) := payload_le_of_wellFormed _
theorem PayloadFits.readSteps (tag : Byte) (payload : List Byte) : PayloadFits.Statement (.readSteps tag payload) := payload_le_of_wellFormed _
theorem PayloadFits.start (tag : Byte) (payload : List Byte) : PayloadFits.Statement (.start tag payload) := payload_le_of_wellFormed _
theorem PayloadFits.probe (tag : Byte) (payload : List Byte) : PayloadFits.Statement (.probe tag payload) := payload_le_of_wellFormed _
theorem PayloadFits.halt (tag : Byte) (payload : List Byte) : PayloadFits.Statement (.halt tag payload) := payload_le_of_wellFormed _
theorem PayloadFits.lineSet (tag : Byte) (payload : List Byte) : PayloadFits.Statement (.lineSet tag payload) := payload_le_of_wellFormed _
theorem PayloadFits.assignLine (tag : Byte) (payload : List Byte) : PayloadFits.Statement (.assignLine tag payload) := payload_le_of_wellFormed _
theorem PayloadFits.fetchNotice (tag : Byte) (payload : List Byte) : PayloadFits.Statement (.fetchNotice tag payload) := payload_le_of_wellFormed _
theorem PayloadFits.unknownKindRequest (kind : Byte) (tag : Byte) (payload : List Byte) : PayloadFits.Statement (.unknownKindRequest kind tag payload) := payload_le_of_wellFormed _
theorem PayloadFits.frameHeld (kind : Byte) (tag : Byte) (payload : List Byte) : PayloadFits.Statement (.frameHeld kind tag payload) := payload_le_of_wellFormed _
theorem PayloadFits.frameDiscard (rx : RxByte) : PayloadFits.Statement (.frameDiscard rx) := payload_le_of_wellFormed _
theorem PayloadFits.byteGapExpiry : PayloadFits.Statement .byteGapExpiry := payload_le_of_wellFormed _
theorem PayloadFits.replySent : PayloadFits.Statement .replySent := payload_le_of_wellFormed _
theorem PayloadFits.conversionEnd (code : Code) : PayloadFits.Statement (.conversionEnd code) := payload_le_of_wellFormed _
theorem PayloadFits.bridgeTriggerArrival (bridge : Bridge) : PayloadFits.Statement (.bridgeTriggerArrival bridge) := payload_le_of_wellFormed _
theorem PayloadFits.watchIntervalExpiry : PayloadFits.Statement .watchIntervalExpiry := payload_le_of_wellFormed _
theorem PayloadFits.shortComparatorAssert (bridge : Bridge) : PayloadFits.Statement (.shortComparatorAssert bridge) := payload_le_of_wellFormed _
theorem PayloadFits.shortComparatorDeassert (bridge : Bridge) : PayloadFits.Statement (.shortComparatorDeassert bridge) := payload_le_of_wellFormed _
theorem PayloadFits.holdExpiry : PayloadFits.Statement .holdExpiry := payload_le_of_wellFormed _
theorem PayloadFits.graceExpiry : PayloadFits.Statement .graceExpiry := payload_le_of_wellFormed _
theorem PayloadFits.driveFrameExpiry : PayloadFits.Statement .driveFrameExpiry := payload_le_of_wellFormed _
theorem PayloadFits.servoFrameExpiry : PayloadFits.Statement .servoFrameExpiry := payload_le_of_wellFormed _
theorem PayloadFits.relaxTimerExpiry : PayloadFits.Statement .relaxTimerExpiry := payload_le_of_wellFormed _
theorem PayloadFits.clutchTravelExpiry : PayloadFits.Statement .clutchTravelExpiry := payload_le_of_wellFormed _
theorem PayloadFits.lightFrameExpiry (pins : PinLevels) : PayloadFits.Statement (.lightFrameExpiry pins) := payload_le_of_wellFormed _
theorem PayloadFits.stallTimerExpiry : PayloadFits.Statement .stallTimerExpiry := payload_le_of_wellFormed _
theorem PayloadFits.byteReceived (byte : Byte) : PayloadFits.Statement (.byteReceived byte) := payload_le_of_wellFormed _

end Sys2Proof.Laws
end

