-- ==== Sys2Proof/Laws/Specs.lean ====
section
/-! SUPPORT. For the operations that many meanings share: everything that each can do, said once, so that a
proof cites these and does not unfold the operation. -/

namespace Sys2Proof.Machine

/-! ## The notice queue (09 R160, R161, R163) -/

/-- R160: an offer updates an entry in place, appends one, displaces the oldest ending status, or (at a full
list without one) does nothing. -/
theorem offer_cases (o : Offer) (s : State) :
    (∃ q, updateInPlace o s.nq = some q ∧ offer o s = s.modNq fun _ => q) ∨
    (updateInPlace o s.nq = none ∧ s.nq.length < 8 ∧ offer o s = s.modNq fun _ => s.nq ++ [o.fresh]) ∨
    (∃ e q, updateInPlace o s.nq = none ∧ 8 ≤ s.nq.length ∧ displaceEnded s.nq = some (e, q) ∧
      offer o s = (s.modUnit e.unit fun x => { x with stacked := some e }).modNq fun _ => q ++ [o.fresh]) ∨
    (updateInPlace o s.nq = none ∧ 8 ≤ s.nq.length ∧ displaceEnded s.nq = none ∧ offer o s = s) := by
  unfold offer
  split
  · exact .inl ⟨_, ‹_›, rfl⟩
  · split
    · exact .inr (.inl ⟨‹_›, ‹_›, rfl⟩)
    · rename_i hn hl
      have hl : 8 ≤ s.nq.length := Nat.le_of_not_lt hl
      split
      · exact .inr (.inr (.inl ⟨_, _, hn, hl, ‹_›, rfl⟩))
      · exact .inr (.inr (.inr ⟨hn, hl, ‹_›, rfl⟩))

/-- Where an offer updates an entry, the list before and after it. -/
theorem updateInPlace_some {o : Offer} {q q' : List Notice} (h : updateInPlace o q = some q') :
    ∃ before n n' after, q = before ++ n :: after ∧ q' = before ++ n' :: after ∧ o.update n = some n' ∧
      ∀ m ∈ before, o.update m = none := by
  induction q generalizing q' with
  | nil => simp [updateInPlace] at h
  | cons n rest ih =>
    unfold updateInPlace at h
    split at h
    · cases h
      exact ⟨[], n, _, rest, rfl, rfl, ‹_›, by simp⟩
    · simp only [Option.map_eq_some_iff] at h
      obtain ⟨r, hr, rfl⟩ := h
      obtain ⟨b, m, m', a, rfl, rfl, hm, hb⟩ := ih hr
      exact ⟨n :: b, m, m', a, rfl, rfl, hm, by
        intro x hx; cases hx with
        | head => assumption
        | tail _ hx => exact hb x hx⟩

/-- Where an offer updates no entry, no entry is of its kind. -/
theorem updateInPlace_none {o : Offer} {q : List Notice} (h : updateInPlace o q = none) :
    ∀ n ∈ q, o.update n = none := by
  induction q with
  | nil => simp
  | cons n rest ih =>
    unfold updateInPlace at h
    split at h
    · cases h
    · simp only [Option.map_eq_none_iff] at h
      intro x hx
      cases hx with
      | head => assumption
      | tail _ hx => exact ih h x hx

/-- The entry that a full list gives up, with the list before and after it. -/
theorem displaceEnded_some {q q' : List Notice} {e : EndingStatus} (h : displaceEnded q = some (e, q')) :
    ∃ before after, q = before ++ .unitEnded e :: after ∧ q' = before ++ after ∧
      ∀ m ∈ before, ∀ e', m ≠ .unitEnded e' := by
  induction q generalizing q' with
  | nil => simp [displaceEnded] at h
  | cons n rest ih =>
    unfold displaceEnded at h
    split at h
    · cases ‹_ = []›
    · rename_i heq; cases heq; cases h
      exact ⟨[], _, rfl, rfl, by simp⟩
    · rename_i m r hne heq
      cases heq
      simp only [Option.map_eq_some_iff, Prod.mk.injEq] at h
      obtain ⟨⟨e', r'⟩, hr, rfl, rfl⟩ := h
      obtain ⟨b, a, rfl, rfl, hb⟩ := ih hr
      exact ⟨n :: b, a, rfl, rfl, by
        intro x hx; cases hx with
        | head => exact fun e' h => hne e' h
        | tail _ hx => exact hb x hx⟩

/-- R161: an ending status is appended or stacked. -/
theorem offerEnding_cases (e : EndingStatus) (s : State) :
    (s.nq.length < 8 ∧ offerEnding e s = s.modNq fun _ => s.nq ++ [.unitEnded e]) ∨
    (8 ≤ s.nq.length ∧ offerEnding e s = s.modUnit e.unit fun x => { x with stacked := some e }) := by
  unfold offerEnding
  split
  · exact .inl ⟨‹_›, rfl⟩
  · exact .inr ⟨Nat.le_of_not_lt ‹_›, rfl⟩

/-- R163: an outstanding status leaves the queue if it is queued, else its unit's context. -/
theorem takeOutstanding_cases (u : UnitNo) (s : State) :
    (∃ e, queuedEnding u s.nq = some e ∧ takeOutstanding u s = s.modNq (removeEnding u)) ∨
    (queuedEnding u s.nq = none ∧
      takeOutstanding u s = s.modUnit u fun x => { x with stacked := none }) := by
  unfold takeOutstanding
  split
  · exact .inl ⟨_, ‹_›, rfl⟩
  · exact .inr ⟨‹_›, rfl⟩

/-! ## Ends of units (06 R119, 07 R140) -/

/-- R119: the ending of a unit: the use counts of its walked set fall, its context is IDLE, and its status is
offered. -/
theorem endUnit_eq (u : UnitNo) (cause : EndCause) (residual finalPos : Nat) (s : State) :
    endUnit u cause residual finalPos s =
      offerEnding
        { unit := u, cause := cause, lastSlot := (s.unit u).current, residual := residual,
          loops := loopsRemaining s (s.unit u), finalPos := finalPos, tag := (s.unit u).tag }
        ((s.modPgc fun p => { p with useCount := changeUse (s.unit u).walked (· - 1) p.useCount }).modUnit u
          fun y => { y with state := .idle, haltCause := none }) := rfl

/-- R108: a use count after a change over a list of slots. -/
@[simp] theorem getElem_changeUse (slots : List Slot) (f : Nat → Nat) (v : Vector Nat 128) (i : Slot) :
    (changeUse slots f v)[i] = if i ∈ slots then f v[i] else v[i] := by
  simp [changeUse]

/-- R140: WCH's record after an ending. -/
theorem winchIdle_wch (s : State) :
    (winchIdle s).wch =
      { s.wch with state := .idle, stall := none, step := none, assist := false, applied := 0 } := by
  simp [winchIdle, setWinchDuty, assistOff]

/-- R140: an ending of the winch program leaves WCH idle and keeps its clutch, position and counts. -/
theorem winchEnd_wch (cause : EndCause) (s : State) :
    (winchEnd cause s).wch =
      { s.wch with state := .idle, stall := none, step := none, assist := false, applied := 0 } := by
  unfold winchEnd
  dsimp only
  rw [winchIdle_wch]
  simp

/-! ## Changes of operating state (01 R2, R13) -/

/-- R2: the operating state changes; nothing else of VSC's record does. -/
theorem changeOp_vsc (new : OpState) (cause : OpCause) (s : State) :
    (changeOp new cause s).vsc = { s.vsc with op := new } := by simp [changeOp]

/-- R13: the completion test parks the part, or does nothing. -/
theorem completionTest_cases (s : State) :
    (s.vsc.op = .shuttingDown ∧ shutdownDone s = true ∧
      completionTest s = enterParked .shutdownComplete s) ∨
    ((s.vsc.op ≠ .shuttingDown ∨ shutdownDone s = false) ∧ completionTest s = s) := by
  unfold completionTest
  split
  · rename_i h; exact .inl ⟨h.1, h.2, rfl⟩
  · rename_i h
    refine .inr ⟨?_, rfl⟩
    by_cases ho : s.vsc.op = .shuttingDown
    · exact .inr (by simpa [ho] using h)
    · exact .inl ho

/-- R16: the operating state after an entry to PARKED. -/
theorem enterParked_op (cause : OpCause) (s : State) : (enterParked cause s).vsc.op = .parked := by
  simp [enterParked, changeOp_vsc]

/-- Three changes made in an order: all three are made. -/
theorem runOrder_cases (o : Order3) (a b c : State → State) (s : State) :
    runOrder o a b c s = c (b (a s)) ∨ runOrder o a b c s = b (c (a s)) ∨
    runOrder o a b c s = c (a (b s)) ∨ runOrder o a b c s = a (c (b s)) ∨
    runOrder o a b c s = b (a (c s)) ∨ runOrder o a b c s = a (b (c s)) := by
  cases o <;> simp [runOrder]

/-! ## Waits, the clutch and halts (02 R26, 07 R127, 06 R116, R117) -/

/-- R26: a published duty of 0 ends the wait for its bridge, and nothing else changes. -/
theorem endWaitOnZero_cases (s : State) :
    (∃ b, s.scn.wait = some b ∧ s.duty b = 0 ∧
      endWaitOnZero s = s.modScn fun n => { n with wait := none }) ∨
    ((∀ b, s.scn.wait = some b → s.duty b ≠ 0) ∧ endWaitOnZero s = s) := by
  cases h : s.scn.wait with
  | none => exact .inr ⟨by simp, by simp [endWaitOnZero, h]⟩
  | some b =>
    by_cases hd : s.duty b = 0
    · exact .inl ⟨b, rfl, hd, by simp [endWaitOnZero, h, hd]⟩
    · exact .inr ⟨by simpa using hd, by simp [endWaitOnZero, h, hd]⟩

/-- R127: a clutch move starts, unless one is in progress. -/
theorem startClutch_cases (toward : ClutchState) (s : State) :
    (s.wch.clutch.moving = true ∧ startClutch toward s = s) ∨
    (s.wch.clutch.moving = false ∧ startClutch toward s = s.modWch fun w =>
      { w with clutch := if toward = .freed then .movingToFree else .movingToEngage,
               clutchTimer := some s.cfg.wch.clutchTime }) := by
  cases h : s.wch.clutch.moving <;> simp [startClutch, h]

/-- R116, R117: a halt ends a RUNNING winch unit whose clutch is still, makes one whose clutch moves HALTING,
and does nothing to any other. -/
theorem winchHalt_cases (cause : EndCause) (s : State) :
    ((s.unit 0).state = .running ∧ s.wch.clutch.moving = false ∧ winchHalt cause s = winchEnds cause s) ∨
    ((s.unit 0).state = .running ∧ s.wch.clutch.moving = true ∧
      winchHalt cause s = s.modUnit 0 fun x => { x with state := .halting, haltCause := some cause }) ∨
    ((s.unit 0).state ≠ .running ∧ winchHalt cause s = s) := by
  cases h : (s.unit 0).state <;> cases hm : s.wch.clutch.moving <;> simp [winchHalt, h, hm]

/-- R117, R142: a trip or a forced shutdown ends an active winch unit. -/
theorem winchKill_cases (cause : EndCause) (s : State) :
    ((s.unit 0).state ≠ .idle ∧ winchKill cause s = winchEnd cause s) ∨
    ((s.unit 0).state = .idle ∧ winchKill cause s = s) := by
  cases h : (s.unit 0).state <;> simp [winchKill, h]

/-! ## Lights and axles (08 R152, R155, R156, 04 R79) -/

/-- R155: one channel after its desired level and demand have been formed. -/
theorem chan_formDesired (c d : Chan) (s : State) :
    (formDesired c s).chan d =
      if d = c then formLevel s.cfg.ltc.chan[c] s.ltc.hazard (s.chan c) else s.chan d := by
  rw [formDesired, State.chan_modChan]

/-- R152: one channel after the tests of every channel's overlay. -/
theorem chan_overlayTests (c : Chan) (s : State) : (overlayTests s).chan c = overlayChannel s c := by
  simp [overlayTests, State.chan]

/-- R156: one channel after the cut to its caps. -/
theorem chan_cutLights (c : Chan) (s : State) :
    (cutLights s).chan c = { s.chan c with applied := min (s.chan c).applied (s.lightCap c) } := by
  simp [cutLights, State.chan]

/-- R75, R79: a duty brought down to a cap lies within it. -/
theorem limitTo_le (cap : Nat) (d : Int) : (limitTo cap d).natAbs ≤ cap := by
  unfold limitTo
  split
  · assumption
  · split <;> omega

/-- R79: a cut changes one axle's applied duty, limiter and mode, if that axle lies above its cap. -/
theorem cutAxle_applied (x y : Axle) (cap : Nat) (why : Limiter) (s : State) :
    (cutAxle x cap why s).trc.applied.get y =
      if y = x then limitTo cap (s.trc.applied.get x) else s.trc.applied.get y := by
  unfold cutAxle
  split
  · simp only [State.modTrc_trc, PerAxle.get_put]
  · rename_i h
    split
    · subst_vars; simp [limitTo, Nat.le_of_not_lt h]
    · rfl

/-! ## Requests (10 R172, R173) -/

/-- The link with a frame taken in hand and the parser in HUNT. -/
def lnkOf (f : Frame) (l : Lnk) : Lnk := { l.hunting with inHand := some f }

/-- The code of a request kind names it. -/
@[simp] theorem kindOf_code (k : Kind) : kindOf k.code = some k := by cases k <;> decide

/-- A request kind's code leaves room for the reply's mark. -/
theorem code_lt (k : Kind) : k.code.toNat < 128 := by cases k <;> decide

/-- R172, R173: a request that finds no request in hand is handled at once by its owner, and the reply is
built from the owner's answer. -/
theorem frameArrives_free (k : Kind) (tag : Byte) (p : List Byte) (s : State) (h : s.lnk.inHand = none) :
    frameArrives ⟨k.code, tag, p⟩ s =
      let q := k.handle (s.modLnk (lnkOf ⟨k.code, tag, p⟩)) p
      { q.1 with lnk := { (s.lnk.hunting) with
          inHand := some ⟨k.code, tag, p⟩
          reply := some { kind := k.code + 0x80, tag := tag, outcome := q.2.outcome,
                          pending := q.1.pendingCount, overrun := s.lnk.overrun, fields := q.2.fields }
          overrun := false } } := by
  simp [frameArrives, h, Lnk.hunting, takeRequest, answerFrame, sendReply, replyTo, replyKind, code_lt,
    State.modLnk, lnkOf]

/-- R172: what a good frame can do: it is taken, held or lost. -/
theorem frameArrives_cases (f : Frame) (s : State) :
    (s.lnk.inHand = none ∧ frameArrives f s = takeRequest f (s.modLnk Lnk.hunting)) ∨
    (∃ g, s.lnk.inHand = some g ∧ s.lnk.holding = none ∧
      frameArrives f s = s.modLnk fun l => { l.hunting with holding := some f }) ∨
    (∃ g h, s.lnk.inHand = some g ∧ s.lnk.holding = some h ∧
      frameArrives f s = s.modLnk fun l => { l.hunting with overrun := true }) := by
  cases hi : s.lnk.inHand with
  | none => exact .inl ⟨rfl, by simp [frameArrives, hi, Lnk.hunting]⟩
  | some g =>
    cases hh : s.lnk.holding with
    | none => exact .inr (.inl ⟨g, rfl, rfl, by simp [frameArrives, hi, hh, Lnk.hunting]⟩)
    | some h => exact .inr (.inr ⟨g, h, rfl, rfl, by simp [frameArrives, hi, hh, Lnk.hunting]⟩)

/-- R172, R176: what the end of a reply can do: nothing without a request in hand, the soft reset after a
RESET, and the next request otherwise. -/
theorem replySent_cases (s : State) :
    (s.lnk.inHand = none ∧ replySent s = s) ∨
    (∃ f, s.lnk.inHand = some f ∧ f.resets = true ∧ replySent s = softReset s) ∨
    (∃ f, s.lnk.inHand = some f ∧ f.resets = false ∧ replySent s = nextRequest s) := by
  cases h : s.lnk.inHand with
  | none => exact .inl ⟨rfl, by simp [replySent, h]⟩
  | some f =>
    cases hr : f.resets with
    | true => exact .inr (.inl ⟨f, rfl, hr, by simp [replySent, h, hr]⟩)
    | false => exact .inr (.inr ⟨f, rfl, hr, by simp [replySent, h, hr]⟩)

/-! ## The operations with a free choice, and the relax expiry -/

/-- R179, log 33: an applied duty of 0 or above is sent as it is. -/
theorem dutyField_nonneg (d : Int) (h : 0 ≤ d) : dutyField d = u16 d.toNat := by simp [dutyField, h]

/-- R179, log 33: the two bytes of a duty below 0 are free. -/
theorem dutyField_neg (d : Int) (h : d < 0) : dutyField d = u16 (Config.negativeDuty d).toNat := by
  simp [dutyField, Int.not_le.mpr h]

/-- R150, log 37: the residual at a HALT is 0, where a frame that completes the step is due, or the figure of
the formula. -/
theorem haltedResidual_cases (due : Bool) (ch : Channel) :
    (due = true ∧ haltedResidual due ch = 0) ∨ haltedResidual due ch = lightResidual ch := by
  cases h : ch.step with
  | none => exact .inr (by simp [haltedResidual, lightResidual, h])
  | some r =>
    by_cases hd : r.step.fade + r.step.hold ≤ ch.frames + 1 ∧ due = true
    · exact .inl ⟨hd.2, by simp [haltedResidual, h, hd]⟩
    · exact .inr (by simp [haltedResidual, h, hd])

/-- R97: what a relax expiry can do: nothing, or the relaxing of pulsing outputs in ARMED. -/
theorem relaxExpiry_cases (s : State) :
    relaxExpiry s = s ∨
    (s.stc.relax.isSome = true ∧ s.vsc.op = .armed ∧ s.stc.out = .pulsing ∧
      relaxExpiry s = s.modStc fun t => { t with out := .relaxed, relax := none, output := t.target }) := by
  cases h : s.stc.relax with
  | none => exact .inl (by simp [relaxExpiry, h])
  | some n =>
    by_cases hr : s.vsc.op = .armed ∧ s.stc.out = .pulsing
    · exact .inr ⟨rfl, hr.1, hr.2, by simp [relaxExpiry, h, hr]⟩
    · exact .inl (by simp only [relaxExpiry, h, hr, if_false])

/-- R113, R115: a BUSY reply of a light unit carries its progress block. -/
theorem busyWith_light (s : State) (side : Side) (u : UnitNo) (h : u ≠ 0) :
    busyWith s side u = ⟨.busy, (s.unit u).progressBlock⟩ := by simp [busyWith, h]

/-- R143, log 44: a BUSY reply of the winch unit carries P on one side of its progress block. -/
theorem busyWith_winch (s : State) (side : Side) :
    (side = .before ∧ busyWith s side 0 = ⟨.busy, positionField s ++ (s.unit 0).progressBlock⟩) ∨
    (side = .after ∧ busyWith s side 0 = ⟨.busy, (s.unit 0).progressBlock ++ positionField s⟩) := by
  cases side with
  | before => exact .inl ⟨rfl, rfl⟩
  | after => exact .inr ⟨rfl, rfl⟩

/-- R75, log 41: a DRIVE reply reports an axle's duty cap and derate flag, in one of the two orders. -/
theorem driveCap_cases (s : State) (x : Axle) :
    driveCap s x = u16 (s.sup.alloc.dutyCap.get x.bridge) ++ flagByte (s.sup.alloc.derate.get x.bridge) ∨
    driveCap s x = flagByte (s.sup.alloc.derate.get x.bridge) ++ u16 (s.sup.alloc.dutyCap.get x.bridge) := by
  cases h : Config.capSide with
  | before => exact .inl (by simp [driveCap, h])
  | after => exact .inr (by simp [driveCap, h])

end Sys2Proof.Machine
end

