-- ==== Sys2Proof/Tests/Slice0.lean ====
section
/-! SUPPORT. Tests of the model, each on one step of a small state: the expected values are those of the
spec's worked sequences and tables, or worked out by hand from its rules. Then, for every statement that
has hypotheses, a state and operands that meet them. -/

namespace Sys2Proof.Machine.Tests

-- The tests are checked one after another: many at once, each waiting for the kernel, take too many threads.
set_option Elab.async false

/-! ## Small states -/

/-- The state that a command leaves. -/
def after (i : Instr) (s : State) : State :=
  match exec i s with
  | .next t => t
  | .fault _ => s
  | .refused _ => s

/-- The outcome and the own fields of the reply that a command starts. -/
def reply (i : Instr) (s : State) : Option (ReplyOutcome × List Byte) :=
  (after i s).lnk.reply.map fun r => (r.outcome, r.fields)

/-- The part in an operating state, with nothing else changed. -/
def inOp (op : OpState) (s : State) : State := s.modVsc fun v => { v with op := op }

/-- ARMED with both axles at rest, full duty caps and an empty queue. -/
def armed : State :=
  { State.reset with
    vsc := { State.reset.vsc with op := .armed, hold := some 500, latch := false, measured := true }
    scn := { State.reset.scn with mode := .continuous, watchTimer := none,
                                  scan := some (Scan.begin .continuous) }
    sup := { State.reset.sup with alloc := { State.reset.sup.alloc with ceiling := 30000, dutyCap := .all 1000 } }
    trc := { State.reset.trc with state := .neutral, mode := .both (.shortBrake 300), braking := true }
    stc := { State.reset.stc with out := .pulsing }
    nq := [] }

/-- ARMED with both axles driven at a duty under a throttle. -/
def driving (throttle duty : Int) (s : State) : State :=
  s.modTrc fun t => { t with throttle := throttle, target := .both throttle, applied := .both duty,
                             mode := .both .drive, state := .forward, braking := false }

/-- A state with a request in hand. -/
def busy (s : State) : State := s.modLnk fun l => { l with inHand := some ⟨0x01, 0x40, []⟩ }

/-- The Line Matrix with DRUM_PULSE on AUX0, FAIRLEAD on AUX1 and a function on AUX2 (06 section 6.9.2). -/
def withLines (aux2 : LineFn) (s : State) : State :=
  s.modLmx fun m => { m with lines := #v[⟨.drumPulse, some .high, .high⟩, ⟨.fairlead, some .high, .high⟩,
                                         ⟨aux2, none, .high⟩, ⟨.off, none, .high⟩] }

/-- A record stored at a slot. -/
def stored (slot : Slot) (r : StepRec) (s : State) : State :=
  s.modPgc fun p => { p with store := p.store.set slot r }

/-- The winch program of 06 section 6.9.2. -/
def winchStore (s : State) : State :=
  stored 40 (.winch ⟨.outward, .distance 500, 600, .next⟩)
    (stored 41 (.winch ⟨.free, .time 200, 0, .next⟩)
      (stored 42 (.winch ⟨.inward, .fairlead, 800, .stop⟩) s))

/-- The winch unit runs a step, in a winch state, over slots that it holds. -/
def winching (slot : Slot) (r : WinchRec) (state : WinchState) (clutch : ClutchState) (s : State) : State :=
  ((stored slot (.winch r) s).modUnit 0 fun x =>
      { x with state := .running, first := slot, current := slot, walked := [slot] }).modWch
    fun w => { w with state := state, step := some ⟨slot, r⟩, clutch := clutch }

/-- A light unit runs a step of a program. -/
def lighting (c : Chan) (slot : Slot) (r : LightRec) (walked : List Slot) (frames : Nat) (s : State) : State :=
  ((stored slot (.light r) s).modUnit (unitOf c) fun x =>
      { x with state := .running, first := slot, current := slot, walked := walked, progress := frames }).modChan c
    fun ch => { ch with source := .program, step := some ⟨slot, r⟩, frames := frames }

/-- The last slot of a scan, with the codes of the slots before it. -/
def atLastSlot (kind : ScanMode) (codes : Vector (Option Code) 12) (s : State) : State :=
  s.modScn fun n => { n with scan := some ⟨kind, 11, codes⟩, wait := none }

/-- The ending status of a unit that ended COMPLETE. -/
def ended (u : UnitNo) : EndingStatus := ⟨u, .complete, 5, 0, some 0, 0, 0x11⟩

/-- Six free orders. -/
def orders : List Order3 := [.abc, .acb, .bac, .bca, .cab, .cba]

/-! ## Well-formedness -/

theorem test_wf_payload_fits : (Instr.drive 1 (List.replicate 64 0)).wellFormed = true := by decide +kernel

theorem test_wf_payload_too_long : (Instr.drive 1 (List.replicate 65 0)).wellFormed = false := by
  decide +kernel

theorem test_wf_unknown_kind : (Instr.unknownKindRequest 0x31 1 []).wellFormed = true := by decide

theorem test_wf_request_kind_is_known : (Instr.unknownKindRequest 0x30 1 []).wellFormed = false := by decide

/-! ## The table's words and the queue -/

/-- No row of the table gives bits. -/
theorem test_no_word_spells_a_command : decodeTableWord 8 0x01 = none := by decide

theorem test_step_idles : step State.reset = .next State.reset := by rfl

theorem test_step_takes_the_front :
    step (State.reset.withPending [.graceExpiry, .holdExpiry]) =
      exec .graceExpiry (State.reset.withPending [.holdExpiry]) := by rfl

/-! ## The link (10) -/

/-- 10 section 10.1: the check of an IDENTIFY with tag 0. -/
theorem test_crc_identify : crc8 [0x02, 0x01, 0x00] = 0xC3 := by
  decide +kernel

/-- 11 section 11.2: the five bytes of that frame. -/
theorem test_identify_frame : frameBytes ⟨0x01, 0x00, []⟩ = [0xC3, 0x02, 0x01, 0x00, 0xC3] := by
  decide +kernel

/-- 11 section 11.3: IDENTIFY's reply. -/
theorem test_identify : reply (.identify 0 []) armed =
    some (.done .none, [0x20, 0x04, 0x01, 11, 128, 8, 4, 10, 64]) := by decide +kernel

/-- The five bytes of a frame, the last of them completing it: 0xC3 is the check. -/
theorem test_byteReceived_completes :
    (after (.byteReceived 0xC3) (armed.modLnk fun l =>
      { l with parser := .check, frame := [0x02, 0x01, 0x00], gap := true })).lnk.inHand =
      some ⟨0x01, 0x00, []⟩ := by decide +kernel

theorem test_byteReceived_length : (after (.byteReceived 67) (armed.modLnk fun l =>
    { l with parser := .length, gap := true })).lnk = armed.lnk := by decide +kernel

theorem test_frameDiscard_framing_error : (after (.frameDiscard .framingError) (armed.modLnk fun l =>
    { l with parser := .body, frame := [0x05], gap := true })).lnk = armed.lnk := by decide +kernel

theorem test_byteGapExpiry : (after .byteGapExpiry (armed.modLnk fun l =>
    { l with parser := .body, frame := [0x05, 0x10], gap := true })).lnk = armed.lnk := by decide +kernel

/-- 10 section 10.4.1: the second frame of a burst is held, the third is lost. -/
theorem test_frameHeld_lost :
    let s := after (.frameHeld 0x04 0x42 [0x15, 0]) (busy armed)
    s.lnk.holding = some ⟨0x04, 0x42, [0x15, 0]⟩ ∧ s.lnk.overrun = false ∧
      (after (.frameHeld 0x05 0x43 [0x08, 0, 4, 0]) s).lnk.overrun = true := by decide +kernel

/-- 10 section 10.4.1: at the end of a reply the held frame is taken, and its reply shows the overrun. -/
theorem test_replySent_takes_held :
    let t := after .replySent ((busy armed).modLnk fun l =>
      { l with holding := some ⟨0x04, 0x42, [0x15, 0]⟩, overrun := true })
    t.lnk.inHand = some ⟨0x04, 0x42, [0x15, 0]⟩ ∧ t.lnk.overrun = false ∧
      t.lnk.reply.map Reply.overrun = some true := by decide +kernel

/-- R176: the soft reset is taken when RESET's reply has been sent. -/
theorem test_reset_after_its_reply :
    let t := after (.reset 0x09 []) armed
    t.vsc.op = .armed ∧ reply (.reset 0x09 []) armed = some (.done .none, []) ∧
      (after .replySent t).vsc.op = .parked := by decide +kernel

theorem test_reset_bad_length : reply (.reset 0x09 [0]) armed = some (.refused .badLength, []) := by
  decide +kernel

/-- 11 section 11.3: KIND plus 0x80, UNKNOWN_KIND 0x01 with outcome REFUSED 0x03. -/
theorem test_unknownKindRequest :
    (after (.unknownKindRequest 0x7F 0x05 []) armed).lnk.reply.map (fun r => (r.kind, r.header)) =
      some (0xFF, [0x03, 0x01, 0x00, 0x00]) := by decide +kernel

/-! ## Resets (00 section 0.4) -/

theorem test_fullReset :
    let t := after .fullReset (armed.modCfg fun c => { c with sup := { c.sup with hyst := 250 } })
    t.vsc.op = .parked ∧ t.cfg.sup.hyst = 100 ∧ t.nq = [.opstate .parked .parked .reset] := by decide +kernel

theorem test_softReset :
    let t := after .softReset ((armed.modCfg fun c => { c with sup := { c.sup with hyst := 250 } }).modWch
      fun w => { w with position := 5000 })
    t.vsc.op = .parked ∧ t.cfg.sup.hyst = 250 ∧ t.wch.position = 5000 ∧
      t.nq = [.opstate .parked .armed .reset] := by decide +kernel

/-! ## STATUS, GET, SET (10) -/

/-- R175: the VEHICLE page right after reset: PARKED, the latch set, nothing measured. -/
theorem test_status_vehicle : reply (.status 0 [0, 7]) State.reset =
    some (.done .none, [0, 0, 0, 0, 0, 0, 0, 1, 0, 0, 0, 0, 0xFF, 0, 0, 0]) := by decide +kernel

theorem test_status_unit_index : reply (.status 0 [6, 11]) State.reset = some (.refused .badValue, []) := by
  decide +kernel

/-- 10 section 10.4.1: GET of HYST after it was set to 300: range 20..300, default 100. -/
theorem test_get_hyst :
    reply (.get 0x42 [0x15, 0]) (armed.modCfg fun c => { c with sup := { c.sup with hyst := 300 } }) =
      some (.done .none, [0x15, 0, 0x2C, 0x01, 20, 0, 0x2C, 0x01, 100, 0, 0]) := by decide +kernel

/-- 10 section 10.4.1: SET of HYST to 500 stores and reports 300. -/
theorem test_set_hyst : reply (.set 0x41 [0x15, 0, 0xF4, 0x01]) armed =
    some (.done .none, [0x15, 0, 0x2C, 0x01]) := by decide +kernel

/-- 10 section 10.4.1: CELL_COUNT is refused NOT_PARKED while the part is ARMED, with the value held. -/
theorem test_set_cellCount_armed : reply (.set 0x43 [0x08, 0, 4, 0]) armed =
    some (.refused .notParked, [0x08, 0, 3, 0]) := by decide +kernel

/-! ## Arming, parking, timers and trips (01) -/

theorem test_arm_measuring : reply (.arm 0 []) State.reset = some (.refused .measuring, []) := by
  decide +kernel

/-- R5: ARM in ARMED does not restart the hold timer and does not set the latch. -/
theorem test_arm_in_armed : (after (.arm 0 []) armed).vsc = armed.vsc := by decide +kernel

/-- 01 section 1.9.2: PARK with both axles at 100. -/
theorem test_park_moving :
    let t := after (.park 0 []) (driving 100 100 armed)
    t.vsc.op = .shuttingDown ∧ t.vsc.origin = .shutdown ∧ t.vsc.grace = some 200 ∧
      t.trc.applied = ⟨100, 100⟩ ∧ t.trc.target = ⟨0, 0⟩ := by decide +kernel

/-- R13: PARK of a part at rest completes at once. -/
theorem test_park_at_rest : (after (.park 0 []) armed).vsc.op = .parked := by decide +kernel

/-- 01 section 1.9.1: the hold expiry; FAILSAFE with count 1 stands before OPSTATE. -/
theorem test_holdExpiry :
    let t := after .holdExpiry (driving 700 700 armed)
    t.vsc.op = .failsafe ∧ t.vsc.expiryCount = 1 ∧ t.trc.applied = ⟨0, 0⟩ ∧ t.ltc.hazard = some 0 ∧
      t.nq = [.failsafe 1 .armed, .opstate .failsafe .armed .linkLost] := by decide +kernel

/-- 01 section 1.9.2: the grace expiry stops the clutch where it is. -/
theorem test_graceExpiry :
    let s := (inOp .shuttingDown armed).modVsc fun v => { v with hold := none, grace := some 200, origin := .shutdown }
    let t := after .graceExpiry (s.modWch fun w => { w with clutch := .movingToFree, clutchTimer := some 300 })
    t.vsc.op = .parked ∧ t.wch.clutch = .unknown ∧ t.nq = [.opstate .parked .shuttingDown .shutdownForced] := by
  decide +kernel

/-- R17, R19: a short trips the part; TRIP stands before OPSTATE. -/
theorem test_shortComparatorAssert :
    let t := after (.shortComparatorAssert .rear) armed
    t.vsc.op = .tripped ∧ t.vsc.firstCause = some (.short .rear) ∧ t.trc.winchOpen = true ∧
      t.nq = [.trip (CauseSet.empty.add (.short .rear)) (.short .rear), .opstate .tripped .armed .trip] := by
  decide +kernel

theorem test_shortComparatorDeassert :
    let t := after (.shortComparatorDeassert .rear) (after (.shortComparatorAssert .rear) armed)
    t.vsc.comparator = ⟨false, false, false⟩ ∧ t.vsc.causes.has (.short .rear) = true := by decide +kernel

/-! ## Scans (02) -/

/-- 02 section 2.11.1: slot 6 waits for FRONT while it is driven. -/
theorem test_conversionEnd_waits :
    (after (.conversionEnd 1600) ((driving 800 800 armed).modScn fun n =>
      { n with scan := some ⟨.continuous, 4, Vector.replicate 12 none⟩ })).scn.wait = some .front := by
  decide +kernel

theorem test_bridgeTriggerArrival :
    let s := (driving 800 800 armed).modScn fun n => { n with wait := some .front }
    (after (.bridgeTriggerArrival .rear) s).scn.wait = some .front ∧
      (after (.bridgeTriggerArrival .front) s).scn.wait = none := by decide +kernel

theorem test_watchIntervalExpiry :
    (after .watchIntervalExpiry (State.reset.modScn fun n => { n with scan := none })).scn.scan =
      some (Scan.begin .watch) := by decide +kernel

/-- The codes of 02 section 2.11.1. -/
def codes4S : Vector (Option Code) 12 :=
  #v[some 3400, some 3380, some 3370, some 3360, some 1600, some 1000, some 950, some 400,
     some 1700, some 2600, some 2500, some 2200]

/-- 02 section 2.11.1: the published results of a CONTINUOUS completion of a 4S pack. -/
theorem test_scan_4S :
    let n := { armed.scn with primed := true, filtered := #v[3660, 3618, 3605, 3590] }
    let r := resultsOf { Settings.default with scn := { Settings.default.scn with cellCount := 4 } } n
      ⟨.continuous, 11, codes4S⟩
    r.taps = #v[3653, 7263, 10863, 14441] ∧ r.raw = #v[3653, 3610, 3600, 3578] ∧
      r.filtered = #v[3659, 3616, 3604, 3587] ∧ r.minRaw = 3578 ∧ r.minFiltered = 3587 ∧ r.pack = 31257 ∧
      r.bridge = ⟨9768, 9279, 3907⟩ ∧ r.temp = ⟨33, 76, 72, 57⟩ ∧ r.hottest = 76 ∧ r.overcurrent = 0 := by
  decide +kernel

/-- 02 section 2.11.2: the completion at +10 s; a notice is offered and the flag is set. -/
theorem test_watchCheck_low :
    let t := watchCheck (State.reset.modScn fun n =>
      { n with results := { n.results with minFiltered := 3598, hottest := 66, temp := ⟨30, 66, 50, 40⟩ } })
    t.scn.excursion = true ∧ t.nq.getLast? = some (.watch 3598 66 .front true false) := by decide +kernel

/-! ## The supply (03) -/

/-- A light channel at a level that it reaches, with its RATED. -/
def lit (c : Chan) (rated level : Nat) (s : State) : State :=
  (s.modCfg fun g => g.put (.chan .rated c) rated).modChan c fun ch =>
    { ch with desired := level, demand := level * rated / 255, applied := level }

/-- The lights, the winch and the axles of 03 section 3.9, with the results of its first completion. -/
def heavyPull : State :=
  let s := winching 5 ⟨.inward, .load 9000, 500, .stop⟩ .runningPowered .engaged (driving 800 800 armed)
  let s := (s.modWch fun w => { w with applied := 500 }).modScn fun n =>
    { n with results := { n.results with minRaw := 3382, minFiltered := 3501 } }
  lit 0 400 255 (lit 1 400 255 (lit 2 200 128 (lit 4 600 255 (s.modSup fun u =>
    { u with alloc := { u.alloc with ceiling := 20000 } }))))

/-- 03 section 3.9.1: stage, ceiling, grants and caps. -/
theorem test_supply_first_completion :
    let u := supNext heavyPull
    u.stage = .normal ∧ u.alloc.sag = 82 ∧ u.alloc.ceiling = 12300 ∧ u.alloc.grant.servo = 3000 ∧
      u.alloc.grant.bridge = ⟨3475, 3475, 1448⟩ ∧ u.alloc.grant.light[4] = 2 ∧ u.alloc.unassigned = 0 ∧
      u.alloc.dutyCap = ⟨289, 289, 181⟩ ∧ u.alloc.budgetCap[2] = 255 ∧ u.alloc.budgetCap[4] = 0 := by
  decide +kernel

/-- 03 section 3.9.2: the second completion's stage and ceiling. -/
theorem test_supply_second_completion :
    stageNext Settings.default.sup .normal 0 3479 = .caution ∧ stageBase 30000 .caution = 22500 ∧
      sagFactor 3300 3412 = 112 ∧ rawCeilingOf 22500 112 = 12600 ∧ ceilingNext 12600 12300 = 12600 := by
  decide

/-- 03 section 3.9.1: at that completion the axles are cut to 289, the winch to 181 and the rock lights to
0; the tail light keeps 128. -/
theorem test_supply_cuts :
    let t := supplyCompletion heavyPull
    t.trc.applied = ⟨289, 289⟩ ∧ t.trc.target = ⟨800, 800⟩ ∧ t.wch.applied = 181 ∧
      (t.chan 4).applied = 0 ∧ (t.chan 2).applied = 128 := by decide +kernel

/-- R18, R32: a temperature at TRIP_TEMP trips the part, for every order of the blocks at the completion. -/
theorem test_completion_trips :
    let s := armed.modScn fun n => { n with results := { n.results with
      kind := some .continuous, minRaw := 3700, minFiltered := 3700, temp := ⟨20, 110, 20, 20⟩ } }
    ∀ o ∈ orders, (completionEvent o s).vsc.op = .tripped ∧
      (completionEvent o s).vsc.firstCause = some (.overtemp .front) := by decide +kernel

/-! ## Driving (04) -/

/-- 04 section 4.10.1: the settings of the worked case. -/
def reversal (front rear : Int) : State :=
  ((driving (-200) 0 armed).modCfg fun c =>
      { c with trc := { c.trc with throttleSlew := 100, frontRatio := 1100 } }).modTrc
    fun t => { t with applied := ⟨front, rear⟩, target := ⟨-220, -200⟩, ratioInForce := 1100 }

/-- 04 section 4.10.1: DRIVE -200 at 330 and 300 (FF38H is -200). -/
theorem test_drive_reversal :
    let t := after (.drive 0 [0x38, 0xFF, 0, 0, 0])
      ((reversal 330 300).modTrc fun t => { t with throttle := 300, target := ⟨330, 300⟩ })
    t.trc.target = ⟨-220, -200⟩ ∧ t.trc.applied = ⟨330, 300⟩ ∧ t.trc.state = .braking ∧
      t.trc.direction = .reverse ∧ t.trc.braking = true := by decide +kernel

/-- 01 section 1.9.1: the latch holds a throttle of 700 after a link loss. -/
theorem test_drive_latched :
    let t := after (.drive 0 [0xBC, 0x02, 0, 0, 0]) (after .holdExpiry armed)
    t.vsc.op = .armed ∧ t.vsc.latch = true ∧ t.trc.throttle = 0 ∧ t.trc.hold = .latch := by decide +kernel

/-- R67, R71: a FRONT_RATIO set to 1 100 acts at the next drive frame; a DRIVE before it takes the 1 000 in
force. -/
theorem test_front_ratio_taken_up :
    let s := after .replySent (after (.set 0 [0x22, 0, 0x4C, 0x04]) (armed.modTrc fun t => { t with hold := .none }))
    let t := after (.drive 0 [0xF4, 0x01, 0, 0, 0]) (s.modVsc fun v => { v with latch := false })
    t.trc.target = ⟨500, 500⟩ ∧ (after .driveFrameExpiry t).trc.target = ⟨550, 500⟩ := by decide +kernel

/-- 04 section 4.10.1, frame 3: the rear axle reaches 0 with a target and opens. -/
theorem test_driveFrame_open :
    let t := after .driveFrameExpiry (reversal 130 100)
    t.trc.applied = ⟨30, 0⟩ ∧ t.trc.mode = ⟨.drive, .bridgeOpen⟩ ∧ t.trc.state = .braking := by decide +kernel

/-- 04 section 4.10.1, frame 4: the front axle stops at 0, the rear is driven in reverse. -/
theorem test_driveFrame_zero :
    let t := after .driveFrameExpiry (reversal 30 0)
    t.trc.applied = ⟨0, -100⟩ ∧ t.trc.mode = ⟨.bridgeOpen, .drive⟩ ∧ t.trc.state = .reverse ∧
      t.trc.braking = false := by decide +kernel

/-- 04 section 4.10.2: a slack line cuts the axles from 420 to 400 at once. -/
theorem test_assist_slack :
    let s := ((driving 600 420 armed).modTrc fun t => { t with assist := some 450 }).modScn fun n =>
      { n with results := { n.results with kind := some .continuous, bridge := ⟨0, 0, 250⟩ } }
    (assistStep s).trc.assist = some 400 ∧ (assistStep s).trc.applied = ⟨400, 400⟩ ∧
      (assistStep s).trc.limiter = ⟨.assist, .assist⟩ := by decide +kernel

/-! ## Steering (05) -/

/-- 05 section 5.8.1: the settings and the state before servo frame 1. -/
def blend : State :=
  ((armed.modCfg fun c => { c with stc := { c.stc with
      servoSlew := 100, axle := { c.stc.axle with rear := { c.stc.axle.rear with reverse := true } } } }).modStc
    fun t => { t with mode := .blend, steer := 600 }).modTrc fun t => { t with applied := .both 200 }

/-- 05 section 5.8.1, servo frame 1. -/
theorem test_servoFrame_blend :
    let t := after .servoFrameExpiry blend
    t.stc.target = ⟨1740, 1596⟩ ∧ t.stc.output = ⟨1600, 1596⟩ ∧ t.stc.pulse = ⟨some 1600, some 1596⟩ := by
  decide +kernel

/-- 05 section 5.8.2: CRAB at a steer of 500 waits. -/
theorem test_steerMode_pending :
    reply (.steerMode 0 [2]) (armed.modStc fun t => { t with steer := 500 }) =
      some (.done .modePending, [0, 2]) := by decide +kernel

/-- 05 section 5.8.2: COUNTER at -40, the mode in force. -/
theorem test_steerMode_applied :
    reply (.steerMode 0 [3]) (armed.modStc fun t => { t with steer := -40, mode := .counter }) =
      some (.done .applied, [3, 0xFF]) := by decide +kernel

/-- 05 section 5.8.2: a DRIVE with steer -40 applies the pending mode. -/
theorem test_pending_mode_applied :
    (pendingTest (armed.modStc fun t => { t with steer := -40, pendingMode := some .counter })).stc.mode =
      .counter := by decide +kernel

/-- 05 section 5.8.3: the expiry relaxes the outputs, and the reserve demand falls to 0. -/
theorem test_relaxTimerExpiry :
    let t := after .relaxTimerExpiry (armed.modStc fun t => { t with relax := some 2 })
    t.stc.out = .relaxed ∧ t.servoDemand = 0 ∧ armed.servoDemand = 3000 := by decide +kernel

/-! ## Programs (06) -/

/-- The two records of 06 section 6.9.1. -/
def flashes : State :=
  stored 20 (.light ⟨255, 0, 30, .next⟩) (stored 21 (.light ⟨0, 0, 30, .goto 20 2⟩) armed)

/-- 06 section 6.9.1: STORE_STEPS of slot 21 while two units hold it. -/
theorem test_storeSteps_in_use :
    reply (.storeSteps 0 ([21, 1] ++ List.replicate 8 0))
      (flashes.modPgc fun p => { p with useCount := p.useCount.set 21 2 }) =
      some (.refused .inUse, [21, 2]) := by decide +kernel

/-- R106: a fade and a speed above 1 000 are stored as 1 000 and an amount of 0 as 1, and answered so. -/
theorem test_storeSteps_clamps :
    reply (.storeSteps 0 [20, 2, 0x01, 9, 9, 255, 0xFF, 0xFF, 30, 0, 0x02, 9, 9, 0x01, 0xFF, 0xFF, 0, 0]) armed =
      some (.done .none, [20, 2, 0x01, 0, 0, 255, 0xE8, 0x03, 30, 0, 0x02, 0, 0, 0x01, 0xE8, 0x03, 1, 0]) := by
  decide +kernel

/-- 11 section 11.3.1: the record of slot 21 with link GOTO (2), and its use count. -/
theorem test_readSteps : reply (.readSteps 0 [21, 1]) flashes =
    some (.done .none, [21, 1, 0x21, 20, 2, 0, 0, 0, 30, 0, 0]) := by decide +kernel

/-- 06 section 6.9.1: START of unit 3 at slot 20. -/
theorem test_start_light :
    let t := after (.start 0 [3, 20, 0x11]) flashes
    reply (.start 0 [3, 20, 0x11]) flashes = some (.done .none, [2]) ∧ (t.unit 3).state = .running ∧
      t.pgc.useCount[20] = 1 ∧ t.pgc.useCount[21] = 1 ∧ (t.chan 2).program = 255 := by decide +kernel

/-- 06 section 6.9.2: the walk fails at slot 41, NO_CLUTCH_LINE (8). -/
theorem test_start_no_clutch_line :
    reply (.start 0 [0, 40, 0x20]) (withLines .off (winchStore armed)) =
      some (.refused .badProgram, [41, 8]) := by decide +kernel

/-- 06 section 6.9.1: unit 4 is halted 10 frames into slot 21: residual 20, loops 2, tag 0x12. -/
theorem test_halt_light :
    let s := (lighting 3 21 ⟨0, 0, 30, .goto 20 2⟩ [20, 21] 10 flashes).modUnit 4 fun x => { x with tag := 0x12 }
    reply (.halt 0 [4]) s = some (.done .ended, []) ∧
      (after (.halt 0 [4]) s).nq = [.unitEnded ⟨4, .halted, 21, 20, some 2, 0, 0x12⟩] := by decide +kernel

theorem test_halt_idle : reply (.halt 0 [3]) armed = some (.done .quiet, []) := by decide +kernel

/-- 06 section 6.9.1: a GOTO with loop count 2 loads the counter and leaves it at 1, then 0, then ends. -/
theorem test_followLink_goto :
    followLink 21 (.goto 20 2) .notLoaded = .to 20 (.count 1) ∧
      followLink 21 (.goto 20 2) (.count 1) = .to 20 (.count 0) ∧
      followLink 21 (.goto 20 2) (.count 0) = .ends (.count 0) := by decide

/-- R115: PROBE takes the status from the queue; an ending status record is ten bytes. -/
theorem test_probe_status :
    let s := armed.modNq fun _ => [.unitEnded (ended 4), .unitEnded (ended 3)]
    reply (.probe 0 [3]) s = some (.status, [3, 0, 5, 0, 0, 0, 0, 0, 0, 0x11]) ∧
      (after (.probe 0 [3]) s).nq = [.unitEnded (ended 4)] := by decide +kernel

theorem test_probe_quiet : reply (.probe 0 [3]) armed = some (.done .quiet, []) := by decide +kernel

/-! ## The winch (07) -/

/-- 07 section 7.8.1: the FREE step begins at the clutch travel expiry. -/
theorem test_clutchTravelExpiry_begins :
    let s := winching 41 ⟨.free, .time 200, 0, .next⟩ .waitClutch .movingToFree (withLines .clutchServo armed)
    let t := after .clutchTravelExpiry (s.modWch fun w => { w with clutchTimer := some 300, position := 5040 })
    t.wch.state = .freewheel ∧ t.wch.clutch = .freed ∧ t.wch.frames = 0 ∧ t.wch.applied = 0 := by
  decide +kernel

/-- 07 section 7.8.1: pulse 250 completes the OUT step, and the clutch starts toward FREED. -/
theorem test_drumPulse_distance :
    let s := winching 40 ⟨.outward, .distance 500, 600, .next⟩ .runningPowered .engaged
      (withLines .clutchServo (winchStore armed))
    let t := drumPulse (s.modWch fun w => { w with position := 4980, travel := 4980, applied := 600 })
    t.wch.position = 5000 ∧ (t.unit 0).current = 41 ∧ t.wch.state = .waitClutch ∧
      t.wch.clutch = .movingToFree ∧ t.wch.applied = 0 ∧ t.wch.travel = 0 := by decide +kernel

/-- 07 section 7.8.1: the closing fairlead completes the IN step and ends the program; 4 mm are left. -/
theorem test_fairlead_completes :
    let s := winching 42 ⟨.inward, .fairlead, 800, .stop⟩ .runningPowered .engaged (withLines .clutchServo armed)
    let t := fairleadChange ((s.modWch fun w => { w with position := 40, applied := 800 }).modLmx fun m =>
      { m with lines := m.lines.set 1 ⟨.fairlead, some .low, .low⟩ })
    t.nq = [.unitEnded ⟨0, .complete, 42, 0, some 0, 4, 0⟩] ∧ t.wch.state = .idle := by decide +kernel

/-- 07 section 7.8.2: STALL with residual 2 220 mA and final position 148 mm. -/
theorem test_stallTimerExpiry :
    let s := winching 9 ⟨.inward, .load 9000, 700, .stop⟩ .runningPowered .engaged armed
    (after .stallTimerExpiry (s.modWch fun w =>
      { w with stall := some 500, lastCurrent := 6780, position := 1480, applied := 700 })).nq =
      [.unitEnded ⟨0, .stall, 9, 2220, some 0, 148, 0⟩] := by decide +kernel

/-- R131: 5 000 mm is clamped to LINE_MAX, 3 000 mm. -/
theorem test_lineSet : (after (.lineSet 0 [0x88, 0x13]) armed).wch.position = 30000 ∧
    reply (.lineSet 0 [0x88, 0x13]) armed = some (.done .none, [0xB8, 0x0B]) := by decide +kernel

/-- R143: while the winch unit runs, LINE_SET is answered BUSY with P, 148 mm, before the progress block. -/
theorem test_lineSet_busy :
    let s := winching 9 ⟨.inward, .load 9000, 700, .stop⟩ .runningPowered .engaged armed
    reply (.lineSet 0 [0x88, 0x13]) (s.modWch fun w => { w with position := 1480 }) =
      some (.busy, [0x94, 0x00, 1, 9, 1, 0, 0, 0xFE, 0xFF, 0xFF]) := by decide +kernel

/-- R133: two steps with end-on FAIRLEAD that begin with the level active complete in turn at one event. -/
theorem test_clutchTravelExpiry_chain :
    let s := stored 42 (.winch ⟨.inward, .fairlead, 800, .stop⟩)
      (winching 41 ⟨.assist, .fairlead, 700, .next⟩ .waitClutch .movingToEngage (withLines .clutchServo armed))
    let t := after .clutchTravelExpiry ((s.modWch fun w => { w with clutchTimer := some 300, position := 40 }).modLmx
      fun m => { m with lines := m.lines.set 1 ⟨.fairlead, some .low, .low⟩ })
    t.nq = [.unitEnded ⟨0, .complete, 42, 0, some 0, 4, 0⟩] ∧ t.wch.state = .idle ∧
      t.wch.clutch = .engaged := by decide +kernel

/-! ## Lights and lines (08, 09) -/

/-- 08 section 8.9.1: channel 4 at frame 3 of slot 60. -/
def pulse (frames program : Nat) : State :=
  (lighting 4 60 ⟨200, 4, 2, .next⟩ [60, 61] frames
    (stored 61 (.light ⟨40, 4, 0, .goto 60 1⟩) armed)).modChan 4
    fun ch => { ch with manual := 100, fadeStart := 100, program := program }

/-- 08 section 8.9.1: SET_LIGHT of a channel whose program runs is DEFERRED. -/
theorem test_setLight_deferred :
    reply (.setLight 0 [4, 30]) (pulse 3 175) = some (.done .deferred, [4, 30, 1, 0, 0, 255]) ∧
      ((after (.setLight 0 [4, 30]) (pulse 3 175)).chan 4).manual = 30 ∧
      ((after (.setLight 0 [4, 30]) (pulse 3 175)).chan 4).program = 175 := by decide +kernel

/-- 08 section 8.9.1, frame 1: the program level takes 125; the budget cap here is 255. -/
theorem test_lightFrame_fade :
    let s := (pulse 0 100).modSup fun u => { u with alloc := { u.alloc with budgetCap := Vector.replicate 10 255 } }
    ∀ o ∈ orders, ((lightFrame o .abc ⟨.high, .high, .high, .high⟩ s).chan 4).program = 125 ∧
      ((lightFrame o .abc ⟨.high, .high, .high, .high⟩ s).chan 4).applied = 125 := by decide +kernel

/-- 08 section 8.9.1, frame 6: slot 60 completes, and slot 61 begins with fade start 200. -/
theorem test_lightFrame_next :
    let t := lightStepFrame 4 (pulse 5 200)
    (t.unit 5).current = 61 ∧ (t.chan 4).frames = 0 ∧ (t.chan 4).fadeStart = 200 ∧ (t.chan 4).program = 200 := by
  decide +kernel

/-- R166: AUX2 takes CLUTCH_SERVO in PARKED, and the clutch state becomes UNKNOWN. -/
theorem test_assignLine :
    let s := (withLines .off State.reset).modWch fun w => { w with clutch := .engaged }
    reply (.assignLine 0 [2, 4]) s = some (.done .none, [2, 3, 4, 0]) ∧
      (after (.assignLine 0 [2, 4]) s).wch.clutch = .unknown := by decide +kernel

theorem test_assignLine_armed : reply (.assignLine 0 [2, 4]) (withLines .off armed) =
    some (.refused .notParked, [2, 3, 0, 0]) := by decide +kernel

/-! ## Notices (09) -/

/-- 09 section 9.2: the OPSTATE notice of a reset. -/
theorem test_fetchNotice_opstate : reply (.fetchNotice 0 []) State.reset =
    some (.done .opstate, [0, 0, 0]) := by decide +kernel

/-- 09 section 9.3.2: from an empty list, the stacked status of the lowest unit. -/
theorem test_fetchNotice_stacked :
    let s := (armed.modUnit 0 fun x => { x with stacked := some (ended 0) }).modUnit 1
      fun x => { x with stacked := some (ended 1) }
    reply (.fetchNotice 0 []) s = some (.status, [0, 0, 5, 0, 0, 0, 0, 0, 0, 0x11]) ∧
      (after (.fetchNotice 0 []) s).pendingCount = 1 := by decide +kernel

/-- The full list of 09 section 9.3.2. -/
def crowded : State :=
  armed.modNq fun _ => [.stage .caution .normal 3400 9000, .unitEnded (ended 1), .unitEnded (ended 2),
    .unitEnded (ended 3), .unitEnded (ended 4), .unitEnded (ended 5), .unitEnded (ended 6), .failsafe 1 .armed]

/-- 09 section 9.3.2: OPSTATE displaces the oldest ending status into the context of unit 1. -/
theorem test_offer_displaces :
    let t := offer (.opstate .failsafe .armed .linkLost) crowded
    (t.unit 1).stacked = some (ended 1) ∧ t.pendingCount = 9 ∧ t.nq.length = 8 ∧
      t.nq.getLast? = some (.opstate .failsafe .armed .linkLost) := by decide +kernel

/-- 09 section 9.3.2: a second STAGE is updated in place and keeps the stage first replaced. -/
theorem test_offer_coalesces :
    (offer (.stage .reserve .caution 3300 5000) crowded).nq.head? = some (.stage .reserve .normal 3300 5000) := by
  decide +kernel

/-! ## Witnesses: the link and the requests that read

Each theorem names the statement whose hypotheses it meets, clause by clause, at the edges of the ranges. -/

/-- Every command answers a next state. -/
theorem exec_after (i : Instr) (s : State) : exec i s = .next (after i s) := by cases i <;> rfl

/-- A state with a request in hand and another held. -/
def held (s : State) : State := (busy s).modLnk fun l => { l with holding := some ⟨0x04, 0x42, [0x15, 0]⟩ }

/-- A state whose parser is in a state with bytes in assembly. -/
def parsing (p : ParserState) (frame : List Byte) : State :=
  armed.modLnk fun l => { l with parser := p, frame := frame, gap := true }

theorem witness_LinkTakesTurns :
    frameOfCommand (.arm 1 []) = some ⟨0x10, 1, []⟩ ∧ armed.lnk.inHand = none ∧
    (busy armed).lnk.inHand = some ⟨0x01, 0x40, []⟩ ∧ (busy armed).lnk.holding = none ∧
    (held armed).lnk.inHand = some ⟨0x01, 0x40, []⟩ ∧
    (held armed).lnk.holding = some ⟨0x04, 0x42, [0x15, 0]⟩ ∧
    (after (.reset 9 []) armed).lnk.inHand = some ⟨0x03, 9, []⟩ ∧
    ¬((0x01 : Byte) = 0x03 ∧ ([] : List Byte) = []) ∧ ¬((0x03 : Byte) = 0x03 ∧ ([0] : List Byte) = []) := by
  decide +kernel

theorem witness_FormatRefusals :
    (∀ kind ∈ ([0x00, 0x31, 0x7F, 0x80, 0xFF] : List Byte), kind ∉ requestKindCodes) ∧
    armed.lnk.inHand = none ∧ (0x7F : Byte).toNat < 128 ∧ 128 ≤ (0x80 : Byte).toNat ∧
    frameOfCommand (.drive 1 [0, 0, 0, 0]) = some ⟨0x12, 1, [0, 0, 0, 0]⟩ ∧ (0x12 : Byte) ∈ requestKindCodes ∧
    lengthAllowed 0x12 [0, 0, 0, 0] = false ∧ lengthAllowed 0x12 [0, 0, 0, 0, 0, 0] = false ∧
    lengthAllowed 0x01 [0] = false ∧ lengthAllowed 0x20 [0, 0] = false ∧
    lengthAllowed 0x20 ([0, 7] ++ List.replicate 56 0) = false := by decide +kernel

theorem witness_ParserTakesBytes :
    armed.lnk.parser = .hunt ∧ (parsing .length []).lnk.parser = .length ∧
    (∀ b ∈ ([2, 66] : List Byte), 2 ≤ b.toNat ∧ b.toNat ≤ 66) ∧
    (∀ b ∈ ([1, 67] : List Byte), ¬(2 ≤ b.toNat ∧ b.toNat ≤ 66)) ∧
    (parsing .body [2, 1]).lnk.parser = .body ∧ (parsing .body [2, 1]).lnk.frame = 2 :: [1] ∧
    (2 : Byte).toNat ≤ ([1] : List Byte).length + 1 ∧ ¬((3 : Byte).toNat ≤ ([1] : List Byte).length + 1) ∧
    (parsing .check [2, 1, 0]).lnk.parser = .check ∧ (0xC2 : Byte) ≠ crc8 (parsing .check [2, 1, 0]).lnk.frame ∧
    (parsing .check [2, 1, 0]).lnk.frame = 2 :: 1 :: 0 :: [] ∧
    (0xC3 : Byte) = crc8 (parsing .check [2, 1, 0]).lnk.frame ∧ (parsing .body [2, 1]).lnk.parser ≠ .hunt := by
  decide +kernel

theorem witness_ParserReadsEncodedFrames :
    (Frame.mk 0x20 1 (List.replicate 64 0xC3)).payload.length ≤ 64 ∧ armed.lnk.parser = .hunt ∧
    frameOfCommand (.unknownKindRequest 0x7F 1 [2]) = some ⟨0x7F, 1, [2]⟩ ∧
    frameOfCommand (.fetchNotice 1 []) = some ⟨0x30, 1, []⟩ := by decide +kernel

theorem witness_IdentifyAnswers : armed.lnk.inHand = none := by decide

/-- The lowest and the highest page, unit and channel, and the lowest of each that is refused. -/
theorem witness_StatusReadsPages :
    armed.lnk.inHand = none ∧ 8 < (9 : Byte).toNat ∧ 10 < (11 : Byte).toNat ∧ 9 < (10 : Byte).toNat ∧
    (0 : Byte).toNat = (0 : UnitNo).val ∧ (10 : Byte).toNat = (10 : UnitNo).val ∧
    (0 : Byte).toNat = (0 : Chan).val ∧ (9 : Byte).toNat = (9 : Chan).val := by decide

theorem witness_GetReportsSettings :
    armed.lnk.inHand = none ∧ (⟨0x28, 2, 1000, 2000, 1500, false⟩ : SettingRow) ∈ settingRows ∧
    (0x28 : Byte).toNat = 0x28 ∧ SettingRow.takes ⟨0x28, 2, 1000, 2000, 1500, false⟩ 1 ∧
    (∀ r ∈ settingRows, (0x28 : Byte).toNat = r.number → ¬ r.takes 2) ∧
    (∀ r ∈ settingRows, (0x43 : Byte).toNat = r.number → ¬ r.takes 10) ∧
    (∀ r ∈ settingRows, (0x00 : Byte).toNat = r.number → ¬ r.takes 0) := by
  unfold SettingRow.takes; decide +kernel

theorem witness_ReadStepsReturnsRecords :
    armed.lnk.inHand = none ∧ 127 < (128 : Byte).toNat ∧ (127 : Byte).toNat ≤ 127 ∧
    0 < min (max 1 (min 6 (0 : Byte).toNat)) (128 - (127 : Byte).toNat) ∧
    (127 : Slot).val = (127 : Byte).toNat + 0 ∧ ([0, 1, 0] : List Byte).length ≠ 2 := by decide

theorem witness_ProbeAnswers :
    let queued := armed.modNq fun _ => [.line (Vector.replicate 4 true) (Vector.replicate 4 .low),
      .unitEnded (ended 10), .unitEnded (ended 3)]
    let stacked := armed.modUnit 10 fun x => { x with stacked := some (ended 10) }
    let active := lighting 9 5 ⟨9, 0, 0, .stop⟩ [5] 0 armed
    armed.lnk.inHand = none ∧ 10 < (11 : Byte).toNat ∧ (10 : Byte).toNat = (10 : UnitNo).val ∧
    queued.nq = [.line (Vector.replicate 4 true) (Vector.replicate 4 .low)] ++ .unitEnded (ended 10) ::
      [.unitEnded (ended 3)] ∧ (ended 10).unit = 10 ∧
    endings 10 [.line (Vector.replicate 4 true) (Vector.replicate 4 .low)] = 0 ∧
    endings 10 stacked.nq = 0 ∧ (stacked.unit 10).stacked = some (ended 10) ∧
    endings 10 active.nq = 0 ∧ (active.unit 10).stacked = none ∧ (active.unit 10).state ≠ .idle ∧
    endings 10 armed.nq = 0 ∧ (armed.unit 10).stacked = none ∧ (armed.unit 10).state = .idle := by
  decide +kernel

theorem witness_FetchTakesOneItem :
    let q (n : Notice) := armed.modNq fun _ => [n]
    let mask : Vector Bool 4 := #v[true, false, false, false]
    let levels : Vector Level 4 := #v[.low, .high, .high, .high]
    let stacked := armed.modUnit 10 fun x => { x with stacked := some (ended 10) }
    armed.lnk.inHand = none ∧ (q (.unitEnded (ended 3))).nq = .unitEnded (ended 3) :: [] ∧
    (q (.line mask levels)).nq = .line mask levels :: [] ∧
    (q (.opstate .armed .parked .arm)).nq = .opstate .armed .parked .arm :: [] ∧
    (q (.trip .empty .packOvercurrent)).nq = .trip .empty .packOvercurrent :: [] ∧
    (q (.failsafe 2 .failsafe)).nq = .failsafe 2 .failsafe :: [] ∧
    (q (.stage .cutoff .normal 0 0)).nq = .stage .cutoff .normal 0 0 :: [] ∧
    (q (.watch 3598 (-50) .board true false)).nq = .watch 3598 (-50) .board true false :: [] ∧
    stacked.nq = [] ∧ (stacked.unit 10).stacked = some (ended 10) ∧
    (∀ v : UnitNo, v < 10 → (stacked.unit v).stacked = none) ∧
    armed.nq = [] ∧ (∀ u : UnitNo, (armed.unit u).stacked = none) := by decide +kernel

/-! ## Witnesses: settings -/

theorem witness_SetRefusals :
    armed.lnk.inHand = none ∧ namedKey 0x00 0 = none ∧ namedKey 0x28 2 = none ∧
    namedKey 0x08 0 = some (.plain .cellCount) ∧ (Key.plain .cellCount).parkedOnly = true ∧
    armed.vsc.op ≠ .parked ∧ namedKey 0x2B 1 = some (.axle .reverse .rear) ∧
    ((Key.axle .reverse .rear).parkedOnly = true → armed.vsc.op = .parked) ∧
    (Key.axle .reverse .rear).named = true ∧
    (Key.axle .reverse .rear).high < (2 : Byte).toNat + 256 * (0 : Byte).toNat ∧
    namedKey 0x12 0 = some (.plain .cautionLevel) ∧
    ¬ levelsOrdered armed.cfg.sup (.plain .cautionLevel)
      (max 3300 (min 3800 ((0x16 : Byte).toNat + 256 * (0x0D : Byte).toNat))) := by
  unfold levelsOrdered; decide +kernel

/-- HYST set to the value held and to another; every setting that acts at the SET, at a value other than the one
held; a RELAX_TIME of 0 that wakes relaxed outputs, and one under which the relax condition holds. -/
theorem witness_SetStoresAndActs :
    let relaxed := (armed.modCfg fun c => c.put (.plain .relaxTime) 60).modStc fun g => { g with out := .relaxed }
    armed.lnk.inHand = none ∧ namedKey 0x15 0 = some (.plain .hyst) ∧
    ((Key.plain .hyst).parkedOnly = true → armed.vsc.op = .parked) ∧
    ((Key.plain .hyst).named = true → (0xF4 : Byte).toNat + 256 * (0x01 : Byte).toNat ≤ (Key.plain .hyst).high) ∧
    levelsOrdered armed.cfg.sup (.plain .hyst) 300 ∧ (Key.plain .hyst).actsAtSet = false ∧
    armed.cfg.value (.plain .hyst) = max 20 (min 300 ((100 : Byte).toNat + 256 * (0 : Byte).toNat)) ∧
    levelsOrdered armed.cfg.sup (.plain .cautionLevel) 3351 ∧
    levelsOrdered armed.cfg.sup (.plain .cutoffLevel) 3349 ∧
    (∀ p ∈ [(Key.plain .cellCount, 4), (.plain .lineMax, 100), (.axle .centre .front, 1000),
        (.axle .travelLeft .rear, 0), (.chan .rated 9, 2000), (.chan .overlayLevel 0, 0), (.chan .overlay 0, 4),
        (.plain .turnThreshold, 900), (.plain .slowThreshold, 0), (.plain .centreBand, 200),
        (.plain .relaxTime, 60)],
      State.reset.cfg.value p.1 ≠ p.2 ∧ p.1.low ≤ p.2 ∧ p.2 ≤ p.1.high ∧ p.1.actsAtSet = true ∧
      levelsOrdered State.reset.cfg.sup p.1 p.2) ∧
    State.reset.vsc.op = .parked ∧ State.reset.lnk.inHand = none ∧
    namedKey 0x30 0 = some (.plain .relaxTime) ∧ relaxed.cfg.value (.plain .relaxTime) ≠ 0 ∧
    relaxed.stc.out = .relaxed ∧ relaxed.vsc.op = .armed ∧ relaxed.lnk.inHand = none ∧
    armed.stc.out = .pulsing ∧ armed.stc.steer.natAbs ≤ 200 ∧ armed.trc.applied = ⟨0, 0⟩ := by
  unfold levelsOrdered; decide +kernel

/-! ## Witnesses: operating states -/

/-- PARKED with a completed scan: the raw cells of a 3S pack and a tap 4. -/
def measured (cell tap4 : Nat) : State :=
  (State.reset.modVsc fun v => { v with measured := true }).modScn fun n =>
    { n with results := { n.results with raw := #v[cell, cell, cell, 0], taps := #v[0, 0, 0, tap4] } }

/-- SHUTTING_DOWN with an axle that has not stopped. -/
def shutting : State :=
  (inOp .shuttingDown (driving 0 100 armed)).modVsc fun v =>
    { v with hold := none, grace := some 200, origin := .shutdown }

/-- TRIPPED at a board temperature. -/
def tripped (temp : Int) : State :=
  ((inOp .tripped armed).modVsc fun v => { v with hold := none, firstCause := some (.overtemp .board) }).modScn
    fun n => { n with results := { n.results with temp := ⟨temp, 20, 20, 20⟩ } }

/-- FAILSAFE after its entry. -/
def failed : State := after .holdExpiry armed

/-- The winch unit runs a powered step with a still clutch. -/
def pulling : State := winching 9 ⟨.inward, .load 9000, 700, .stop⟩ .runningPowered .engaged armed

theorem witness_ArmRefusals :
    let low := (measured 2500 0).modSup fun u => { u with stage := .cutoff }
    State.reset.lnk.inHand = none ∧ State.reset.vsc.op = .parked ∧ State.reset.vsc.measured = false ∧
    low.vsc.measured = true ∧ low.sup.stage = .cutoff ∧ (measured 2500 1001).vsc.op = .parked ∧
    (measured 2500 1001).vsc.measured = true ∧ (measured 2500 1001).sup.stage ≠ .cutoff ∧
    ((measured 2500 1001).cfg.scn.cellCount < 3 + 1 ∧ 1000 < (measured 2500 1001).scn.results.taps[3]) ∧
    (∀ j : Fin 4, j < 3 → ¬ ((measured 2500 1001).cfg.scn.cellCount < j.val + 1 ∧
      1000 < (measured 2500 1001).scn.results.taps[j])) ∧
    (∀ j : Fin 4, ¬ ((measured 2499 1000).cfg.scn.cellCount < j.val + 1 ∧
      1000 < (measured 2499 1000).scn.results.taps[j])) ∧
    (0 + 1 ≤ (measured 2499 1000).cfg.scn.cellCount ∧ (measured 2499 1000).scn.results.raw[0] < 2500) ∧
    (∀ j : Fin 4, ¬ j < (0 : Fin 4)) := by decide +kernel

theorem witness_ArmAccepted :
    let s := measured 2500 1000
    s.lnk.inHand = none ∧ s.vsc.op = .parked ∧ s.vsc.measured = true ∧ s.sup.stage ≠ .cutoff ∧
    (∀ i : Fin 4, s.cfg.scn.cellCount < i.val + 1 → s.scn.results.taps[i] ≤ 1000) ∧
    (∀ i : Fin 4, i.val + 1 ≤ s.cfg.scn.cellCount → 2500 ≤ s.scn.results.raw[i]) := by decide +kernel

theorem witness_ArmElsewhere :
    ∀ op ∈ [OpState.armed, .failsafe, .shuttingDown, .tripped],
      (inOp op armed).lnk.inHand = none ∧ (inOp op armed).vsc.op = op := by decide

theorem witness_ParkByState :
    (∀ op ∈ [OpState.parked, .armed, .failsafe, .shuttingDown],
      (inOp op armed).lnk.inHand = none ∧ (inOp op armed).vsc.op = op) ∧
    (tripped 95).lnk.inHand = none ∧ (tripped 95).vsc.op = .tripped ∧
    presentConditions (tripped 95) ≠ .empty ∧ presentConditions (tripped 94) = .empty := by decide +kernel

theorem witness_HoldExpiryByState :
    State.reset.vsc.hold = none ∧ armed.vsc.hold.isSome = true ∧ armed.vsc.op = .armed ∧
    (armed.unit 0).state ≠ .running ∧ pulling.vsc.hold.isSome = true ∧ pulling.vsc.op = .armed ∧
    (pulling.unit 0).state = .running ∧ pulling.wch.clutch.moving = false ∧ failed.vsc.hold.isSome = true ∧
    failed.vsc.op = .failsafe ∧ atRest failed ∧
    ¬ atRest (failed.modTrc fun t => { t with applied := ⟨1, 0⟩ }) ∧
    (failed.modTrc fun t => { t with applied := ⟨1, 0⟩ }).vsc.op = .failsafe := by
  unfold atRest; decide +kernel

theorem witness_GraceExpiryForces :
    let halting := shutting.modUnit 0 fun x => { x with state := .halting, haltCause := some .shutdown }
    armed.vsc.grace = none ∧ shutting.vsc.grace.isSome = true ∧ shutting.vsc.op = .shuttingDown ∧
    (shutting.unit 0).state = .idle ∧ halting.vsc.grace.isSome = true ∧ halting.vsc.op = .shuttingDown ∧
    (halting.unit 0).state ≠ .idle := by decide +kernel

theorem witness_ComparatorTrips :
    let shorted := armed.modVsc fun v => { v with comparator := ⟨false, false, true⟩ }
    let known := (tripped 20).modVsc fun v => { v with causes := CauseSet.empty.add (.short .front) }
    shorted.vsc.comparator.get .winch = true ∧ armed.vsc.comparator.get .front = false ∧
    armed.vsc.op ≠ .tripped ∧ (tripped 20).vsc.comparator.get .front = false ∧ (tripped 20).vsc.op = .tripped ∧
    known.vsc.causes.has (.short .front) = true ∧ (tripped 20).vsc.causes.has (.short .front) = false := by
  decide +kernel

/-- Among others: relaxed outputs, which a throttle one beyond NEUTRAL_BAND or a steer one beyond CENTRE_BAND
wakes, and which a DRIVE within both leaves relaxed. -/
theorem witness_DriveByState :
    let relaxed := armed.modStc fun g => { g with out := .relaxed }
    armed.lnk.inHand = none ∧ 4 < (5 : Byte).toNat ∧ (4 : Byte).toNat ≤ 4 ∧ State.reset.vsc.op ≠ .armed ∧
    State.reset.vsc.op ≠ .failsafe ∧ (4 : Byte).toNat = Dig.rearFree.code ∧ armed.vsc.op = .armed ∧
    failed.lnk.inHand = none ∧ failed.vsc.op = .failsafe ∧ relaxed.lnk.inHand = none ∧
    relaxed.vsc.op = .armed ∧ relaxed.stc.out = .relaxed ∧ (51 : Int).natAbs = armed.cfg.vsc.neutralBand + 1 ∧
    (61 : Int).natAbs = armed.cfg.stc.centreBand + 1 := by decide +kernel

/-- A vehicle that drives while its scan waits for the FRONT bridge's trigger. -/
def waiting : State :=
  (driving 700 20 armed).modScn fun n =>
    { n with scan := some ⟨.continuous, 5, Vector.replicate 12 none⟩, wait := some .front }

theorem traction_waiting : TractionOk waiting where
  off := by decide
  held := by decide
  neutral := fun _ h => absurd h.2 (by decide)
  braking := fun _ _ ⟨x, h⟩ => by cases x <;> revert h <;> unfold axleBrakes <;> decide
  moving := fun _ _ _ => by decide
  flag := by
    constructor
    · exact fun h => absurd h (by decide)
    · rintro (h | h | h)
      · exact absurd h (by decide)
      · exact absurd h.1 (by decide)
      · exact absurd h.1 (by decide)

theorem scan_waiting : ScanOk waiting where
  wait := fun b h => by
    cases Option.some.inj h
    exact ⟨by decide, _, rfl, rfl, rfl⟩
  watch := fun c h => by
    cases Option.some.inj h
    decide

theorem witness_VehicleStaysConsistent :
    VehicleOk waiting ∧ (∀ x, AxleOk waiting x) ∧ TractionOk waiting ∧ ScanOk waiting ∧
    exec .driveFrameExpiry waiting = .next (after .driveFrameExpiry waiting) := by
  refine ⟨⟨by decide, by decide, by decide, by decide, by decide, by decide, by decide, by decide, by decide⟩,
    fun x => ⟨by cases x <;> decide, by cases x <;> decide⟩, traction_waiting, scan_waiting, exec_after _ _⟩

/-- 02 section 2.2.2: a trip opens the bridge that the scan waits for, and the wait ends. -/
theorem test_wait_ends_at_zero :
    waiting.scn.wait = some .front ∧ (after (.shortComparatorAssert .rear) waiting).scn.wait = none ∧
    (after .driveFrameExpiry waiting).scn.wait = some .front := by decide +kernel

/-! ## Witnesses: scans and the supply -/

theorem witness_ConversionsWalkTheScanList :
    let s := armed.modScn fun n => { n with scan := some ⟨.watch, 3, Vector.replicate 12 none⟩ }
    let w := armed.modScn fun n => { n with wait := some .front }
    let idle := State.reset.modScn fun n => { n with scan := none }
    idle.scn.scan = none ∧ w.scn.wait ≠ none ∧
    armed.scn.scan = some (Scan.begin .continuous) ∧ armed.scn.wait = none ∧
    (1 : Fin 12).val = (Scan.begin .continuous).slot.val + 1 ∧
    s.scn.scan = some ⟨.watch, 3, Vector.replicate 12 none⟩ ∧ s.scn.wait = none ∧
    (8 : Fin 12).val = (if ScanMode.watch = .watch ∧ (3 : Fin 12) = 3 then 8 else (3 : Fin 12).val + 1) ∧
    w.scn.wait = some .front ∧ w.scn.wait ≠ some .rear ∧ armed.scn.watchTimer = none ∧
    State.reset.scn.watchTimer.isSome = true ∧ State.reset.scn.scan.isSome = true ∧
    idle.scn.watchTimer.isSome = true := by decide +kernel

/-- The last slot of a CONTINUOUS scan of a pack, with one code of every slot. -/
def lastSlot : State := atLastSlot .continuous (Vector.replicate 12 (some 1600)) armed

/-- A scan in each mode; a watch check that finds a cell low, and one with the flag set. -/
theorem witness_CompletionPublishesResults :
    let watch := atLastSlot .watch (Vector.replicate 12 (some 1600)) State.reset
    let c : Scan := ⟨.watch, 11, Vector.replicate 12 (some 1600)⟩
    let q := scanComplete c watch
    lastSlot.scn.scan = some ⟨.continuous, 11, Vector.replicate 12 (some 1600)⟩ ∧ lastSlot.scn.wait = none ∧
    2 ≤ lastSlot.cfg.scn.cellCount ∧ lastSlot.cfg.scn.cellCount ≤ 4 ∧ lastSlot.scn.mode = .continuous ∧
    watch.scn.scan = some c ∧ watch.scn.wait = none ∧ watch.scn.mode = .watch ∧
    watch.scn.excursion = false ∧ q.scn.results.minFiltered < q.cfg.scn.watchLow := by decide +kernel

/-- AUX0 (DRUM_PULSE) accepts a low level, AUX1 (FAIRLEAD) keeps its high one. -/
theorem witness_BlocksActInSomeOrder :
    let s := withLines .generalInput armed
    let pins : PinLevels := ⟨.low, .high, .high, .high⟩
    let t := s.modLmx fun m => { m with lines := m.lines.set 0 ⟨.drumPulse, some .low, .high⟩ }
    lastSlot.scn.scan = some ⟨.continuous, 11, Vector.replicate 12 (some 1600)⟩ ∧ lastSlot.scn.wait = none ∧
    (t.lmx.lines[0]).fn = .drumPulse ∧ (∀ k : Fin 4, k ≠ 0 → (t.lmx.lines[k]).fn ≠ .drumPulse) ∧
    (t.lmx.lines[0]).sample = some (pinLevel pins 0) ∧ pinLevel pins 0 ≠ (t.lmx.lines[0]).accepted ∧
    (∀ k : Fin 4, (s.lmx.lines[k]).fn = .fairlead →
      ¬ ((s.lmx.lines[k]).sample = some (pinLevel pins k) ∧ pinLevel pins k ≠ (s.lmx.lines[k]).accepted)) := by
  decide +kernel

theorem witness_CompletionSetsStageAndCeiling :
    lastSlot.scn.scan = some ⟨.continuous, 11, Vector.replicate 12 (some 1600)⟩ ∧ lastSlot.scn.wait = none ∧
    (⟨.continuous, 11, Vector.replicate 12 (some 1600)⟩ : Scan).slot = 11 := by decide +kernel

/-- Cells below CUTOFF_LEVEL for the 200th time, with a light unit that runs: the stage becomes CUTOFF. -/
def emptied : State :=
  ((lighting 2 20 ⟨9, 1, 0, .stop⟩ [20] 0 armed).modSup fun u => { u with cutoffCount := 199 }).modScn fun n =>
    { n with results := { n.results with minFiltered := 3199, minRaw := 3199 } }

/-- SHUTTING_DOWN with one axle at a duty above a duty cap of 0: the cut leaves both at 0 and completes it; in ARMED
the same cut completes nothing. -/
theorem witness_SupplyPublishesAndCuts :
    let s := emptied.modTrc fun t => { t with applied := ⟨40, 0⟩, target := ⟨40, 0⟩ }
    let a := emptied.modTrc fun t => { t with applied := ⟨40, 0⟩, target := ⟨40, 0⟩ }
    let s := inOp .shuttingDown s
    let cap (x : Axle) : Nat := (supplyCompletion s).sup.alloc.dutyCap.get x.bridge
    (supplyCompletion emptied).sup.stage = .cutoff ∧ emptied.sup.stage ≠ .cutoff ∧
    (emptied.unit (unitOf 2)).state = .running ∧ (emptied.unit (unitOf 3)).state ≠ .running ∧
    ¬ CutCompletes emptied cap ∧ CutCompletes s cap ∧
    (¬ ∃ x, (supplyCompletion emptied).sup.alloc.dutyCap.get x.bridge < (emptied.trc.applied.get x).natAbs) ∧
    cap .front < (s.trc.applied.get .front).natAbs ∧ a.vsc.op ≠ .shuttingDown ∧
    (supplyCompletion a).sup.alloc.dutyCap.get .front < (a.trc.applied.get .front).natAbs := by
  have no : ¬ CutCompletes emptied fun x =>
      (supplyCompletion (inOp .shuttingDown (emptied.modTrc fun t =>
        { t with applied := ⟨40, 0⟩, target := ⟨40, 0⟩ }))).sup.alloc.dutyCap.get x.bridge := fun h => absurd h.1 (by decide)
  exact ⟨by decide +kernel, by decide, by decide +kernel, by decide +kernel, no,
    ⟨⟨by decide, ⟨.front, by decide +kernel⟩, fun x => by cases x <;> decide +kernel, by decide +kernel, by decide⟩,
    fun ⟨x, h⟩ => by cases x <;> exact absurd h (by decide +kernel), by decide +kernel, by decide,
    by decide +kernel⟩⟩

/-- An assist cap of 90 that falls to 40 with an axle above it, in ARMED and in SHUTTING_DOWN; a LOAD step that
has reached its current and one that has not. -/
theorem witness_CompletionStepsAssistAndWinch :
    let results : ScanResults := { ScanResults.atReset with kind := some .continuous, bridge := ⟨0, 0, 299⟩ }
    let s := (armed.modScn fun n => { n with results := results }).modTrc fun t =>
      { t with assist := some 90, applied := ⟨60, 0⟩ }
    let gone := (inOp .shuttingDown s).modTrc fun t => { t with assist := some 50 }
    let load (mA : Nat) := (winching 9 ⟨.inward, .load mA, 700, .stop⟩ .runningPowered .engaged armed).modScn
      fun n => { n with results := results }
    s.trc.assist = some 90 ∧ s.scn.results.kind = some .continuous ∧
    s.scn.results.bridge.winch < s.cfg.trc.slackLevel ∧ armed.trc.assist = none ∧
    ¬ CutCompletes s (fun _ => 90 - 50) ∧ gone.trc.assist = some 50 ∧ CutCompletes gone (fun _ => 50 - 50) ∧
    armed.wch.state ≠ .runningPowered ∧ (load 299).wch.state = .runningPowered ∧
    (load 299).scn.results.kind = some .continuous ∧ 90 - 50 < (s.trc.applied.get .front).natAbs ∧
    (s.trc.applied.get .rear).natAbs ≤ 90 - 50 ∧
    (load 299).wch.step = some ⟨9, ⟨.inward, .load 299, 700, .stop⟩⟩ ∧
    299 ≤ (load 299).scn.results.bridge.winch ∧ (load 300).scn.results.bridge.winch < 300 := by
  intro results s gone load
  exact ⟨rfl, rfl, by decide, rfl, fun h => absurd h.1 (by decide), rfl,
    ⟨by decide, ⟨.front, by decide⟩, fun x => by cases x <;> decide, by decide, by decide⟩,
    by decide, by decide +kernel, by decide +kernel, by decide, by decide, by decide +kernel, by decide +kernel,
    by decide +kernel⟩

/-- A board temperature at TRIP_TEMP is a cause, one degree below is none; a stage becomes CUTOFF at the
200th count. For VSC's own part: a cause, a known one and none, in each operating state. -/
theorem witness_CompletionTripsOrCutsOff :
    let hot := (tripped 110).modVsc fun v => { v with op := .armed }
    let known := (tripped 110).modVsc fun v => { v with causes := CauseSet.empty.add (.overtemp .board) }
    lastSlot.scn.scan = some ⟨.continuous, 11, Vector.replicate 12 (some 1600)⟩ ∧ lastSlot.scn.wait = none ∧
    temperature 3276 = 110 ∧ temperature 3275 = 109 ∧
    stageNext Settings.default.sup .normal (cutoffCountNext 3200 3199 199) 3199 = .cutoff ∧
    CauseDue hot (.overtemp .board) ∧ (∀ x, CauseDue hot x → (TripCause.overtemp .board).code ≤ x.code) ∧
    hot.vsc.op ≠ .tripped ∧ known.vsc.op = .tripped ∧
    (∀ x, CauseDue known x → known.vsc.causes.has x = true) ∧ (tripped 110).vsc.op = .tripped ∧
    CauseDue (tripped 110) (.overtemp .board) ∧ (tripped 110).vsc.causes.has (.overtemp .board) = false ∧
    (∀ x, ¬ CauseDue armed x) ∧ armed.vsc.op = .armed ∧ failed.vsc.op = .failsafe := by
  have only (s : State) (h : ∀ x : Sensor, x ≠ .board → s.scn.results.temp.get x < s.cfg.vsc.tripTemp)
      (k : s.scn.results.kind ≠ some .continuous) (x : TripCause) (d : CauseDue s x) : x = .overtemp .board := by
    cases x with
    | short _ => exact d.elim
    | packOvercurrent => exact absurd d.1 k
    | overtemp x =>
      by_cases e : x = .board
      · rw [e]
      · exact absurd d (by show ¬ _ ≤ _; have := h x e; omega)
  refine ⟨by decide +kernel, by decide +kernel, by decide, by decide, by decide, by show _ ≤ _; decide +kernel,
    fun x d => ?_, by decide +kernel, by decide +kernel, fun x d => ?_, by decide +kernel,
    by show _ ≤ _; decide +kernel, by decide +kernel, fun x d => ?_, by decide, by decide +kernel⟩
  · rw [only _ (fun y e => by cases y <;> first | exact absurd rfl e | decide +kernel) (by decide +kernel) x d]
  · rw [only _ (fun y e => by cases y <;> first | exact absurd rfl e | decide +kernel) (by decide +kernel) x d]
    decide +kernel
  · have e := only _ (fun y e => by cases y <;> first | exact absurd rfl e | decide +kernel) (by decide +kernel) x d
    rw [e] at d
    exact absurd d (by show ¬ _ ≤ _; decide +kernel)

/-- The allocation of 03 section 3.9.1; and an assist in progress, with both axles at the assist cap, below their
duty caps. -/
theorem witness_GrantsAndCapsHold :
    let s := heavyPull.modSup fun _ => supNext heavyPull
    let a := (driving 600 420 armed).modTrc fun t => { t with assist := some 420 }
    exec .driveFrameExpiry s = .next (after .driveFrameExpiry s) ∧ GrantsOk s.sup.alloc ∧
    exec .driveFrameExpiry a = .next (after .driveFrameExpiry a) ∧ CapsOk a :=
  ⟨exec_after _ _, ⟨by decide +kernel, by decide +kernel, by decide +kernel, by intro b; cases b <;> decide +kernel⟩,
    exec_after _ _, ⟨by intro x; cases x <;> decide +kernel, by intro cap h x; cases h; cases x <;> decide +kernel,
    by decide +kernel, by decide +kernel⟩⟩

/-! ## Witnesses: driving and steering -/

theorem witness_DriveFrameSlews :
    let still := (armed.modTrc fun t => { t with hold := .none })
    let relaxed := (driving 700 20 armed).modStc fun g => { g with out := .relaxed }
    let slowed := shutting.modTrc fun t => { t with hold := .shutdown, applied := ⟨20, 0⟩ }
    State.reset.trc.state = .off ∧ (driving 700 20 armed).trc.state ≠ .off ∧
    (driving 700 20 armed).vsc.op ≠ .shuttingDown ∧ (driving 700 20 armed).vsc.op = .armed ∧
    (driving 700 20 armed).trc.hold = .none ∧ failed.trc.hold ≠ .none ∧ failed.vsc.op = .failsafe ∧
    shutting.trc.state ≠ .off ∧ shutting.vsc.op = .shuttingDown ∧ (shutting.unit 0).state = .idle ∧
    shutting.wch.clutch.moving = false ∧ slowed.trc.state ≠ .off ∧ slowed.vsc.op = .shuttingDown ∧
    slowed.trc.hold ≠ .none ∧ slowed.trc.applied = ⟨20, 0⟩ ∧ slowed.cfg.trc.throttleSlew = 20 ∧
    slowed.trc.assist = none ∧ (slowed.unit 0).state = .idle ∧ slowed.wch.clutch.moving = false ∧
    still.trc.state ≠ .off ∧ still.vsc.op = .armed ∧
    still.trc.throttle = 0 ∧ relaxed.stc.out = .relaxed ∧ relaxed.vsc.op = .armed ∧
    relaxed.trc.state ≠ .off := by decide +kernel

theorem witness_SteerModeDecided :
    armed.lnk.inHand = none ∧ 4 < (5 : Byte).toNat ∧ (4 : Byte).toNat = SteerMode.blend.code ∧
    (armed.modStc fun t => { t with steer := 60 }).stc.steer.natAbs ≤ armed.cfg.stc.centreBand ∧
    ¬ (armed.vsc.op = .parked ∨ armed.vsc.op = .tripped ∨ SteerMode.blend = armed.stc.mode ∨
      (armed.modStc fun t => { t with steer := -61 }).stc.steer.natAbs ≤ armed.cfg.stc.centreBand) := by
  decide +kernel

theorem witness_RelaxTimerRelaxes :
    let s := armed.modStc fun t => { t with relax := some 2 }
    s.stc.relax.isSome = true ∧ s.vsc.op = .armed ∧ s.stc.out = .pulsing ∧ armed.stc.relax = none := by
  decide +kernel

/-- Every setting of the defaults lies in its range. -/
theorem default_settings_ok : SettingsOk Settings.default :=
  ⟨by
    intro k
    cases k with
    | plain p => cases p <;> decide
    | axle a x => cases a <;> cases x <;> decide
    | chan a c => cases a <;> revert c <;> decide +kernel, by decide⟩

/-- Both edges of the output windows, 1 100 and 1 900. -/
theorem witness_PulsesStayInWindows :
    let s := armed.modStc fun t => { t with steer := -1000, target := ⟨1100, 1900⟩, output := ⟨1900, 1100⟩ }
    SteerOk s ∧ exec .servoFrameExpiry s = .next (after .servoFrameExpiry s) :=
  ⟨⟨default_settings_ok, by decide, by intro x; cases x <;> exact ⟨by decide, by decide⟩,
    by intro x; cases x <;> exact ⟨by decide, by decide⟩⟩, exec_after _ _⟩

/-! ## Witnesses: programs -/

theorem witness_StoreStepsWrites :
    let bad : List Byte := [0x03, 0, 0, 0, 0, 0, 0, 0]
    let used := armed.modPgc fun p => { p with useCount := p.useCount.set 122 1 }
    armed.lnk.inHand = none ∧ 1 ≤ (6 : Byte).toNat ∧ (6 : Byte).toNat ≤ 6 ∧
    (List.replicate 48 (0 : Byte)).length = 8 * (6 : Byte).toNat ∧ 128 < (123 : Byte).toNat + 6 ∧
    (122 : Byte).toNat + 6 ≤ 128 ∧ (recordsOf (bad ++ List.replicate 40 0))[0]? = some none ∧
    none ∉ recordsOf (List.replicate 48 0) ∧ (122 : Byte).toNat ≤ (122 : Slot).val ∧
    (122 : Slot).val < (122 : Byte).toNat + 6 ∧ 0 < used.pgc.useCount[122] ∧
    (∀ low : Slot, (122 : Byte).toNat ≤ low.val → low < (122 : Slot) → used.pgc.useCount[low] = 0) ∧
    (∀ slot : Slot, (122 : Byte).toNat ≤ slot.val → slot.val < (122 : Byte).toNat + 6 →
      armed.pgc.useCount[slot] = 0) := by decide +kernel

/-- The widest fields of a record. -/
theorem witness_RecordsRoundTrip :
    StepRec.ok (.light ⟨255, 1000, 1000, .goto 127 255⟩) ∧ StepRec.ok (.winch ⟨.assist, .time 65535, 1000, .next⟩) ∧
    StepRec.ok (.winch ⟨.inward, .load 40000, 0, .stop⟩) ∧ StepRec.ok .empty := by
  simp [StepRec.ok, Link.ok, EndOn.ok]

/-- A winch program and a light program that pass; an empty slot, a program of light steps for the winch and a
NEXT that runs off the end. -/
theorem witness_WalksDecidePrograms :
    let winch := withLines .clutchServo (winchStore armed)
    let full := armed.modPgc fun p => { p with store := p.store.set 127 (.light ⟨9, 0, 0, .next⟩) }
    walk winch 0 40 = .passed [40, 41, 42] ∧ walk flashes 3 20 = .passed [20, 21] ∧
    (∀ slot : Slot, 20 ≤ slot → slot < 21 →
      walkFault flashes 3 20 slot = none ∧ (flashes.pgc.store[slot]).link = .next) ∧
    walkFault flashes 3 20 21 = none ∧ (flashes.pgc.store[21]).link ≠ .next ∧
    (∀ slot : Slot, 22 ≤ slot → slot < 22 → False) ∧ walkFault flashes 3 22 22 = some .emptyStep ∧
    walkFault flashes 0 20 20 = some .wrongKind ∧
    (∀ slot : Slot, 127 ≤ slot →
      walkFault full 1 127 slot = none ∧ (full.pgc.store[slot]).link = .next) := by decide +kernel

theorem witness_StartByUnit :
    let owing := armed.modUnit 3 fun x => { x with stacked := some (ended 3) }
    let active := lighting 2 20 ⟨9, 1, 0, .stop⟩ [20] 0 armed
    let dark := flashes.modSup fun u => { u with stage := .cutoff }
    let ready (clutch : ClutchState) :=
      (withLines .clutchServo (winchStore armed)).modWch fun w => { w with clutch := clutch, position := 1 }
    armed.lnk.inHand = none ∧ 10 < (11 : Byte).toNat ∧ 127 < (128 : Byte).toNat ∧
    (10 : Byte).toNat = (10 : UnitNo).val ∧ (127 : Byte).toNat = (127 : Slot).val ∧
    owing.outstanding 3 = some (ended 3) ∧ active.outstanding 3 = none ∧ (active.unit 3).state ≠ .idle ∧
    State.reset.outstanding 0 = none ∧ (State.reset.unit 0).state = .idle ∧ State.reset.vsc.op ≠ .armed ∧
    dark.outstanding 3 = none ∧ (dark.unit 3).state = .idle ∧ dark.sup.stage = .cutoff ∧
    armed.outstanding 0 = none ∧ (armed.unit 0).state = .idle ∧ armed.vsc.op = .armed ∧
    walk armed 0 127 = .failed 127 .emptyStep ∧ flashes.sup.stage ≠ .cutoff ∧
    walk flashes 3 20 = .passed [20, 21] ∧ chanOf 3 = some 2 ∧
    flashes.pgc.store[20] = .light ⟨255, 0, 30, .next⟩ ∧ walk (ready .engaged) 0 40 = .passed [40, 41, 42] ∧
    (ready .engaged).pgc.store[40] = .winch ⟨.outward, .distance 500, 600, .next⟩ ∧
    clutchMeets (ready .freed) .outward = false ∧ clutchMeets (ready .engaged) .outward = true ∧
    (ready .engaged).wch.position < (ready .engaged).cfg.wch.lineMax * 10 ∧
    (ready .engaged).fairleadActive = false ∧ 0 < (ready .engaged).wch.position := by decide +kernel

theorem witness_HaltByUnit :
    let halting := armed.modUnit 0 fun x => { x with state := .halting }
    let moving := pulling.modWch fun w => { w with clutch := .movingToFree }
    let light := lighting 9 20 ⟨9, 1, 0, .stop⟩ [20] 0 armed
    armed.lnk.inHand = none ∧ 10 < (11 : Byte).toNat ∧ (10 : Byte).toNat = (10 : UnitNo).val ∧
    (armed.unit 10).state = .idle ∧ (halting.unit 0).state = .halting ∧ (moving.unit 0).state = .running ∧
    moving.wch.clutch.moving = true ∧ (pulling.unit 0).state = .running ∧ pulling.wch.clutch.moving = false ∧
    pulling.vsc.op ≠ .shuttingDown ∧ (light.unit 10).state = .running ∧ (10 : UnitNo) = unitOf 9 := by
  decide +kernel

/-- A light unit that runs, and a status of another unit in the queue. -/
theorem witness_UnitsStayConsistent :
    let s := after (.start 0 [3, 20, 0x11]) (flashes.modNq fun _ => [.unitEnded (ended 4)])
    UnitsOk s ∧ exec (.halt 0 [4]) s = .next (after (.halt 0 [4]) s) := by
  intro s
  have none_stacked : ∀ u : UnitNo, (s.unit u).stacked = none := by decide +kernel
  exact ⟨⟨by decide +kernel, by decide +kernel, by simp [none_stacked], by decide +kernel, by decide +kernel,
    by unfold WinchBegun; decide +kernel, by decide +kernel, by decide +kernel⟩, exec_after _ _⟩

/-! ## Witnesses: the winch, lights and lines -/

theorem witness_LineSetSetsPosition :
    armed.lnk.inHand = none ∧ (armed.unit 0).state = .idle ∧ (pulling.unit 0).state ≠ .idle ∧
    pulling.lnk.inHand = none ∧ ([0] : List Byte).length ≠ 2 := by decide +kernel

theorem witness_ClutchTravelArrives :
    let free := winching 41 ⟨.free, .time 200, 0, .next⟩ .waitClutch .movingToFree (withLines .clutchServo armed)
    let timed (s : State) := s.modWch fun w => { w with clutchTimer := some 300 }
    let turned := timed (free.modWch fun w => { w with clutch := .movingToEngage })
    let halting := timed (armed.modUnit 0 fun x => { x with state := .halting, haltCause := some .halted })
    let still := shutting.modTrc fun t => { t with applied := ⟨0, 0⟩ }
    let ending := timed (still.modUnit 0 fun x => { x with state := .halting, haltCause := some .shutdown })
    armed.wch.clutchTimer = none ∧ (timed armed).wch.clutchTimer.isSome = true ∧
    (timed pulling).wch.state ≠ .waitClutch ∧ ((timed pulling).unit 0).state = .running ∧
    (timed pulling).wch.clutchTimer.isSome = true ∧
    ((timed armed).unit 0).state = .idle ∧ (timed armed).vsc.op ≠ .shuttingDown ∧
    ((timed still).unit 0).state = .idle ∧ (timed still).vsc.op = .shuttingDown ∧
    (timed still).trc.applied = ⟨0, 0⟩ ∧ (timed still).wch.clutchTimer.isSome = true ∧
    (halting.unit 0).state = .halting ∧ (halting.unit 0).haltCause = some .halted ∧
    halting.vsc.op ≠ .shuttingDown ∧ halting.wch.clutchTimer.isSome = true ∧
    (ending.unit 0).state = .halting ∧ (ending.unit 0).haltCause = some .shutdown ∧
    ending.vsc.op = .shuttingDown ∧ ending.trc.applied = ⟨0, 0⟩ ∧ ending.wch.clutchTimer.isSome = true ∧
    ((timed free).unit 0).state = .running ∧ (timed free).wch.state = .waitClutch ∧
    (timed free).wch.step = some ⟨41, ⟨.free, .time 200, 0, .next⟩⟩ ∧
    clutchMeets ((timed free).modWch fun w => { w with clutch := .freed, clutchTimer := none }) .free = true ∧
    turned.wch.step = (timed free).wch.step ∧
    clutchMeets (turned.modWch fun w => { w with clutch := .engaged, clutchTimer := none }) .free = false := by
  decide +kernel

/-- At a START: the fairlead level active, P at 0 and P at its maximum, and a FAIRLEAD step that completes at
once, alone and before another one; at a clutch travel expiry: P at its maximum, and such a FAIRLEAD step. -/
theorem witness_BeginningTestsEndPrograms :
    let ready (slot : Slot) (r : WinchRec) (position : Nat) :=
      (stored slot (.winch r) (withLines .clutchServo armed)).modWch fun w =>
        { w with clutch := .engaged, position := position }
    let active (s : State) := s.modLmx fun m => { m with lines := m.lines.set 1 ⟨.fairlead, some .low, .low⟩ }
    let haul : WinchRec := ⟨.inward, .time 9, 700, .stop⟩
    let toFairlead : WinchRec := ⟨.inward, .fairlead, 700, .stop⟩
    let free : WinchRec := ⟨.free, .time 9, 0, .stop⟩
    let waits (r : WinchRec) (clutch : ClutchState) (position : Nat) :=
      (winching 41 r .waitClutch clutch (withLines .clutchServo armed)).modWch fun w =>
        { w with clutchTimer := some 300, position := position }
    let s := ready 40 haul 0
    let f := waits free .movingToFree 30000
    let g := active (waits toFairlead .movingToEngage 7)
    let first : WinchRec := ⟨.assist, .fairlead, 700, .next⟩
    let chain := stored 41 (.winch toFairlead) (active (ready 40 first 7))
    s.lnk.inHand = none ∧ s.outstanding 0 = none ∧ (s.unit 0).state = .idle ∧ s.vsc.op = .armed ∧
    (40 : Byte).toNat = (40 : Slot).val ∧ walk s 0 40 = .passed [40] ∧ s.pgc.store[40] = .winch haul ∧
    clutchMeets s .inward = true ∧ s.fairleadActive = false ∧ s.wch.position = 0 ∧
    (active s).fairleadActive = true ∧ walk (active s) 0 40 = .passed [40] ∧ haul.endOn ≠ .fairlead ∧
    walk (ready 40 ⟨.outward, .time 9, 700, .stop⟩ 30000) 0 40 = .passed [40] ∧
    (ready 40 ⟨.outward, .time 9, 700, .stop⟩ 30000).cfg.wch.lineMax * 10 ≤
      (ready 40 ⟨.outward, .time 9, 700, .stop⟩ 30000).wch.position ∧
    walk (active (ready 40 toFairlead 7)) 0 40 = .passed [40] ∧
    CompletesAtOnce (active (ready 40 toFairlead 7)) toFairlead ∧
    walk chain 0 40 = .passed [40, 41] ∧ CompletesAtOnce chain first ∧ clutchMeets chain toFairlead.action = true ∧
    (chain.pgc.store[40]).link = .next ∧ chain.pgc.store[41] = .winch toFairlead ∧
    CompletesAtOnce (begunAtOnce chain first) toFairlead ∧
    f.wch.clutchTimer.isSome = true ∧ f.vsc.op ≠ .shuttingDown ∧ (f.unit 0).state = .running ∧
    f.wch.state = .waitClutch ∧ f.wch.step = some ⟨41, free⟩ ∧
    clutchMeets (f.modWch fun w => { w with clutch := .freed, clutchTimer := none }) .free = true ∧
    f.cfg.wch.lineMax * 10 ≤ f.wch.position ∧
    g.wch.clutchTimer.isSome = true ∧ g.vsc.op ≠ .shuttingDown ∧ (g.unit 0).state = .running ∧
    g.wch.state = .waitClutch ∧ g.wch.step = some ⟨41, toFairlead⟩ ∧
    clutchMeets (g.modWch fun w => { w with clutch := .engaged, clutchTimer := none }) .inward = true ∧
    CompletesAtOnce (g.modWch fun w => { w with clutch := .engaged, clutchTimer := none }) toFairlead := by
  unfold CompletesAtOnce; decide +kernel

/-- A TIME step at its last frame and before it; a DISTANCE step whose pulse is the last and one that runs on; P
one pulse away from 0 and from its maximum; a fairlead level that is active, for a FAIRLEAD step and another. -/
theorem witness_WinchRunsAtFrames :
    let run (r : WinchRec) (frames travel position : Nat) :=
      (winching 9 r .runningPowered .engaged (withLines .off armed)).modWch fun w =>
        { w with frames := frames, travel := travel, position := position }
    let active (s : State) := s.modLmx fun m => { m with lines := m.lines.set 1 ⟨.fairlead, some .low, .low⟩ }
    let timed : WinchRec := ⟨.inward, .time 5, 700, .stop⟩
    let far : WinchRec := ⟨.outward, .distance 4, 700, .next⟩
    let toFairlead : WinchRec := ⟨.assist, .fairlead, 700, .stop⟩
    let freed := winching 9 ⟨.free, .time 5, 0, .stop⟩ .freewheel .freed armed
    let holds := winching 9 ⟨.hold, .time 5, 0, .stop⟩ .holding .engaged armed
    armed.wch.step = none ∧ (run timed 4 0 20).wch.step = some ⟨9, timed⟩ ∧
    (run timed 4 0 20).wch.state = .runningPowered ∧ 5 ≤ min 65535 (4 + 1) ∧ min 65535 (3 + 1) < 5 ∧
    4 * 10 ≤ 20 + 20 ∧ 19 + 20 < 4 * 10 ∧ (run far 0 20 300).wch.step = some ⟨9, far⟩ ∧
    (run timed 0 0 20).wch.position ≤ (run timed 0 0 20).cfg.wch.linePerPulse ∧
    ¬ (run timed 0 0 21).wch.position ≤ (run timed 0 0 21).cfg.wch.linePerPulse ∧
    min (29980 + 20) (3000 * 10) = 3000 * 10 ∧ min (29979 + 20) (3000 * 10) ≠ 3000 * 10 ∧
    (active (run toFairlead 0 0 300)).fairleadActive = true ∧ (run toFairlead 0 0 300).fairleadActive = false ∧
    toFairlead.endOn = .fairlead ∧ (active (run timed 0 0 300)).fairleadActive = true ∧
    timed.endOn ≠ .fairlead ∧ freed.wch.state = .freewheel ∧
    freed.wch.step = some ⟨9, ⟨.free, .time 5, 0, .stop⟩⟩ ∧ holds.wch.state = .holding := by decide +kernel

theorem witness_StallEndsProgram :
    let s := pulling.modWch fun w => { w with stall := some 500 }
    let w := (s.modWch fun w => { w with applied := 700 }).modScn fun n => { n with wait := some .winch }
    pulling.wch.stall = none ∧ s.wch.stall.isSome = true ∧ s.wch.state = .runningPowered ∧
    w.wch.stall.isSome = true ∧ w.wch.state = .runningPowered ∧ w.wch.applied ≠ 0 ∧ w.scn.wait = some .winch := by
  decide +kernel

theorem witness_SetLightStoresLevel :
    armed.lnk.inHand = none ∧ 9 < (10 : Byte).toNat ∧ (9 : Byte).toNat = (9 : Chan).val ∧
    ([9] : List Byte).length ≠ 2 ∧ (armed.chan 9).source = .manual ∧ ((pulse 3 175).chan 4).source = .program := by
  decide +kernel

/-- A step that runs on; one that completes at each kind of link; a line that seeds, one that accepts its change,
one that keeps its level, and a drum pulse. -/
theorem witness_LightFrameRuns :
    let step (link : Link) := lighting 4 60 ⟨200, 4, 2, link⟩ [59, 60] 5 armed
    let pins : PinLevels := ⟨.low, .high, .low, .low⟩
    let s := withLines .generalInput armed
    let t := s.modLmx fun m => { m with lines := m.lines.set 2 ⟨.generalInput, some .low, .high⟩ }
    let u := s.modLmx fun m => { m with lines := m.lines.set 0 ⟨.drumPulse, some .low, .high⟩ }
    armed.vsc.op ≠ .shuttingDown ∧ shutting.vsc.op = .shuttingDown ∧ ¬ WinchBegun shutting ∧
    (armed.chan 0).source = .manual ∧ ((pulse 4 200).chan 4).source = .program ∧
    ((pulse 4 200).chan 4).step = some ⟨60, ⟨200, 4, 2, .next⟩⟩ ∧ ((pulse 4 200).chan 4).frames + 1 < 4 + 2 ∧
    (∀ link ∈ [Link.stop, .next, .goto 59 3], ((step link).chan 4).source = .program ∧
      ((step link).chan 4).step = some ⟨60, ⟨200, 4, 2, link⟩⟩ ∧ 4 + 2 ≤ ((step link).chan 4).frames + 1 ∧
      ((step link).pgc.store[((step link).unit (unitOf 4)).current]).link = link ∧
      ((step link).unit (unitOf 4)).loop = .notLoaded) ∧
    LinkLeads 60 .stop .notLoaded none .notLoaded ∧ LinkLeads 60 .next .notLoaded (some 61) .notLoaded ∧
    LinkLeads 60 (.goto 59 3) .notLoaded (some 59) (.count 2) ∧
    endings (unitOf 4) (step .stop).nq = 0 ∧ armed.wch.state = .idle ∧ armed.wch.step = none ∧
    (s.lmx.lines[2]).sample = none ∧ (t.lmx.lines[2]).sample = some (pinLevel pins 2) ∧
    pinLevel pins 2 ≠ (t.lmx.lines[2]).accepted ∧ (s.lmx.lines[1]).sample = some (pinLevel pins 1) ∧
    pinLevel pins 1 = (s.lmx.lines[1]).accepted ∧ (s.lmx.lines[3]).fn = .off ∧ (u.lmx.lines[0]).sample = some (pinLevel pins 0) ∧ pinLevel pins 0 = .low ∧
    pinLevel pins 0 ≠ (u.lmx.lines[0]).accepted ∧ LinesOk u := by
  have ends : LinkLeads 60 .stop .notLoaded none .notLoaded := ⟨rfl, rfl⟩
  have next : LinkLeads 60 .next .notLoaded (some 61) .notLoaded := ⟨rfl, 61, by decide, rfl⟩
  have back : LinkLeads 60 (.goto 59 3) .notLoaded (some 59) (.count 2) :=
    ⟨fun _ h => absurd h (by decide), fun _ _ => ⟨rfl, rfl⟩, nofun, nofun, nofun⟩
  simp only [ends, next, back, true_and]
  unfold LinesOk WinchBegun
  decide +kernel

/-- A channel in an overlay state. -/
def shows (c : Chan) (o : Overlay) (s : State) : State := s.modChan c fun ch => { ch with overlay := o }

/-- Channel 0 brakes, channel 1 turns left, channel 2 turns right, in ARMED with the axles at rest. -/
def signals : State :=
  shows 0 .on (armed.modCfg fun c =>
    ((c.put (.chan .overlay 0) 1).put (.chan .overlay 1) 3).put (.chan .overlay 2) 4)

/-- The brake channel ON with the left turn channel in BLINK; and, in FAILSAFE, both turn channels in HAZARD. -/
theorem witness_OverlaysMatchConditions :
    let left := shows 1 (.blink 7) (signals.modStc fun g => { g with steer := -401 })
    let hazard := shows 1 .hazard (shows 2 .hazard ((inOp .failsafe signals).modLtc fun l =>
      { l with hazard := some 0 }))
    OverlaysOk left ∧ (left.chan 0).overlay = .on ∧ (left.chan 1).overlay = .blink 7 ∧
    OverlaysOk hazard ∧ (hazard.chan 2).overlay = .hazard ∧
    exec .holdExpiry left = .next (after .holdExpiry left) := by
  have plain (s : State) (c : Chan) (fn : s.cfg.ltc.chan[c].overlay = .none) : ¬ overlayHolds s c := by
    unfold overlayHolds; simp only [fn]; simp
  intro left hazard
  have brakes (s : State) (fn : s.cfg.ltc.chan[(0 : Chan)].overlay = .brake) (b : s.trc.braking = true)
      (m : s.vsc.op = .armed ∨ s.vsc.op = .failsafe) : overlayHolds s 0 :=
    .inl ⟨fn, m.elim .inl fun h => .inr (.inl h), b⟩
  have turns : overlayHolds left 1 := by unfold overlayHolds; decide +kernel
  have right : ¬ overlayHolds left 2 := by unfold overlayHolds; decide +kernel
  refine ⟨fun c => ?_, by decide +kernel, by decide +kernel, fun c => ?_, by decide +kernel, exec_after _ _⟩
  · by_cases h0 : c = 0
    · subst h0
      rw [if_neg (by decide +kernel)]
      exact ⟨fun _ => by decide +kernel, fun h => absurd (brakes _ (by decide +kernel) (by decide +kernel)
        (by decide +kernel)) h⟩
    · by_cases h1 : c = 1
      · subst h1
        rw [if_pos (by decide +kernel)]
        exact ⟨fun h => absurd h (by decide +kernel), fun _ _ => ⟨7, by decide +kernel⟩, fun _ h => absurd turns h⟩
      · by_cases h2 : c = 2
        · subst h2
          rw [if_pos (by decide +kernel)]
          exact ⟨fun h => absurd h (by decide +kernel), fun _ h => absurd h right, fun _ _ => by decide +kernel⟩
        · have fn : left.cfg.ltc.chan[c].overlay = .none := by revert c; decide +kernel
          have idle : (left.chan c).overlay = .idle := by revert c; decide +kernel
          rw [if_neg (by rw [fn]; decide)]
          exact ⟨fun h => absurd h (plain _ c fn), fun _ => idle⟩
  · by_cases h0 : c = 0
    · subst h0
      rw [if_neg (by decide +kernel)]
      exact ⟨fun _ => by decide +kernel, fun h => absurd (brakes _ (by decide +kernel) (by decide +kernel)
        (by decide +kernel)) h⟩
    · by_cases ht : c = 1 ∨ c = 2
      · have run : hazard.ltc.hazard ≠ none := by decide +kernel
        rw [if_pos (by revert c; decide +kernel)]
        exact ⟨fun _ => by revert c; decide +kernel, fun h => absurd h run, fun h => absurd h run⟩
      · have fn : hazard.cfg.ltc.chan[c].overlay = .none := by revert c; decide +kernel
        have idle : (hazard.chan c).overlay = .idle := by revert c; decide +kernel
        rw [if_neg (by rw [fn]; decide)]
        exact ⟨fun h => absurd h (plain _ c fn), fun _ => idle⟩

theorem witness_AssignLineChecks :
    let s := withLines .off State.reset
    s.lnk.inHand = none ∧ 3 < (4 : Byte).toNat ∧ (3 : Byte).toNat ≤ 3 ∧ 4 < (5 : Byte).toNat ∧
    (4 : Byte).toNat ≤ 4 ∧ (pulling.unit 0).state ≠ .idle ∧ (armed.unit 0).state = .idle ∧
    armed.vsc.op ≠ .parked ∧ (3 : Byte).toNat = (3 : Fin 4).val ∧ (2 : Byte).toNat = LineFn.drumPulse.code ∧
    (s.unit 0).state = .idle ∧ s.vsc.op = .parked ∧ (0 : Fin 4) ≠ 3 ∧ (s.lmx.lines[0]).fn = .drumPulse ∧
    (∀ j : Fin 4, ¬ j < (0 : Fin 4)) ∧ (4 : Byte).toNat = LineFn.clutchServo.code ∧
    (∀ k : Fin 4, k ≠ 3 → (s.lmx.lines[k]).fn ≠ .clutchServo) ∧ (s.lmx.lines[3]).fn ≠ .clutchServo ∧
    (s.lmx.lines[3]).fn = .off := by decide +kernel

/-! ## Witnesses: notices, stored data and resets -/

theorem witness_OffersFollowTheQueueRule :
    crowded.nq = [] ++ .stage .caution .normal 3400 9000 :: crowded.nq.tail ∧
    (Notice.stage .caution .normal 3400 9000).kind = (Offer.stage .reserve .caution 3300 5000).fresh.kind ∧
    (∀ m ∈ crowded.nq, m.kind ≠ (Offer.opstate .failsafe .armed .linkLost).fresh.kind) ∧
    8 ≤ crowded.nq.length ∧
    crowded.nq = [.stage .caution .normal 3400 9000] ++ .unitEnded (ended 1) :: crowded.nq.tail.tail ∧
    (∀ m ∈ [Notice.stage .caution .normal 3400 9000], m.kind.isSome = true) ∧
    (∀ m ∈ crowded.nq.tail, m.kind ≠ (Offer.opstate .failsafe .armed .linkLost).fresh.kind) ∧
    (armed.modNq fun _ => crowded.nq.tail).nq.length < 8 := by decide +kernel

/-- No unit of ARMED is active or holds a status. -/
theorem armed_units_ok : UnitsOk armed :=
  have none_stacked : ∀ u : UnitNo, (armed.unit u).stacked = none := by decide +kernel
  ⟨by decide +kernel, by decide +kernel, by simp [none_stacked], by decide +kernel, by decide +kernel,
    by unfold WinchBegun; decide +kernel, by decide +kernel, by decide +kernel⟩

theorem witness_OutputsFollowState :
    let owing := armed.modUnit 10 fun x => { x with stacked := some (ended 10) }
    let down := after (.shortComparatorAssert .front) armed
    armed.attn = false ∧ owing.attn = true ∧ crowded.attn = true ∧ QueueOk armed.nq ∧ UnitsOk armed ∧
    VehicleOk armed ∧ armed.vsc.op ≠ .tripped ∧ armed.wch.state = .idle ∧ VehicleOk down ∧
    down.vsc.op = .tripped ∧ VehicleOk pulling ∧ pulling.wch.state = .runningPowered ∧ pulling.wch.applied = 0 ∧
    VehicleOk (pulling.modWch fun w => { w with applied := 1 }) ∧
    pulling.wch.step = some ⟨9, ⟨.inward, .load 9000, 700, .stop⟩⟩ := by
  refine ⟨by decide +kernel, by decide +kernel, by decide +kernel, ⟨by decide, by decide⟩, armed_units_ok,
    ⟨?_, ?_, ?_, ?_, ?_, ?_, ?_, ?_, ?_⟩, by decide, by decide, ⟨?_, ?_, ?_, ?_, ?_, ?_, ?_, ?_, ?_⟩,
    by decide +kernel, ⟨?_, ?_, ?_, ?_, ?_, ?_, ?_, ?_, ?_⟩, by decide +kernel, by decide +kernel,
    ⟨?_, ?_, ?_, ?_, ?_, ?_, ?_, ?_, ?_⟩, by decide +kernel⟩
  all_goals decide +kernel

theorem witness_QueueStaysWithinBounds :
    QueueOk crowded.nq ∧ exec .holdExpiry crowded = .next (after .holdExpiry crowded) :=
  ⟨⟨by decide +kernel, by decide +kernel⟩, exec_after _ _⟩

/-- A stored record, P at LINE_MAX, and three lines with the functions that only one may hold. -/
theorem witness_StoredDataStaysInRange :
    let s := withLines .clutchServo (flashes.modWch fun w => { w with position := 30000 })
    SettingsOk s.cfg ∧ StoreOk s ∧ LineOk s ∧ LinesOk s ∧
    exec (.lineSet 0 [0, 0]) s = .next (after (.lineSet 0 [0, 0]) s) := by
  refine ⟨default_settings_ok, fun slot => ?_, by unfold LineOk; decide +kernel,
    by unfold LinesOk; decide +kernel, exec_after _ _⟩
  by_cases h0 : slot = 20
  · subst h0; exact ⟨by decide, by decide, by decide, trivial⟩
  · by_cases h1 : slot = 21
    · subst h1; exact ⟨by decide, by decide, by decide, show 2 ≤ 255 by decide⟩
    · have h : flashes.pgc.store[slot] = .empty := by revert slot; decide +kernel
      show StepRec.ok (flashes.pgc.store[slot])
      rw [h]; trivial

/-- Each of the three requests changes what it may change, at its arrival; and a SET that was held, when the
reply before it has been sent. -/
theorem witness_OnlyTheirRequestsChangeStoredData :
    let off := inOp .parked armed
    let waits := (busy off).modLnk fun l => { l with holding := some ⟨0x05, 0x42, [0x15, 0, 50, 0]⟩ }
    exec (.set 0 [0x15, 0, 50, 0]) off = .next (after (.set 0 [0x15, 0, 50, 0]) off) ∧
    Instr.set 0 [0x15, 0, 50, 0] ≠ .fullReset ∧ off.lnk.inHand = none ∧
    (after (.set 0 [0x15, 0, 50, 0]) off).cfg ≠ off.cfg ∧
    (after (.storeSteps 0 [20, 1, 1, 0, 0, 9, 0, 0, 0, 0]) off).pgc.store ≠ off.pgc.store ∧
    ((after (.assignLine 0 [3, 1]) off).lmx.lines[3]).fn ≠ (off.lmx.lines[3]).fn ∧
    exec .replySent waits = .next (after .replySent waits) ∧ Instr.replySent ≠ .fullReset ∧
    (after .replySent waits).cfg ≠ waits.cfg := by
  refine ⟨exec_after _ _, by decide, by decide, by decide +kernel, by decide +kernel, by decide +kernel,
    exec_after _ _, by decide, by decide +kernel⟩

theorem witness_FullResetRestores :
    State.reset.vsc.comparator = ⟨false, false, false⟩ ∧
    (armed.modVsc fun v => { v with comparator := ⟨true, false, true⟩ }).vsc.comparator ≠ ⟨false, false, false⟩ := by
  decide +kernel

theorem witness_SoftResetKeepsStores :
    armed.vsc.comparator = ⟨false, false, false⟩ ∧
    (armed.modVsc fun v => { v with comparator := ⟨true, false, true⟩ }).vsc.comparator ≠ ⟨false, false, false⟩ := by
  decide

end Sys2Proof.Machine.Tests
end

/-! ARM outside PARKED (01 R5): the owner answers without a change of its own, so the request's arrival
leaves only the reply on the link. -/

namespace Sys2Proof.Machine

/-- R172, R173: when the owner of a request answers and leaves the state as it found it, the arrival of the
request changes the link alone. -/
theorem frameArrives_unchanged (k : Kind) (tag : Byte) (p : List Byte) (s : State) (a : Answer)
    (hfree : s.lnk.inHand = none)
    (hkeep : k.handle (s.modLnk (lnkOf ⟨k.code, tag, p⟩)) p = (s.modLnk (lnkOf ⟨k.code, tag, p⟩), a)) :
    frameArrives ⟨k.code, tag, p⟩ s = replied s s k.code tag p a.outcome a.fields := by
  rw [frameArrives_free k tag p s hfree, hkeep]
  rfl

/-- R5: in ARMED the answer to an ARM is DONE. -/
theorem onArm_armed {s : State} (h : s.vsc.op = .armed) : onArm s [] = (s, doneWith .none []) := by
  simp only [onArm, h]

/-- R5: in FAILSAFE and in SHUTTING_DOWN the answer to an ARM is REFUSED NOT_PARKED. -/
theorem onArm_notParked {s : State} (h : s.vsc.op = .failsafe ∨ s.vsc.op = .shuttingDown) :
    onArm s [] = (s, refusedWith .notParked []) := by
  rcases h with hfailsafe | hshutting
  · simp only [onArm, hfailsafe]
  · simp only [onArm, hshutting]

/-- R5: in TRIPPED the answer to an ARM is REFUSED TRIPPED, with the trip cause set. -/
theorem onArm_tripped {s : State} (h : s.vsc.op = .tripped) :
    onArm s [] = (s, refusedWith .tripped (u8 s.vsc.causes.mask)) := by
  simp only [onArm, h]

/-- An ARM that VSC answers without a change of state leaves only its reply. -/
theorem exec_arm_unchanged (tag : Byte) (p : List Byte) (s : State) (a : Answer) (hfree : s.lnk.inHand = none)
    (hkeep : onArm (s.modLnk (lnkOf ⟨0x10, tag, p⟩)) p = (s.modLnk (lnkOf ⟨0x10, tag, p⟩), a)) :
    exec (.arm tag p) s = .next (replied s s 0x10 tag p a.outcome a.fields) :=
  congrArg _ (frameArrives_unchanged .arm tag p s a hfree hkeep)

/-- Settles O17: in each of the four states the owner's answer is one of R5's and its state is unchanged;
the owner sees the operating state and the trip causes that stood before the frame was taken in hand. -/
theorem armElsewhere : Obligations.ArmElsewhere := by
  intro tag s hfree
  refine ⟨fun harmed => ?_, fun haway => ?_, fun htripped => ?_⟩
  · exact exec_arm_unchanged tag [] s _ hfree (onArm_armed harmed)
  · exact exec_arm_unchanged tag [] s _ hfree (onArm_notParked haway)
  · exact exec_arm_unchanged tag [] s _ hfree (onArm_tripped htripped)

end Sys2Proof.Machine

/-! READ_STEPS (06 R107): the owner only reads the store and the use counts, so the request's arrival
leaves only the reply on the link. -/

namespace Sys2Proof.Machine

/-- The low byte of a byte's own value is that byte. -/
@[simp] theorem u8_toNat (b : Byte) : u8 b.toNat = [b] := by
  simp [u8]

/-- 11 section 11.3.1: a step record of any kind takes eight bytes. -/
@[simp] theorem StepRec.bytes_length (r : StepRec) : r.bytes.length = 8 := by
  cases r with
  | empty => rfl
  | light r => rfl
  | winch r => rfl

/-- R107: on a slot of the store, the bytes read are its record and its use count. -/
theorem slotBytes_slot (s : State) (slot : Slot) :
    slotBytes s slot.val = (s.pgc.store[slot]).bytes ++ u8 s.pgc.useCount[slot] := by
  simp [slotBytes, State.stepAt, State.useOf]

/-- R107: a first slot above 127 is refused BAD_VALUE. -/
theorem onReadSteps_badValue {first : Byte} (count : Byte) (s : State) (h : 127 < first.toNat) :
    onReadSteps s [first, count] = (s, refusedWith .badValue []) :=
  if_pos h

/-- R107: with the first slot in the store, DONE carries it, the count used and the bytes of each slot of
the run. -/
theorem onReadSteps_done {first : Byte} (count : Byte) (s : State) (h : first.toNat ≤ 127) :
    onReadSteps s [first, count] =
      (s, doneWith .none ([first] ++ u8 (readCount first.toNat count.toNat) ++
        ((List.range (readCount first.toNat count.toNat)).map
          fun i => slotBytes s (first.toNat + i)).flatten)) := by
  simp [onReadSteps, Nat.not_lt.mpr h, List.flatMap_def, Function.comp_def]

/-- R107, R173: a payload that is not two bytes long is refused BAD_LENGTH. -/
theorem onReadSteps_badLength (s : State) {p : List Byte} (h : p.length ≠ 2) :
    onReadSteps s p = (s, badLength) := by
  match p, h with
  | [], _ => rfl
  | [_], _ => rfl
  | [_, _], h => exact absurd rfl h
  | _ :: _ :: _ :: _, _ => rfl

/-- READ_STEPS leaves only its reply, as PGC's answer to it leaves the state as it was. -/
theorem exec_readSteps_unchanged (tag : Byte) (p : List Byte) (s : State) (a : Answer)
    (hfree : s.lnk.inHand = none)
    (hkeep : onReadSteps (s.modLnk (lnkOf ⟨0x21, tag, p⟩)) p = (s.modLnk (lnkOf ⟨0x21, tag, p⟩), a)) :
    exec (.readSteps tag p) s = .next (replied s s 0x21 tag p a.outcome a.fields) :=
  congrArg _ (frameArrives_unchanged .readSteps tag p s a hfree hkeep)

/-- Settles O10: each outcome is one of the owner's three answers, which change nothing; the records of a
DONE are the bytes of the slots of the run in rising order. -/
theorem readStepsReturnsRecords : Obligations.ReadStepsReturnsRecords := by
  intro tag first count s hfree n
  refine ⟨fun hbeyond => ?_, fun hstored => ?_, fun p hlength => ?_⟩
  · exact exec_readSteps_unchanged tag _ s _ hfree (onReadSteps_badValue count _ hbeyond)
  · refine ⟨(List.range n).map fun i => slotBytes s (first.toNat + i), by simp, ?_, ?_⟩
    · exact exec_readSteps_unchanged tag _ s _ hfree (onReadSteps_done count _ hstored)
    · intro i hi slot hslot
      have hrecord : ((List.range n).map fun i => slotBytes s (first.toNat + i))[i]? =
          some (slotBytes s slot.val) := by simp [hi, hslot]
      exact ⟨hrecord.trans (congrArg some (slotBytes_slot s slot)), StepRec.bytes_length _⟩
  · exact exec_readSteps_unchanged tag p s _ hfree (onReadSteps_badLength _ hlength)

end Sys2Proof.Machine

/-! IDENTIFY (10 R174): the owner answers from the part's constants, so the request's arrival leaves only the
reply on the link. -/

namespace Sys2Proof.Machine

/-- 11 section 11.3: the bytes of IDENTIFY's reply, the part code with its low byte first. -/
theorem identity_bytes : identity = [0x20, 0x04, 0x01, 11, 128, 8, 4, 10, 64] := by
  decide

/-- R174: without payload the owner answers DONE with the identity. -/
theorem onIdentify_done (s : State) : onIdentify s [] = (s, doneWith .none identity) := rfl

/-- Settles O7: the owner's one answer to an empty payload leaves the state as it found it, and the identity
it carries is the list of section 11.3. -/
theorem identifyAnswers : Obligations.IdentifyAnswers := by
  intro tag s hfree
  rw [← identity_bytes]
  have harrival := frameArrives_unchanged .identify tag [] s _ hfree (onIdentify_done _)
  exact congrArg _ harrival

end Sys2Proof.Machine

/-! The link (10 sections 10.1 and 10.2): the arrival of a frame, the turns of requests and replies, and the
parser. A command that is the arrival of a frame is `frameArrives` of that frame. -/

namespace Sys2Proof.Machine

/-! ## Every command -/

/-- 10 R172, log 5: a command that is the arrival of a frame does what that arrival does. -/
theorem exec_of_frame {i : Instr} {f : Frame} (h : frameOfCommand i = some f) (s : State) :
    exec i s = .next (frameArrives f s) := by
  cases i <;> cases h <;> rfl

/-- Settles O1: a step on a queue that holds a command is that command on the rest. -/
theorem stepTakesFront : Obligations.StepTakesFront := fun _ _ _ => rfl

/-- Settles O2: each arm answers a next state, and no operation that it is made of touches the queue. -/
theorem everyCommandKeepsQueue : Obligations.EveryCommandKeepsQueue := by
  intro i s
  cases i <;> exact ⟨_, rfl, by simp⟩

/-! ## Requests and replies (10 section 10.2) -/

/-- 09 R164: PENDING does not look at the link. -/
@[simp] theorem State.pendingCount_modLnk (s : State) (f : Lnk → Lnk) :
    (s.modLnk f).pendingCount = s.pendingCount := rfl

/-- R172, R173: the link after a request has been taken. -/
theorem takeRequest_lnk (f : Frame) (s : State) :
    (takeRequest f s).lnk =
      let q := answerFrame f (s.modLnk fun l => { l with inHand := some f })
      { s.lnk with inHand := some f, reply := some (replyTo f q.2 q.1), overrun := false } := by
  simp [takeRequest, sendReply]

/-- R172: a frame that finds no request in hand is taken. -/
theorem frameArrives_taken {s : State} (f : Frame) (h : s.lnk.inHand = none) :
    frameArrives f s = takeRequest f (s.modLnk Lnk.hunting) := by
  simp [frameArrives, Lnk.hunting, h]

/-- R172: a frame that finds a request in hand and the buffer empty is held. -/
theorem frameArrives_held {s : State} {g : Frame} (f : Frame) (h : s.lnk.inHand = some g)
    (hold : s.lnk.holding = none) :
    frameArrives f s = s.modLnk fun l => { l.hunting with holding := some f } := by
  simp [frameArrives, Lnk.hunting, h, hold]

/-- R172: a frame that finds a request in hand and the buffer full is lost. -/
theorem frameArrives_lost {s : State} {g k : Frame} (f : Frame) (h : s.lnk.inHand = some g)
    (hold : s.lnk.holding = some k) :
    frameArrives f s = s.modLnk fun l => { l.hunting with overrun := true } := by
  simp [frameArrives, Lnk.hunting, h, hold]

/-- R176: the frames whose reply the soft reset follows. -/
theorem Frame.resets_iff (f : Frame) : f.resets = true ↔ f.kind = 0x03 ∧ f.payload = [] := by
  rw [Frame.resets, Bool.and_eq_true, decide_eq_true_iff, List.isEmpty_iff]
  rfl

/-- R172, R176: the end of a reply, where a soft reset follows. -/
theorem replySent_resets {s : State} {f : Frame} (h : s.lnk.inHand = some f) (hr : f.resets = true) :
    replySent s = softReset s := by
  simp [replySent, h, hr]

/-- R172: the end of a reply, where the next request follows. -/
theorem replySent_next {s : State} {f : Frame} (h : s.lnk.inHand = some f) (hr : ¬ f.resets = true) :
    replySent s = nextRequest s := by
  simp [replySent, h, hr]

/-- R172: what follows a reply with the buffer empty. -/
theorem nextRequest_empty {s : State} (h : s.lnk.holding = none) :
    nextRequest s = s.modLnk fun l => { l with inHand := none, reply := none } := by
  simp [nextRequest, State.modLnk, h]

/-- R172: what follows a reply with a frame held: its arrival. -/
theorem nextRequest_held {s : State} {g : Frame} (h : s.lnk.holding = some g) :
    nextRequest s =
      takeRequest g (s.modLnk fun l => { l with inHand := none, reply := none, holding := none }) := by
  simp [nextRequest, h]

/-- Settles O3: the three outcomes of an arrival, RESET's answer, and the three outcomes of a reply's end; a
held frame's reply shows the overrun flag that stood and PENDING after its effects. -/
theorem linkTakesTurns : Obligations.LinkTakesTurns := by
  refine ⟨fun i f s hi => ?_, fun tag s hfree => ?_, fun f s hf => ⟨fun hk hp => ?_, fun hn hold => ?_,
    fun hn g hold => ?_⟩⟩
  · rw [exec_of_frame hi]
    exact ⟨fun h => congrArg _ (frameArrives_taken f h), fun g h hold => congrArg _ (frameArrives_held f h hold),
      fun g k h hold => congrArg _ (frameArrives_lost f h hold)⟩
  · exact congrArg _ (frameArrives_unchanged .reset tag [] s _ hfree rfl)
  · exact congrArg _ (replySent_resets hf ((Frame.resets_iff f).mpr ⟨hk, hp⟩))
  · have hnext := replySent_next hf (mt (Frame.resets_iff f).mp hn)
    rw [nextRequest_empty hold] at hnext
    exact congrArg _ hnext
  · have hnext := replySent_next hf (mt (Frame.resets_iff f).mp hn)
    rw [nextRequest_held hold] at hnext
    have hlnk := takeRequest_lnk g (s.modLnk fun l => { l with inHand := none, reply := none, holding := none })
    refine ⟨_, _, rfl, congrArg _ hnext, congrArg Lnk.inHand hlnk, congrArg Lnk.holding hlnk,
      congrArg Lnk.reply hlnk, rfl, ?_, congrArg Lnk.overrun hlnk, rfl,
      (congrArg Lnk.parser hlnk :), (congrArg Lnk.frame hlnk :)⟩
    simp [replyTo]

/-! ## Format refusals (10 R173) -/

/-- R173: a KIND that no request kind has. -/
theorem kindOf_eq_none {kind : Byte} (h : kind ∉ requestKindCodes) : kindOf kind = none := by
  simp only [kindOf, List.find?_eq_none, decide_eq_true_eq]
  rintro k - rfl
  exact h (by cases k <;> decide)

/-- R173: every request kind code is a request kind's. -/
theorem exists_kind {kind : Byte} (h : kind ∈ requestKindCodes) : ∃ k : Kind, k.code = kind := by
  simp only [requestKindCodes, List.mem_cons, List.not_mem_nil, or_false] at h
  obtain rfl | rfl | rfl | rfl | rfl | rfl | rfl | rfl | rfl | rfl | rfl | rfl | rfl | rfl | rfl | rfl | rfl | rfl := h
  exacts [⟨.identify, rfl⟩, ⟨.status, rfl⟩, ⟨.reset, rfl⟩, ⟨.get, rfl⟩, ⟨.set, rfl⟩, ⟨.arm, rfl⟩, ⟨.park, rfl⟩,
    ⟨.drive, rfl⟩, ⟨.steerMode, rfl⟩, ⟨.setLight, rfl⟩, ⟨.storeSteps, rfl⟩, ⟨.readSteps, rfl⟩, ⟨.start, rfl⟩,
    ⟨.probe, rfl⟩, ⟨.halt, rfl⟩, ⟨.lineSet, rfl⟩, ⟨.assignLine, rfl⟩, ⟨.fetchNotice, rfl⟩]

/-- R173: the arrival of a frame of an unknown KIND changes the link alone. -/
theorem frameArrives_unknown {kind : Byte} (tag : Byte) (p : List Byte) {s : State} (hk : kind ∉ requestKindCodes)
    (hfree : s.lnk.inHand = none) :
    frameArrives ⟨kind, tag, p⟩ s = { s with lnk :=
      { parser := .hunt, frame := [], gap := false, inHand := some ⟨kind, tag, p⟩
        reply := some { kind := replyKind kind, tag := tag, outcome := .refused .unknownKind,
                        pending := s.pendingCount, overrun := s.lnk.overrun, fields := [] }
        holding := s.lnk.holding, overrun := false } } := by
  rw [frameArrives_taken _ hfree]
  simp [takeRequest, answerFrame, kindOf_eq_none hk, sendReply, replyTo, refusedWith, Lnk.hunting]
  rfl

/-- 06 R105: a STORE_STEPS whose count and length do not agree is refused BAD_LENGTH. -/
theorem onStoreSteps_badLength (s : State) {p : List Byte} (h : lengthAllowed 0x20 p = false) :
    onStoreSteps s p = (s, badLength) := by
  match p, h with
  | [], _ => rfl
  | [_], _ => rfl
  | first :: count :: rest, h =>
    refine if_neg fun hc => ?_
    obtain ⟨hlow, hhigh, hlen⟩ := hc
    have hb : count = BitVec.ofNat 8 count.toNat := by simp
    simp [lengthAllowed, hlen] at h
    have : count.toNat = 1 ∨ count.toNat = 2 ∨ count.toNat = 3 ∨ count.toNat = 4 ∨ count.toNat = 5 ∨
        count.toNat = 6 := by omega
    rcases this with h' | h' | h' | h' | h' | h' <;> rw [h'] at hb <;> simp [hb] at h

/-- R173: a payload of a length that its kind does not allow is refused BAD_LENGTH by its owner, without a
change. -/
theorem Kind.handle_badLength (k : Kind) (s : State) {p : List Byte} (h : lengthAllowed k.code p = false) :
    k.handle s p = (s, badLength) := by
  cases k
  case storeSteps => exact onStoreSteps_badLength s h
  all_goals
    simp only [Kind.handle, onIdentify, onStatus, onReset, onGet, onSet, onArm, onPark, onDrive, onSteerMode,
      onSetLight, onReadSteps, onStart, onProbe, onHalt, onLineSet, onAssignLine, onFetchNotice]
    split
    · simp [lengthAllowed, Kind.code] at h
    · rfl

/-- Settles O4: an unknown KIND has no owner, and every owner refuses a length that its kind does not allow. -/
theorem formatRefusals : Obligations.FormatRefusals := by
  refine ⟨fun kind tag p s hk hfree => ⟨fun hlow => ?_, fun _ => ⟨replyKind kind, ?_⟩⟩,
    fun i f s hi hk hlen hfree => ?_⟩
  · refine congrArg Host.Outcome.next ((frameArrives_unknown tag p hk hfree).trans ?_)
    simp [replied, Lnk.answered, replyKind, hlow]
  · exact congrArg Host.Outcome.next (frameArrives_unknown tag p hk hfree)
  · rw [exec_of_frame hi]
    obtain ⟨kind, tag, p⟩ := f
    obtain ⟨k, rfl⟩ := exists_kind hk
    exact congrArg _ (frameArrives_unchanged k tag p s _ hfree (k.handle_badLength _ hlen))

end Sys2Proof.Machine

/-! The parser (10 section 10.1): each byte by the parser's state, and the bytes of an encoded frame. -/

namespace Sys2Proof.Machine

/-- R171: the number of body bytes that a frame in assembly announces is its LEN byte. -/
@[simp] theorem announced_cons (len : Byte) (rest : List Byte) : announced (len :: rest) = len.toNat := rfl

/-- R171: a byte in BODY, with at least the LEN byte received. -/
theorem bodyByte_cons {s : State} {len : Byte} {rest : List Byte} (b : Byte) (h : s.lnk.frame = len :: rest) :
    bodyByte b s = s.modLnk fun l =>
      { l with parser := if len.toNat ≤ rest.length + 1 then .check else .body, frame := s.lnk.frame ++ [b],
               gap := true } := by
  simp [bodyByte, State.modLnk, h]

/-- R169, R171: in CHECK the byte that is the check of the bytes since SYNC completes the frame. -/
theorem checkByte_complete {s : State} {len kind tag : Byte} {p : List Byte} {b : Byte}
    (h : s.lnk.frame = len :: kind :: tag :: p) (hb : b = crc8 s.lnk.frame) :
    checkByte b s = frameArrives ⟨kind, tag, p⟩ s := by
  rw [checkByte, if_pos hb, h]
  rfl

/-- Settles O5: the parser's action in each of its states, a framing error, and the gap expiry. -/
theorem parserTakesBytes : Obligations.ParserTakesBytes := by
  intro b s hunting
  refine ⟨fun h => ⟨?_, ?_⟩, fun h => ?_, fun h len rest hf => ?_, fun h hb => ?_,
    fun h len kind tag p hf hb => ?_, fun h => ?_, rfl, rfl⟩
  · simp only [exec, execByteReceived, receive, byteIn, h, huntByte]
    rfl
  · simp only [exec, execFrameDiscard, receive, h, if_true]
  · simp only [exec, execByteReceived, receive, byteIn, h, lengthByte]
    rfl
  · simp only [exec, execByteReceived, receive, byteIn, h, bodyByte_cons b hf]
    rfl
  · simp only [exec, execByteReceived, receive, byteIn, h, checkByte, hb, if_false]
    rfl
  · simp only [exec, execByteReceived, execFrameHeld, receive, byteIn, h, checkByte_complete hf hb]
  · simp only [exec, execFrameDiscard, receive, h, if_false]
    rfl

/-! ## Encoded frames (11 section 11.2) -/

/-- R171: what the parser does with a run of bytes, one after another. -/
theorem runCommands_cons (b : Byte) (rest : List Instr) (s : State) :
    runCommands (.byteReceived b :: rest) s = runCommands rest (byteIn b s) := rfl

/-- R171: a frame in assembly in LNK: the parser's state and the bytes since SYNC. -/
def assembling (parser : ParserState) (frame : List Byte) (s : State) : State :=
  s.modLnk fun l => { l with parser := parser, frame := frame, gap := true }

/-- R171: SYNC in HUNT begins a frame. -/
theorem byteIn_sync {s : State} (h : s.lnk.parser = .hunt) : byteIn 0xC3 s = assembling .length [] s := by
  simp [byteIn, h, huntByte, assembling]

/-- R171: a LEN of 2 to 66 goes on to BODY. -/
theorem byteIn_length {s : State} {len : Byte} (hlow : 2 ≤ len.toNat) (hhigh : len.toNat ≤ 66) :
    byteIn len (assembling .length [] s) = assembling .body [len] s := by
  simp [byteIn, assembling, lengthByte, hlow, hhigh]

/-- R171: a body byte before the last. -/
theorem byteIn_body {s : State} {len b : Byte} {rest : List Byte} :
    byteIn b (assembling .body (len :: rest) s) =
      assembling (if len.toNat ≤ rest.length + 1 then .check else .body) (len :: (rest ++ [b])) s := by
  simp [byteIn, assembling, bodyByte]
  rfl

/-- R171: the body bytes, up to the LEN-th, after which the parser is in CHECK. -/
theorem runCommands_body (len : Byte) (body rest : List Byte) (more : List Instr) (s : State)
    (hne : body ≠ []) (hlen : len.toNat = rest.length + body.length) :
    runCommands (body.map .byteReceived ++ more) (assembling .body (len :: rest) s) =
      runCommands more (assembling .check (len :: (rest ++ body)) s) := by
  induction body generalizing rest with
  | nil => exact absurd rfl hne
  | cons b body ih =>
    rw [List.map_cons, List.cons_append, runCommands_cons, byteIn_body]
    cases body with
    | nil => simp [hlen]
    | cons b' body =>
      have hmore : ¬ len.toNat ≤ rest.length + 1 := by simp only [hlen, List.length_cons]; omega
      have hleft : len.toNat = (rest ++ [b]).length + (b' :: body).length := by simp [hlen]; omega
      rw [if_neg hmore, ih (rest ++ [b]) (by simp) hleft]
      simp

/-- R172: the arrival of a frame does not look at what the parser had in assembly. -/
theorem frameArrives_assembling (f : Frame) (parser : ParserState) (frame : List Byte) (s : State) :
    frameArrives f (assembling parser frame s) = frameArrives f s := rfl

/-- R169, R171: in CHECK, with the bytes of a frame since SYNC, their check byte is the frame's arrival. -/
theorem byteIn_check (len kind tag : Byte) (p : List Byte) (s : State) :
    byteIn (crc8 (len :: kind :: tag :: p)) (assembling .check (len :: kind :: tag :: p) s) =
      frameArrives ⟨kind, tag, p⟩ s :=
  (checkByte_complete rfl rfl).trans (frameArrives_assembling _ _ _ _)

/-- Settles O6: SYNC, LEN, the body bytes and the check byte in turn complete the frame, and a request command
is the frame's arrival. -/
theorem parserReadsEncodedFrames : Obligations.ParserReadsEncodedFrames := by
  refine ⟨fun f s hlen hunt => ?_, fun i f s hi => exec_of_frame hi s⟩
  obtain ⟨kind, tag, p⟩ := f
  have hlen : p.length ≤ 64 := hlen
  have hlenByte : (BitVec.ofNat 8 (p.length + 2)).toNat = p.length + 2 := by
    rw [BitVec.toNat_ofNat]
    omega
  generalize hlb : BitVec.ofNat 8 (p.length + 2) = len at hlenByte
  have hbytes : (frameBytes ⟨kind, tag, p⟩).map Instr.byteReceived =
      .byteReceived 0xC3 :: .byteReceived len ::
        ((kind :: tag :: p).map .byteReceived ++ [.byteReceived (crc8 (len :: kind :: tag :: p))]) := by
    simp [frameBytes, hlb]
  rw [hbytes, runCommands_cons, byteIn_sync hunt, runCommands_cons, byteIn_length (by omega) (by omega),
    runCommands_body len _ [] _ s (by simp) (by simpa using hlenByte), runCommands_cons]
  exact congrArg Host.Outcome.next (byteIn_check len kind tag p s)

end Sys2Proof.Machine

/-! The requests that read (10 section 10.3, 06 section 6.6, 09 section 9.3): STATUS, GET, PROBE and
FETCH_NOTICE. -/

namespace Sys2Proof.Machine

/-- R172, R173: the arrival of a request that its owner answers, `t` being the state that the owner leaves. -/
theorem frameArrives_replied (k : Kind) (tag : Byte) (p : List Byte) (s : State) {t : State} {a : Answer}
    (hfree : s.lnk.inHand = none)
    (hdoes : k.handle (s.modLnk (lnkOf ⟨k.code, tag, p⟩)) p = (t, a)) :
    frameArrives ⟨k.code, tag, p⟩ s = replied s t k.code tag p a.outcome a.fields := by
  rw [frameArrives_free k tag p s hfree, hdoes]
  rfl

/-- A named value of a byte is the byte. -/
theorem u8_of_toNat {b : Byte} {n : Nat} (h : b.toNat = n) : u8 n = [b] := h ▸ u8_toNat b

/-- 00 section 0.6.3: the list of the channels holds every channel. -/
theorem mem_allChans (c : Chan) : c ∈ allChans := by
  revert c
  decide

/-- 00 section 0.6.3: the list of the units holds every unit. -/
theorem mem_allUnits (u : UnitNo) : u ∈ allUnits := by
  revert u
  decide

/-! ## STATUS (R175) -/

/-- R175: STATUS answers the content of a known page after the page, the index and the completion count. -/
theorem onStatus_done {s : State} {page index : Byte} {i : Nat} {content : List Byte}
    (h : pageOf s page index = some (i, content)) :
    onStatus s [page, index] =
      (s, doneWith .none ([page] ++ u8 i ++ u16 s.scn.completions ++ content)) := by
  simp [onStatus, statusFields, h]

/-- R175: STATUS refuses a page or an index that names nothing. -/
theorem onStatus_refused {s : State} {page index : Byte} (h : pageOf s page index = none) :
    onStatus s [page, index] = (s, refusedWith .badValue []) := by
  simp [onStatus, statusFields, h]

/-- R175: the pages and the indexes that are refused. -/
theorem pageOf_eq_none {s : State} {page index : Byte}
    (h : 8 < page.toNat ∨ (page = 6 ∧ 10 < index.toNat) ∨ (page = 7 ∧ 9 < index.toNat)) :
    pageOf s page index = none := by
  obtain hpage | ⟨rfl, hindex⟩ | ⟨rfl, hindex⟩ := h
  · unfold pageOf
    split
    case h_10 => rfl
    all_goals omega
  · have hunit : unitNo index = none := dif_neg (by omega)
    simp [pageOf, hunit]
  · have hchan : chanNo index = none := dif_neg (by omega)
    simp [pageOf, hchan]

/-- 00 section 0.6.3: the unit of a byte. -/
theorem unitNo_eq {b : Byte} {u : UnitNo} (h : b.toNat = u.val) : unitNo b = some u := by
  simp [unitNo, h, u.isLt]

/-- 00 section 0.6.3: no unit above 10. -/
theorem unitNo_eq_none {b : Byte} (h : 10 < b.toNat) : unitNo b = none := dif_neg (by omega)

/-- 00 section 0.6.3: the light channel of a byte. -/
theorem chanNo_eq {b : Byte} {c : Chan} (h : b.toNat = c.val) : chanNo b = some c := by
  simp [chanNo, h, c.isLt]

/-- 00 section 0.6.3: no light channel above 9. -/
theorem chanNo_eq_none {b : Byte} (h : 9 < b.toNat) : chanNo b = none := dif_neg (by omega)

/-- R121: a status of the unit stands in a list exactly if one is counted there. -/
theorem queuedEnding_isSome_iff (u : UnitNo) (q : List Notice) :
    (queuedEnding u q).isSome = true ↔ 0 < endings u q := by
  induction q with
  | nil => simp [queuedEnding, endings]
  | cons n rest ih =>
    cases n with
    | unitEnded e => by_cases h : e.unit = u <;> simp_all [queuedEnding, endings]
    | _ => simpa [queuedEnding, endings] using ih

/-- R121: without a counted status in the list none is found. -/
theorem queuedEnding_eq_none {u : UnitNo} {q : List Notice} (h : endings u q = 0) : queuedEnding u q = none := by
  have hnot := (queuedEnding_isSome_iff u q).not.mpr (by omega)
  simpa using hnot

/-- 11 section 11.4: where a unit's outstanding status stands. -/
theorem placeCode_eq (s : State) (u : UnitNo) :
    placeCode s u = if 0 < endings u s.nq then 1 else if (s.unit u).stacked.isSome then 2 else 0 := by
  simp [placeCode, queuedEnding_isSome_iff]

/-- 09 section 9.4.1: the functions of the four lines, byte for byte. -/
theorem functionBytes_eq (s : State) :
    functionBytes s = u8 (s.lmx.lines[0]).fn.code ++ u8 (s.lmx.lines[1]).fn.code ++
      u8 (s.lmx.lines[2]).fn.code ++ u8 (s.lmx.lines[3]).fn.code := by
  have hlist : s.lmx.lines.toList = [s.lmx.lines[0], s.lmx.lines[1], s.lmx.lines[2], s.lmx.lines[3]] := by
    apply List.ext_getElem
    · simp
    · intro i hi _
      have : i < 4 := by simpa using hi
      interval_cases i <;> simp
  rw [functionBytes, hlist]
  simp [u8]

/-- Settles O8: each page is answered as `pageOf` gives it, and the pages' contents are their bytes in order. -/
theorem statusReadsPages : Obligations.StatusReadsPages := by
  intro tag page index s hfree answers front four r a d g w
  have hdone : ∀ {i : Nat} {content fields : List Byte}, pageOf s page index = some (i, content) →
      fields = [page] ++ u8 i ++ u16 s.scn.completions ++ content → answers (.done .none) fields := by
    rintro i content fields hpage rfl
    exact congrArg _ (frameArrives_unchanged .status tag [page, index] s _ hfree
      (onStatus_done (s := s.modLnk _) hpage))
  refine ⟨fun h => ?_, ?_, ?_, ?_, ?_, ?_, ?_, ?_, ?_, ?_⟩
  · exact congrArg _ (frameArrives_unchanged .status tag [page, index] s _ hfree
      (onStatus_refused (pageOf_eq_none h)))
  · rintro rfl
    refine hdone (i := 0) (content := pageVehicle s) rfl ?_
    simp [front, pageVehicle, perBridge, running, u8]
  · rintro rfl
    refine hdone (i := 0) (content := pageScan s) rfl ?_
    have hkind : scanKindCode r.kind = match r.kind with
        | none => 0
        | some .continuous => 1
        | some .watch => 2 := rfl
    simp [front, pageScan, perBridge, u8, r, four, Machine.four]
    cases s.scn.results.kind with
    | none => rfl
    | some kind => cases kind <;> rfl
  · rintro rfl
    refine hdone (i := 0) (content := pageSupply s) rfl ?_
    simp [front, pageSupply, perBridge, u8, a]
  · rintro rfl
    refine hdone (i := 0) (content := pageTraction s) rfl ?_
    have hdirection : d.direction.code = if 0 < d.throttle then 1 else if d.throttle < 0 then 2 else 0 := by
      unfold Trc.direction
      split
      · rfl
      · split <;> rfl
    simp [front, pageTraction, perAxle, u8, ← hdirection, d]
  · rintro rfl
    refine hdone (i := 0) (content := pageSteering s) rfl ?_
    simp [front, pageSteering, perAxle, running, u8, g]
  · rintro rfl
    refine hdone (i := 0) (content := pageWinch s) rfl ?_
    cases hstep : s.wch.step <;> simp [front, pageWinch, running, u8, u16, w, a, optCode, ofStep, hstep]
  · rintro rfl u hu
    refine hdone (i := u.val) (content := pageUnit s u) (by simp [pageOf, unitNo_eq hu]) ?_
    simp [front, pageUnit, pageUses, placeCode_eq, u8_of_toNat hu, Config.lightWalkMax]
  · rintro rfl c hc
    refine hdone (i := c.val) (content := pageLight s c) (by simp [pageOf, chanNo_eq hc]) ?_
    have hindex : BitVec.ofNat 8 c.val = index := by rw [← hc, BitVec.ofNat_toNat, BitVec.setWidth_eq]
    cases hstep : (s.chan c).step <;> cases hover : (s.chan c).overlay <;>
      simp [front, pageLight, u8, optCode, phaseOf, hstep, hover, a, hindex]
  · rintro rfl
    refine hdone (i := 0) (content := pageLines s) rfl ?_
    have hlevels : ∀ l : Line, Level.isHigh l.accepted = decide (l.accepted = .high) := by
      intro l
      cases l.accepted <;> rfl
    simp [front, pageLines, functionBytes_eq, hlevels]
    rfl

/-! ## GET (R177) -/

/-- 10 section 10.4: a row of the settings table gives the numbers, ranges, defaults and marks that the part holds
for a setting, at each of its indexes. -/
def SettingRow.describes (r : SettingRow) : SettingId → Bool
  | .plain p => decide (r.indexes = 0 ∧ p.range = (r.low, r.high, r.default) ∧ p.parkedOnly = r.parkedOnly ∧
      r.number ≠ 0x41)
  | .axle a => decide (r.indexes = 2 ∧ r.parkedOnly = false ∧ r.number ≠ 0x41) &&
      [Axle.front, .rear].all fun x => decide ((Key.axle a x).range = (r.low, r.high, r.default))
  | .chan k => decide (r.indexes = 10 ∧ r.parkedOnly = false) &&
      allChans.all fun c => decide ((Key.chan k c).range = (r.low, r.high, r.defaultAt c.val))

/-- 11 section 11.4.1: every row's number names a setting that the row describes. -/
theorem settingRows_described :
    settingRows.all (fun r => (settingOf (BitVec.ofNat 8 r.number)).any r.describes) = true := by
  decide

/-- 11 section 11.4.1: every setting that a byte names has its row. -/
theorem exists_settingRow {b : Byte} {i : SettingId} (h : settingOf b = some i) :
    ∃ r ∈ settingRows, b.toNat = r.number ∧ r.describes i = true := by
  unfold settingOf at h
  split at h
  any_goals contradiction
  all_goals
    rename_i hb
    cases h
    rw [hb]
    decide

/-- 10 section 10.4: what a row says of each setting and index that it takes. -/
theorem SettingRow.describes_key {r : SettingRow} {i : SettingId} (h : r.describes i = true) {index : Byte}
    (htakes : r.takes index.toNat) :
    ∃ k : Key, keyOf i index = some k ∧ k.index = r.reported index.toNat ∧ k.low = r.low ∧ k.high = r.high ∧
      k.default = r.defaultAt index.toNat ∧ k.parkedOnly = r.parkedOnly := by
  cases i with
  | plain p =>
    simp only [SettingRow.describes, decide_eq_true_eq] at h
    obtain ⟨hindexes, hrange, hmark, hnumber⟩ := h
    refine ⟨.plain p, rfl, ?_⟩
    simp [Key.index, SettingRow.reported, SettingRow.defaultAt, Key.low, Key.high, Key.default, Key.range,
      Key.parkedOnly, hindexes, hrange, hmark, hnumber]
  | axle a =>
    simp only [SettingRow.describes, Bool.and_eq_true, decide_eq_true_eq, List.all_cons, List.all_nil, and_true] at h
    obtain ⟨⟨hindexes, hmark, hnumber⟩, hfront, hrear⟩ := h
    have hindex : index.toNat = 0 ∨ index.toNat = 1 := by
      unfold SettingRow.takes at htakes
      omega
    obtain h0 | h1 := hindex
    · refine ⟨.axle a .front, by simp [keyOf, axleOf, h0], ?_⟩
      simp [Key.index, SettingRow.reported, SettingRow.defaultAt, Key.low, Key.high, Key.default, Key.parkedOnly,
        hmark, hnumber, hfront, h0]
    · refine ⟨.axle a .rear, by simp [keyOf, axleOf, h1], ?_⟩
      simp [Key.index, SettingRow.reported, SettingRow.defaultAt, Key.low, Key.high, Key.default, Key.parkedOnly,
        hindexes, hmark, hnumber, hrear, h1]
  | chan k =>
    simp only [SettingRow.describes, Bool.and_eq_true, decide_eq_true_eq, List.all_eq_true] at h
    obtain ⟨⟨hindexes, hmark⟩, hrange⟩ := h
    have hindex : index.toNat < 10 := by
      unfold SettingRow.takes at htakes
      omega
    have hc := hrange ⟨index.toNat, hindex⟩ (mem_allChans _)
    refine ⟨.chan k ⟨index.toNat, hindex⟩, by simp [keyOf, chanNo, hindex], ?_⟩
    simp [Key.index, SettingRow.reported, Key.low, Key.high, Key.default, Key.parkedOnly, hindexes, hmark, hc]

/-- R177: an index that a described setting refuses is none that its row takes. -/
theorem SettingRow.takes_of_keyOf {r : SettingRow} {i : SettingId} (h : r.describes i = true) {index : Byte}
    {k : Key} (hk : keyOf i index = some k) : r.takes index.toNat := by
  cases i with
  | plain p =>
    simp only [SettingRow.describes, decide_eq_true_eq] at h
    exact .inl h.1
  | axle a =>
    simp only [SettingRow.describes, Bool.and_eq_true, decide_eq_true_eq] at h
    obtain ⟨⟨hindexes, -⟩, -⟩ := h
    refine .inr ?_
    simp only [keyOf, Option.map_eq_some_iff] at hk
    obtain ⟨x, hx, -⟩ := hk
    unfold axleOf at hx
    split at hx
    · omega
    · omega
    · contradiction
  | chan c =>
    simp only [SettingRow.describes, Bool.and_eq_true, decide_eq_true_eq] at h
    obtain ⟨⟨hindexes, -⟩, -⟩ := h
    refine .inr ?_
    simp only [keyOf, Option.map_eq_some_iff] at hk
    obtain ⟨x, hx, -⟩ := hk
    unfold chanNo at hx
    split at hx
    · omega
    · contradiction

/-- R177: GET of a setting and an index that are known. -/
theorem onGet_done {s : State} {setting index : Byte} {k : Key} (h : namedKey setting index = some k) :
    onGet s [setting, index] = (s, doneWith .none (getFields s setting k)) := by
  simp [onGet, h]

/-- R177: GET of an unknown setting or index. -/
theorem onGet_refused {s : State} {setting index : Byte} (h : namedKey setting index = none) :
    onGet s [setting, index] = (s, refusedWith .badValue []) := by
  simp [onGet, h]

/-- Settles O9: each row of the table describes the setting that its number names, and every setting has its
row. -/
theorem getReportsSettings : Obligations.GetReportsSettings := by
  intro tag setting index s hfree
  refine ⟨fun r hr hnumber htakes => ?_, fun hrefused => ?_⟩
  · have hrow := List.all_eq_true.mp settingRows_described r hr
    obtain ⟨i, hi, hdescribes⟩ := (Option.any_eq_true _ _).mp hrow
    have hsetting : BitVec.ofNat 8 r.number = setting := by rw [← hnumber, BitVec.ofNat_toNat, BitVec.setWidth_eq]
    rw [hsetting] at hi
    obtain ⟨k, hk, hindex, hlow, hhigh, hdefault, hmark⟩ := SettingRow.describes_key hdescribes htakes
    have hkey : namedKey setting index = some k := by simp [namedKey, hi, hk]
    refine ⟨k, hkey, ?_⟩
    have hfields : getFields s setting k = [setting] ++ u8 (r.reported index.toNat) ++ u16 (s.cfg.value k) ++
        u16 r.low ++ u16 r.high ++ u16 (r.defaultAt index.toNat) ++ flagByte r.parkedOnly := by
      simp [getFields, hindex, hlow, hhigh, hdefault, hmark]
    rw [← hfields]
    exact congrArg _ (frameArrives_unchanged .get tag [setting, index] s _ hfree (onGet_done hkey))
  · have hkey : namedKey setting index = none := by
      rw [namedKey, Option.bind_eq_none_iff]
      intro i hi
      obtain ⟨r, hr, hnumber, hdescribes⟩ := exists_settingRow hi
      rw [Option.eq_none_iff_forall_ne_some]
      exact fun k hk => hrefused r hr hnumber (SettingRow.takes_of_keyOf hdescribes hk)
    exact congrArg _ (frameArrives_unchanged .get tag [setting, index] s _ hfree (onGet_refused hkey))

/-! ## PROBE (R115) -/

/-- R163: the first status of a unit in a list is the one that is found and removed. -/
theorem queuedEnding_append {u : UnitNo} {e : EndingStatus} {before : List Notice} (after : List Notice)
    (he : e.unit = u) (hb : endings u before = 0) :
    queuedEnding u (before ++ .unitEnded e :: after) = some e ∧
      removeEnding u (before ++ .unitEnded e :: after) = before ++ after := by
  induction before with
  | nil => simp [queuedEnding, removeEnding, he]
  | cons n rest ih =>
    cases n with
    | unitEnded e' => by_cases h : e'.unit = u <;> simp_all [queuedEnding, removeEnding, endings]
    | _ => simpa [queuedEnding, removeEnding, endings] using ih (by simpa [endings] using hb)

/-- R115: PROBE of a number that names no unit. -/
theorem onProbe_refused {s : State} {b : Byte} (hb : 10 < b.toNat) : onProbe s [b] = (s, refusedWith .badValue []) := by
  simp [onProbe, unitNo_eq_none hb]

/-- R115: PROBE of a unit whose status stands in the list or in its context. -/
theorem onProbe_status {s : State} {b : Byte} {u : UnitNo} {e : EndingStatus} (hu : b.toNat = u.val)
    (he : s.outstanding u = some e) : onProbe s [b] = (takeOutstanding u s, ⟨.status, e.bytes⟩) := by
  simp [onProbe, unitNo_eq hu, he, answerStatus]

/-- R115: PROBE of a unit without a status. -/
theorem onProbe_none {s : State} {b : Byte} {u : UnitNo} (hu : b.toNat = u.val) (he : s.outstanding u = none) :
    onProbe s [b] = if (s.unit u).state = .idle then (s, doneWith .quiet [])
      else (s, busyWith s (Config.busySide 0x23) u) := by
  simp [onProbe, unitNo_eq hu, he]

/-- R121: a status that stands in the list is the outstanding one. -/
theorem outstanding_queued {s : State} {u : UnitNo} {e : EndingStatus} (h : queuedEnding u s.nq = some e) :
    s.outstanding u = some e := by
  simp [State.outstanding, h]

/-- R121: without one in the list, the stacked status is the outstanding one. -/
theorem outstanding_stacked {s : State} {u : UnitNo} (h : endings u s.nq = 0) :
    s.outstanding u = (s.unit u).stacked := by
  simp [State.outstanding, queuedEnding_eq_none h]

/-- R113, R115, R143: what a BUSY reply of START and PROBE carries. -/
theorem busyWith_fields (s : State) (side : Side) (u : UnitNo) :
    ∃ fields, BusyFields s u fields ∧ busyWith s side u = ⟨.busy, fields⟩ := by
  refine ⟨(busyWith s side u).fields, ⟨fun hu => ?_, fun hu => ?_⟩, ?_⟩
  · rw [busyWith_light s side u hu]
    rfl
  · subst hu
    obtain ⟨-, h⟩ | ⟨-, h⟩ := busyWith_winch s side
    · exact .inl (by rw [h]; rfl)
    · exact .inr (by rw [h]; rfl)
  · rfl

/-- Settles O11: the status is the first of the unit in the list, else the stacked one; without one the answer
follows the unit's state. -/
theorem probeAnswers : Obligations.ProbeAnswers := by
  intro tag b s hfree
  refine ⟨fun hb => ?_, fun u hu => ⟨fun e before after hq he hb => ?_, fun hq e he => ?_, fun hq hs hstate => ?_,
    fun hq hs hstate => ?_⟩⟩
  · exact congrArg _ (frameArrives_unchanged .probe tag [b] s _ hfree (onProbe_refused hb))
  · obtain ⟨hqueued, hremoved⟩ := queuedEnding_append after he hb
    rw [← hq] at hqueued hremoved
    have hdoes := onProbe_status (s := s.modLnk (lnkOf ⟨0x23, tag, [b]⟩)) hu (outstanding_queued hqueued)
    have htake : takeOutstanding u (s.modLnk (lnkOf ⟨0x23, tag, [b]⟩)) =
        (s.modLnk (lnkOf ⟨0x23, tag, [b]⟩)).modNq fun _ => before ++ after := by
      simp [takeOutstanding, hqueued, State.modNq, hremoved]
    rw [htake] at hdoes
    exact congrArg _ (frameArrives_replied .probe tag [b] s hfree hdoes)
  · have hout : (s.modLnk (lnkOf ⟨0x23, tag, [b]⟩)).outstanding u = some e := (outstanding_stacked hq).trans he
    have hdoes := onProbe_status hu hout
    have htake : takeOutstanding u (s.modLnk (lnkOf ⟨0x23, tag, [b]⟩)) =
        (s.modLnk (lnkOf ⟨0x23, tag, [b]⟩)).modUnit u fun x => { x with stacked := none } := by
      simp [takeOutstanding, queuedEnding_eq_none hq]
    rw [htake] at hdoes
    exact congrArg _ (frameArrives_replied .probe tag [b] s hfree hdoes)
  · have hout : (s.modLnk (lnkOf ⟨0x23, tag, [b]⟩)).outstanding u = none := (outstanding_stacked hq).trans hs
    obtain ⟨fields, hfields, hbusy⟩ := busyWith_fields s (Config.busySide 0x23) u
    have hdoes := (onProbe_none hu hout).trans (if_neg hstate)
    exact ⟨fields, hfields, congrArg _ ((frameArrives_unchanged .probe tag [b] s _ hfree hdoes).trans
      (congrArg (fun a : Answer => replied s s 0x23 tag [b] a.outcome a.fields) hbusy))⟩
  · have hout : (s.modLnk (lnkOf ⟨0x23, tag, [b]⟩)).outstanding u = none := (outstanding_stacked hq).trans hs
    exact congrArg _ (frameArrives_unchanged .probe tag [b] s _ hfree ((onProbe_none hu hout).trans (if_pos hstate)))

/-! ## FETCH_NOTICE (R162) -/

/-- R162: the head of the list is taken, whatever its kind. -/
theorem onFetchNotice_cons {s : State} {n : Notice} {rest : List Notice} (h : s.nq = n :: rest) :
    onFetchNotice s [] = (afterTaking n (s.modNq fun _ => rest), ⟨n.outcome, n.bytes⟩) := by
  simp [onFetchNotice, h]

/-- R162: from an empty list the lowest stacked status is taken. -/
theorem onFetchNotice_stacked {s : State} {u : UnitNo} {e : EndingStatus} (hq : s.nq = [])
    (h : firstStacked s = some (u, e)) :
    onFetchNotice s [] = (s.modUnit u fun x => { x with stacked := none }, ⟨.status, e.bytes⟩) := by
  simp [onFetchNotice, hq, h]

/-- R162: with nothing waiting the reply is EMPTY. -/
theorem onFetchNotice_empty {s : State} (hq : s.nq = []) (h : ∀ u, (s.unit u).stacked = none) :
    onFetchNotice s [] = (s, doneWith .empty []) := by
  have hfirst : firstStacked s = none := by simp [firstStacked, h]
  simp [onFetchNotice, hq, hfirst]

/-- The units in rising order, cut at one of them. -/
theorem allUnits_split (u : UnitNo) : ∃ before after, allUnits = before ++ u :: after ∧ ∀ v ∈ before, v < u := by
  obtain ⟨before, after, h⟩ := List.append_of_mem (show u ∈ allUnits from mem_allUnits u)
  refine ⟨before, after, h, fun v hv => ?_⟩
  have hsorted : allUnits.Pairwise (· < ·) := by decide
  rw [h, List.pairwise_append] at hsorted
  exact hsorted.2.2 v hv u (by simp)

/-- R162: the stacked status of the lowest-numbered unit that has one. -/
theorem firstStacked_eq {s : State} {u : UnitNo} {e : EndingStatus} (hu : (s.unit u).stacked = some e)
    (hlow : ∀ v < u, (s.unit v).stacked = none) : firstStacked s = some (u, e) := by
  obtain ⟨before, after, hsplit, hbefore⟩ := allUnits_split u
  rw [firstStacked, List.findSome?_eq_some_iff]
  exact ⟨before, u, after, hsplit, by simp [hu], fun v hv => by simp [hlow v (hbefore v hv)]⟩

/-- Settles O12: the head of the list with its record, else the lowest stacked status, else nothing. -/
theorem fetchTakesOneItem : Obligations.FetchTakesOneItem := by
  intro tag s hfree
  have htake : ∀ n rest, s.nq = n :: rest → exec (.fetchNotice tag []) s =
      .next (replied s (afterTaking n (s.modNq fun _ => rest)) 0x30 tag [] n.outcome n.bytes) := by
    intro n rest hq
    have hdoes := onFetchNotice_cons (s := s.modLnk (lnkOf ⟨0x30, tag, []⟩)) hq
    refine congrArg _ ((frameArrives_replied .fetchNotice tag [] s hfree hdoes).trans ?_)
    cases n <;> rfl
  refine ⟨fun e rest hq => htake _ _ hq, fun mask levels rest hq => htake _ _ hq, fun new old cause rest hq => htake _ _ hq,
    fun causes first rest hq => htake _ _ hq, fun count state rest hq => htake _ _ hq,
    fun new old f b rest hq => htake _ _ hq, fun m h sensor low hot rest hq => htake _ _ hq, fun hq u e he hlow => ?_,
    fun hq hnone => ?_⟩
  · have hdoes := onFetchNotice_stacked (s := s.modLnk (lnkOf ⟨0x30, tag, []⟩)) hq (firstStacked_eq he hlow)
    exact congrArg _ (frameArrives_replied .fetchNotice tag [] s hfree hdoes)
  · exact congrArg _ (frameArrives_unchanged .fetchNotice tag [] s _ hfree (onFetchNotice_empty hq hnone))

end Sys2Proof.Machine

/-! What a command can do, said once: it changes the link, and at most one block acts (`Acts`). The invariants are
proved by the cases of `Acts`, each with what the model has checked before the act. -/

namespace Sys2Proof.Machine

/-! ## The acts -/

/-- What the blocks can do at a command, with the checks that stand before it; the link is left out. -/
inductive Acts : State → State → Prop
  | fullReset (s) : Acts s (fullReset s)
  | softReset (s) : Acts s (softReset s)
  | set (s k) {w v} (check : setCheck s k w = .ok v) : Acts s (storeSetting k v s)
  | arm (s) (op : s.vsc.op = .parked) (checks : armRefusal s = none) : Acts s (enterArmed s)
  | park (s) (op : s.vsc.op.driven = true) : Acts s (beginShutdown .shutdown .park s)
  | leaveTripped (s) (op : s.vsc.op = .tripped) : Acts s (leaveTripped s)
  | drive (s) {throttle steer} (dig) (op : s.vsc.op.driven = true)
      (hthrottle : -1000 ≤ throttle ∧ throttle ≤ 1000) (hsteer : -1000 ≤ steer ∧ steer ≤ 1000) :
      Acts s (driveTaken throttle steer dig s)
  | steerMode (s m) : Acts s (steerMode m s)
  | setManual (s c level) : Acts s (setManual c level s)
  | writeSteps (s first records) (ok : ∀ r ∈ records, r.ok)
      (free : ∀ k, first ≤ k → k < first + records.length → s.useOf k = 0) : Acts s (writeSteps first records s)
  | start (s) {u first slots} (tag) (status : s.outstanding u = none) (idle : (s.unit u).state = .idle)
      (allowed : startForbidden s u = none) (walked : walk s u first = .passed slots) :
      Acts s (startUnit u first slots tag s)
  | takeStatus (s) {u e} (status : s.outstanding u = some e) : Acts s (takeOutstanding u s)
  | halt (s) {u} (runs : (s.unit u).state = .running) : Acts s (haltUnit u s)
  | lineSet (s) {p} (idle : (s.unit 0).state = .idle) (bound : p ≤ s.cfg.wch.lineMax * 10) :
      Acts s (s.modWch fun w => { w with position := p })
  | assignLine (s) {i fn} (idle : (s.unit 0).state = .idle) (op : s.vsc.op = .parked)
      (single : holderOf i fn s = none) : Acts s (assignLine i fn s)
  | fetch (s) {n rest} (queue : s.nq = n :: rest) : Acts s (afterTaking n (s.modNq fun _ => rest))
  | unstack (s u) (queue : s.nq = []) : Acts s (s.modUnit u fun x => { x with stacked := none })
  | convert (s) {c k} (codes : Vector (Option Code) 12) (scan : s.scn.scan = some c) (wait : s.scn.wait = none)
      (next : nextSlot c.kind c.slot = some k) :
      Acts s (s.modScn fun n => { n with scan := some { c with slot := k, codes := codes }, wait := waitAt s k })
  | completeScan (s c) (wait : s.scn.wait = none) : Acts s (completeScan c s)
  | trigger (s b) : Acts s (bridgeTrigger b s)
  | watch (s) : Acts s (watchExpiry s)
  | assertShort (s b) : Acts s (assertShort b s)
  | deassert (s b) : Acts s (comparatorDeasserts b s)
  | enterFailsafe (s) (op : s.vsc.op = .armed) : Acts s (enterFailsafe s)
  | secondExpiry (s) (op : s.vsc.op = .failsafe) : Acts s (secondExpiry s)
  | forceShutdown (s) (op : s.vsc.op = .shuttingDown) : Acts s (forceShutdown s)
  | driveFrame (s) (drives : s.trc.state ≠ .off) : Acts s (completionTest (driveFrame s))
  | servoFrame (s) : Acts s (servoFrameExpiry s)
  | relax (s) : Acts s (relaxExpiry s)
  | clutch (s) : Acts s (clutchArrives s)
  | lightFrame (s pins) : Acts s (lightFrameExpiry pins s)
  | stall (s) (runs : s.wch.state = .runningPowered) : Acts s (winchEnds .stall s)

/-! ## Requests -/

/-- R105: the loop count of a link fills its byte. -/
theorem linkOf_ok {code : Nat} {target loops : Byte} {link : Link} (h : linkOf code target loops = some link) :
    link.ok := by
  unfold linkOf at h
  split at h
  · cases h; trivial
  · cases h; trivial
  · split at h
    · cases h; exact Nat.le_of_lt_succ loops.isLt
    · contradiction
  · contradiction

/-- R106: an amount is brought into its range. -/
theorem endOnOf_ok {code amount : Nat} {e : EndOn} (h : endOnOf code amount = some e) : e.ok := by
  unfold endOnOf at h
  split at h
  · cases h; simp only [EndOn.ok, clampNat]; omega
  · cases h; simp only [EndOn.ok, clampNat]; omega
  · cases h; simp only [EndOn.ok, clampNat]; omega
  · cases h; trivial
  · contradiction

/-- R106: a field of up to 1 000 is brought into its range. -/
theorem clampNat_le (hi x : Nat) : clampNat 0 hi x ≤ hi := by
  simp only [clampNat]; omega

/-- R105, R106: a record that STORE_STEPS takes has its fields in their ranges. -/
theorem recordOf_ok {b0 b1 b2 b3 b4 b5 b6 b7 : Byte} {r : StepRec}
    (h : recordOf b0 b1 b2 b3 b4 b5 b6 b7 = some r) : r.ok := by
  unfold recordOf at h
  split at h
  · cases h; trivial
  · split at h
    · cases h
      exact ⟨Nat.le_of_lt_succ b3.isLt, clampNat_le _ _, clampNat_le _ _, linkOf_ok ‹_›⟩
    · contradiction
  · split at h
    · cases h
      exact ⟨clampNat_le _ _, endOnOf_ok ‹_›, linkOf_ok ‹_›⟩
    · contradiction
  · contradiction

/-- R105: so have all records of a payload. -/
theorem recordsOf_ok {l : List Byte} {r : StepRec} (h : some r ∈ recordsOf l) : r.ok := by
  induction l using recordsOf.induct with
  | case1 b0 b1 b2 b3 b4 b5 b6 b7 rest ih =>
    rw [recordsOf, List.mem_cons] at h
    obtain h | h := h
    · exact recordOf_ok h.symm
    · exact ih h
  | case2 l hl =>
    rw [recordsOf] at h
    · contradiction
    · exact hl

/-- R178: what a SET can do. -/
theorem onSet_acts (s : State) (p : List Byte) : (onSet s p).1 = s ∨ Acts s (onSet s p).1 := by
  unfold onSet
  split
  · split
    · split
      · exact .inr (.set _ _ ‹_›)
      · exact .inl rfl
    · exact .inl rfl
  · exact .inl rfl

/-- R3 to R5: what an ARM can do. -/
theorem onArm_acts (s : State) (p : List Byte) : (onArm s p).1 = s ∨ Acts s (onArm s p).1 := by
  unfold onArm
  split
  · split
    · rename_i hop
      unfold armParked
      split
      · exact .inl rfl
      · exact .inr (.arm s hop ‹_›)
    all_goals exact .inl rfl
  · exact .inl rfl

/-- R6, R21: what a PARK can do. -/
theorem onPark_acts (s : State) (p : List Byte) : (onPark s p).1 = s ∨ Acts s (onPark s p).1 := by
  unfold onPark
  split
  · split
    · exact .inl rfl
    · rename_i hop
      exact .inr (.park s (by rw [hop]; rfl))
    · rename_i hop
      exact .inr (.park s (by rw [hop]; rfl))
    · exact .inl rfl
    · rename_i hop
      unfold parkTripped
      split
      · exact .inr (.leaveTripped s hop)
      · exact .inl rfl
  · exact .inl rfl

/-- R173: a value sent is brought into -1 000 to 1 000. -/
theorem permille_bounds (x : Int) : -1000 ≤ permille x ∧ permille x ≤ 1000 := by
  simp only [permille, clampInt]; omega

/-- R69: what a DRIVE can do. -/
theorem onDrive_acts (s : State) (p : List Byte) : (onDrive s p).1 = s ∨ Acts s (onDrive s p).1 := by
  unfold onDrive
  split
  · split
    · exact .inl rfl
    · split
      · exact .inr (.drive s _ ‹_› (permille_bounds _) (permille_bounds _))
      · exact .inl rfl
  · exact .inl rfl

/-- R94: what a STEER_MODE can do. -/
theorem onSteerMode_acts (s : State) (p : List Byte) : (onSteerMode s p).1 = s ∨ Acts s (onSteerMode s p).1 := by
  unfold onSteerMode
  split
  · split
    · exact .inl rfl
    · exact .inr (.steerMode _ _)
  · exact .inl rfl

/-- R148: what a SET_LIGHT can do. -/
theorem onSetLight_acts (s : State) (p : List Byte) : (onSetLight s p).1 = s ∨ Acts s (onSetLight s p).1 := by
  unfold onSetLight
  split
  · split
    · exact .inl rfl
    · exact .inr (.setManual _ _ _)
  · exact .inl rfl

/-- R105: a run without a slot in use. -/
theorem slotInUse_eq_none {s : State} {first count k : Nat} (h : slotInUse s first count = none)
    (hlow : first ≤ k) (hhigh : k < first + count) : s.useOf k = 0 := by
  simp only [slotInUse, List.find?_eq_none, List.mem_map, List.mem_range, decide_eq_true_eq, Nat.not_lt] at h
  exact Nat.le_zero.mp (h k ⟨k - first, by omega, by omega⟩)

/-- R105: where no record is refused, the records written are as many as those sent. -/
theorem length_filterMap_of_findIdx? {records : List (Option StepRec)} (h : records.findIdx? Option.isNone = none) :
    (records.filterMap id).length = records.length := by
  rw [List.findIdx?_eq_none_iff] at h
  induction records with
  | nil => rfl
  | cons r rest ih =>
    obtain ⟨hr, hrest⟩ := List.forall_mem_cons.mp h
    cases r with
    | none => contradiction
    | some r => simpa using ih hrest

/-- R105, R106: what a STORE_STEPS can do. -/
theorem onStoreSteps_acts (s : State) (p : List Byte) : (onStoreSteps s p).1 = s ∨ Acts s (onStoreSteps s p).1 := by
  unfold onStoreSteps
  split
  · split
    · split
      · exact .inl rfl
      · unfold storeRecords
        split
        · exact .inl rfl
        · rename_i hall
          split
          · exact .inl rfl
          · rename_i hfree
            refine .inr (.writeSteps s _ _ (fun r hr => ?_) (fun k hlow hhigh => ?_))
            · rw [List.mem_filterMap] at hr
              obtain ⟨_, hmem, rfl⟩ := hr
              exact recordsOf_ok hmem
            · rw [length_filterMap_of_findIdx? hall] at hhigh
              exact slotInUse_eq_none hfree hlow hhigh
    · exact .inl rfl
  · exact .inl rfl

/-- R113: what a START can do. -/
theorem onStart_acts (s : State) (p : List Byte) : (onStart s p).1 = s ∨ Acts s (onStart s p).1 := by
  unfold onStart
  split
  · split
    · split
      · exact .inr (.takeStatus s ‹_›)
      · split
        · unfold startIdle
          split
          · exact .inl rfl
          · split
            · exact .inl rfl
            · exact .inr (.start s _ ‹_› ‹_› ‹_› ‹_›)
        · exact .inl rfl
    · exact .inl rfl
  · exact .inl rfl

/-- R115: what a PROBE can do. -/
theorem onProbe_acts (s : State) (p : List Byte) : (onProbe s p).1 = s ∨ Acts s (onProbe s p).1 := by
  unfold onProbe
  split
  · split
    · split
      · exact .inr (.takeStatus s ‹_›)
      · split <;> exact .inl rfl
    · exact .inl rfl
  · exact .inl rfl

/-- R116: what a HALT can do. -/
theorem onHalt_acts (s : State) (p : List Byte) : (onHalt s p).1 = s ∨ Acts s (onHalt s p).1 := by
  unfold onHalt
  split
  · split
    · split
      · exact .inr (.halt s ‹_›)
      · exact .inl rfl
      · exact .inl rfl
    · exact .inl rfl
  · exact .inl rfl

/-- R131: what a LINE_SET can do. -/
theorem onLineSet_acts (s : State) (p : List Byte) : (onLineSet s p).1 = s ∨ Acts s (onLineSet s p).1 := by
  unfold onLineSet
  split
  · split
    · exact .inr (.lineSet s ‹_› (Nat.mul_le_mul_right _ (clampNat_le _ _)))
    · exact .inl rfl
  · exact .inl rfl

/-- R166: what an ASSIGN_LINE can do. -/
theorem onAssignLine_acts (s : State) (p : List Byte) :
    (onAssignLine s p).1 = s ∨ Acts s (onAssignLine s p).1 := by
  unfold onAssignLine
  split
  · split
    · exact .inl rfl
    · split
      · exact .inl rfl
      · unfold assignKnown
        split
        · exact .inl rfl
        · split
          · exact .inl rfl
          · split
            · exact .inl rfl
            · rename_i hidle hop _ hsingle
              exact .inr (.assignLine s (not_not.mp hidle) (not_not.mp hop) hsingle)
  · exact .inl rfl

/-- R162: what a FETCH_NOTICE can do. -/
theorem onFetchNotice_acts (s : State) (p : List Byte) :
    (onFetchNotice s p).1 = s ∨ Acts s (onFetchNotice s p).1 := by
  unfold onFetchNotice
  split
  · split
    · exact .inr (.fetch s ‹_›)
    · split
      · exact .inr (.unstack s _ ‹_›)
      · exact .inl rfl
  · exact .inl rfl

/-- R173: a request that reads changes nothing. -/
theorem reads_keep (s : State) (p : List Byte) :
    (onIdentify s p).1 = s ∧ (onStatus s p).1 = s ∧ (onReset s p).1 = s ∧ (onGet s p).1 = s ∧
      (onReadSteps s p).1 = s := by
  refine ⟨?_, ?_, ?_, ?_, ?_⟩
  · unfold onIdentify; split <;> rfl
  · unfold onStatus; split
    · split <;> rfl
    · rfl
  · unfold onReset; split <;> rfl
  · unfold onGet; split
    · split <;> rfl
    · rfl
  · unfold onReadSteps; split
    · split <;> rfl
    · rfl

/-- R173: what a request's owner can do: nothing, or one act. -/
theorem handle_acts (k : Kind) (s : State) (p : List Byte) :
    (k.handle s p).1 = s ∨ Acts s (k.handle s p).1 := by
  obtain ⟨hidentify, hstatus, hreset, hget, hread⟩ := reads_keep s p
  cases k with
  | identify => exact .inl hidentify
  | status => exact .inl hstatus
  | reset => exact .inl hreset
  | get => exact .inl hget
  | set => exact onSet_acts s p
  | arm => exact onArm_acts s p
  | park => exact onPark_acts s p
  | drive => exact onDrive_acts s p
  | steerMode => exact onSteerMode_acts s p
  | setLight => exact onSetLight_acts s p
  | storeSteps => exact onStoreSteps_acts s p
  | readSteps => exact .inl hread
  | start => exact onStart_acts s p
  | probe => exact onProbe_acts s p
  | halt => exact onHalt_acts s p
  | lineSet => exact onLineSet_acts s p
  | assignLine => exact onAssignLine_acts s p
  | fetchNotice => exact onFetchNotice_acts s p

/-! ## Commands -/

/-- What a command does: it changes the link, or one act stands between two changes of the link. -/
def Does (s t : State) : Prop := (∃ g, t = s.modLnk g) ∨ ∃ f g u, Acts (s.modLnk f) u ∧ t = u.modLnk g

/-- A change of the link alone. -/
theorem does_link (s : State) (g : Lnk → Lnk) : Does s (s.modLnk g) := .inl ⟨g, rfl⟩

/-- A command whose condition does not hold. -/
theorem does_nothing (s : State) : Does s s := does_link s id

/-- One act. -/
theorem does_act {s t : State} (h : Acts s t) : Does s t := .inr ⟨id, id, t, h, rfl⟩

/-- R172, R173: what taking a request does. -/
theorem takeRequest_does (f : Frame) (g : Lnk → Lnk) (s : State) : Does s (takeRequest f (s.modLnk g)) := by
  unfold takeRequest sendReply answerFrame
  rw [State.modLnk_modLnk]
  split
  · dsimp only
    exact .inl ⟨_, State.modLnk_modLnk ..⟩
  · rename_i k _
    obtain h | h := handle_acts k (s.modLnk fun l => { g l with inHand := some f }) f.payload
    · rw [h]
      exact .inl ⟨_, State.modLnk_modLnk ..⟩
    · exact .inr ⟨_, _, _, h, rfl⟩

/-- R172: what the arrival of a frame does. -/
theorem frameArrives_does (f : Frame) (s : State) : Does s (frameArrives f s) := by
  obtain ⟨-, h⟩ | ⟨_, -, -, h⟩ | ⟨_, _, -, -, h⟩ := frameArrives_cases f s
  · exact h ▸ takeRequest_does f _ s
  · exact h ▸ does_link s _
  · exact h ▸ does_link s _

/-- R172, R176: what the end of a reply does. -/
theorem replySent_does (s : State) : Does s (replySent s) := by
  obtain ⟨-, h⟩ | ⟨_, -, -, h⟩ | ⟨_, -, -, h⟩ := replySent_cases s
  · rw [h]
    exact does_nothing s
  · rw [h]
    exact does_act (.softReset s)
  · rw [h]
    unfold nextRequest
    dsimp only
    split
    · exact takeRequest_does _ _ s
    · exact does_link s _

/-- R171: what the reception of a byte does. -/
theorem byteIn_does (b : Byte) (s : State) : Does s (byteIn b s) := by
  unfold byteIn
  split
  · unfold huntByte
    split
    · exact does_link s _
    · exact does_nothing s
  · unfold lengthByte
    split <;> exact does_link s _
  · exact does_link s _
  · unfold checkByte
    split
    · split
      · exact frameArrives_does _ s
      · exact does_link s _
    · exact does_link s _

/-- R171: what arrives on RX does. -/
theorem receive_does (rx : RxByte) (s : State) : Does s (receive rx s) := by
  unfold receive
  split
  · exact byteIn_does _ s
  · split
    · exact does_nothing s
    · exact does_link s _

/-- R23, R32: what a conversion end does. -/
theorem conversionEnd_does (code : Code) (s : State) : Does s (conversionEnd code s) := by
  unfold conversionEnd
  split
  · rename_i c hscan hwait
    dsimp only
    split
    · exact does_act (.convert s _ hscan hwait ‹_›)
    · exact does_act (.completeScan s _ hwait)
  · exact does_nothing s

/-- R7, R9, R10: what a hold expiry does. -/
theorem holdExpiry_does (s : State) : Does s (holdExpiry s) := by
  unfold holdExpiry
  split
  · exact does_nothing s
  · split
    · exact does_act (.enterFailsafe s ‹_›)
    · exact does_act (.secondExpiry s ‹_›)
    all_goals exact does_nothing s

/-- R14: what a grace expiry does. -/
theorem graceExpiry_does (s : State) : Does s (graceExpiry s) := by
  unfold graceExpiry
  split
  · exact does_nothing s
  · split
    · exact does_act (.forceShutdown s ‹_›)
    · exact does_nothing s

/-- R73: what a drive frame expiry does. -/
theorem driveFrameExpiry_does (s : State) : Does s (driveFrameExpiry s) := by
  unfold driveFrameExpiry
  split
  · exact does_nothing s
  · exact does_act (.driveFrame s ‹_›)

/-- R17: what a comparator's assertion does. -/
theorem comparatorAsserts_does (b : Bridge) (s : State) : Does s (comparatorAsserts b s) := by
  unfold comparatorAsserts
  split
  · exact does_nothing s
  · exact does_act (.assertShort s b)

/-- R127: what a clutch travel expiry does. -/
theorem clutchExpiry_does (s : State) : Does s (clutchExpiry s) := by
  unfold clutchExpiry
  split
  · exact does_nothing s
  · exact does_act (.clutch s)

/-- R138: what a stall timer expiry does. -/
theorem stallExpiry_does (s : State) : Does s (stallExpiry s) := by
  unfold stallExpiry
  split
  · exact does_nothing s
  · split
    · exact does_act (.stall s ‹_›)
    · exact does_nothing s

/-- R171: what a byte gap expiry does. -/
theorem gapExpiry_does (s : State) : Does s (gapExpiry s) := by
  unfold gapExpiry
  split
  · exact does_link s _
  · exact does_nothing s

/-- Every command changes the link and lets at most one block act. -/
theorem exec_does {i : Instr} {s t : State} (h : exec i s = .next t) : Does s t := by
  cases hf : frameOfCommand i with
  | some f =>
    rw [exec_of_frame hf] at h
    cases h
    exact frameArrives_does f s
  | none =>
    cases i with
    | fullReset => cases h; exact does_act (.fullReset s)
    | softReset => cases h; exact does_act (.softReset s)
    | frameDiscard rx => cases h; exact receive_does rx s
    | byteGapExpiry => cases h; exact gapExpiry_does s
    | replySent => cases h; exact replySent_does s
    | conversionEnd code => cases h; exact conversionEnd_does code s
    | bridgeTriggerArrival b => cases h; exact does_act (.trigger s b)
    | watchIntervalExpiry => cases h; exact does_act (.watch s)
    | shortComparatorAssert b => cases h; exact comparatorAsserts_does b s
    | shortComparatorDeassert b => cases h; exact does_act (.deassert s b)
    | holdExpiry => cases h; exact holdExpiry_does s
    | graceExpiry => cases h; exact graceExpiry_does s
    | driveFrameExpiry => cases h; exact driveFrameExpiry_does s
    | servoFrameExpiry => cases h; exact does_act (.servoFrame s)
    | relaxTimerExpiry => cases h; exact does_act (.relax s)
    | clutchTravelExpiry => cases h; exact clutchExpiry_does s
    | lightFrameExpiry pins => cases h; exact does_act (.lightFrame s pins)
    | stallTimerExpiry => cases h; exact stallExpiry_does s
    | byteReceived b => cases h; exact receive_does (.good b) s
    | _ => contradiction

/-- What no change of the link and no act breaks, no command breaks. -/
theorem exec_keeps {P : State → Prop} (link : ∀ s f, P s → P (s.modLnk f)) (act : ∀ s t, Acts s t → P s → P t)
    {i : Instr} {s t : State} (hs : P s) (h : exec i s = .next t) : P t := by
  obtain ⟨g, rfl⟩ | ⟨f, g, u, hu, rfl⟩ := exec_does h
  · exact link s g hs
  · exact link u g (act _ u hu (link s f hs))

end Sys2Proof.Machine

/-! What an event can do to the winch, said once: steps are handed over and run (`WinchMoves`), and the program may
end (`WinchDoes`). -/

namespace Sys2Proof.Machine

/-! ## The moves -/

/-- The winch works on its program without an end of it: what the other blocks keep, and what WCH, TRC's assist and
SCN's wait can become. -/
structure WinchMoves (s t : State) : Prop where
  vsc : t.vsc = s.vsc
  sup : t.sup = s.sup
  stc : t.stc = s.stc
  ltc : t.ltc = s.ltc
  lmx : t.lmx = s.lmx
  nq : t.nq = s.nq
  lnk : t.lnk = s.lnk
  cfg : t.cfg = s.cfg
  store : t.pgc.store = s.pgc.store
  useCount : t.pgc.useCount = s.pgc.useCount
  lights : ∀ v, v ≠ 0 → t.unit v = s.unit v
  unit : { t.unit 0 with current := (s.unit 0).current, loop := (s.unit 0).loop, progress := (s.unit 0).progress } =
    s.unit 0
  trc : { t.trc with assist := none } = { s.trc with assist := none }
  /-- R85: an assist that becomes active starts at the larger duty. -/
  assist : ∀ cap, t.trc.assist = some cap → s.trc.assist = some cap ∨ cap = largerDuty s
  scn : { t.scn with wait := none } = { s.scn with wait := none }
  /-- R26: a wait that stands has stood before, and its bridge is driven if it was. -/
  wait : ∀ b, t.scn.wait = some b → s.scn.wait = some b ∧ (s.duty b ≠ 0 → t.duty b ≠ 0)
  /-- R130: P stays within its maximum. -/
  position : t.wch.position ≤ max s.wch.position (positionMax s)
  /-- R134: the duty stays within the duty cap. -/
  applied : t.wch.applied = s.wch.applied ∨ t.wch.applied ≤ s.sup.alloc.dutyCap.winch
  /-- R132: a step begins with a still clutch, which then stays where it is. -/
  begun : WinchBegun t → (WinchBegun s ∧ t.wch.clutch = s.wch.clutch) ∨ t.wch.clutch.moving = false

/-- R78: the axles' duties do not move with the winch. -/
theorem WinchMoves.axle {s t : State} (h : WinchMoves s t) : t.trc.applied = s.trc.applied :=
  (congrArg Trc.applied h.trc :)

theorem WinchMoves.refl (s : State) : WinchMoves s s where
  vsc := rfl
  sup := rfl
  stc := rfl
  ltc := rfl
  lmx := rfl
  nq := rfl
  lnk := rfl
  cfg := rfl
  store := rfl
  useCount := rfl
  lights := fun _ _ => rfl
  unit := rfl
  trc := rfl
  assist := fun _ h => .inl h
  scn := rfl
  wait := fun _ h => ⟨h, id⟩
  position := le_max_left _ _
  applied := .inl rfl
  begun := fun h => .inl ⟨h, rfl⟩

theorem WinchMoves.trans {s t u : State} (h : WinchMoves s t) (k : WinchMoves t u) : WinchMoves s u where
  vsc := k.vsc.trans h.vsc
  sup := k.sup.trans h.sup
  stc := k.stc.trans h.stc
  ltc := k.ltc.trans h.ltc
  lmx := k.lmx.trans h.lmx
  nq := k.nq.trans h.nq
  lnk := k.lnk.trans h.lnk
  cfg := k.cfg.trans h.cfg
  store := k.store.trans h.store
  useCount := k.useCount.trans h.useCount
  lights := fun v hv => (k.lights v hv).trans (h.lights v hv)
  unit := by
    have hu := h.unit
    rw [← k.unit] at hu
    exact hu
  trc := k.trc.trans h.trc
  assist := fun cap hcap => by
    obtain hk | hk := k.assist cap hcap
    · exact h.assist cap hk
    · exact .inr (hk.trans (by rw [largerDuty, h.axle]; rfl))
  scn := k.scn.trans h.scn
  wait := fun b hb =>
    ⟨(h.wait b (k.wait b hb).1).1, fun hd => (k.wait b hb).2 ((h.wait b (k.wait b hb).1).2 hd)⟩
  position := by
    have hp := h.position
    have kp := k.position
    rw [positionMax, h.cfg] at kp
    rw [positionMax] at hp ⊢
    omega
  applied := by
    obtain hk | hk := k.applied
    · rw [hk]
      exact h.applied
    · exact .inr (h.sup ▸ hk)
  begun := fun hu => by
    obtain ⟨ht, hc⟩ | hc := k.begun hu
    · rw [hc]
      exact h.begun ht
    · exact .inr hc

/-- R140, R133: an event lets the winch work on its program, which may then end. -/
def WinchDoes (s t : State) : Prop :=
  ∃ u, WinchMoves s u ∧ (t = u ∨ ∃ cause, t = winchEnds cause u)

/-- The same for an event that works on a step that has begun, and otherwise leaves the winch state alone. -/
def WinchReacts (s t : State) : Prop :=
  ∃ u, WinchMoves s u ∧ ((t = u ∧ (¬ WinchBegun s → u.wch.state = s.wch.state)) ∨
    WinchBegun s ∧ ∃ cause, t = winchEnds cause u)

/-! ## Single moves -/

/-- A change of the unit's place in its program. -/
theorem winchMoves_modUnit (s : State) (f : UnitCtx → UnitCtx)
    (hf : ∀ x, { f x with current := x.current, loop := x.loop, progress := x.progress } = x) :
    WinchMoves s (s.modUnit 0 f) :=
  { WinchMoves.refl s with
    lights := fun v hv => State.unit_modUnit_ne s f hv
    unit := by rw [State.unit_modUnit_self]; exact hf _
    store := rfl
    useCount := rfl }

/-- A change of WCH's record that leaves the duty alone. -/
theorem winchMoves_modWch (s : State) (f : Wch → Wch) (happlied : (f s.wch).applied = s.wch.applied)
    (hposition : (f s.wch).position ≤ max s.wch.position (positionMax s))
    (hbegun : WinchBegun (s.modWch f) →
      (WinchBegun s ∧ (f s.wch).clutch = s.wch.clutch) ∨ (f s.wch).clutch.moving = false) :
    WinchMoves s (s.modWch f) :=
  { WinchMoves.refl s with
    wait := fun b hb => ⟨hb, fun hd => by
      cases b with
      | winch => exact fun h => hd (happlied.symm.trans h)
      | _ => exact hd⟩
    position := hposition
    applied := .inl happlied
    begun := hbegun }

/-- A change of WCH's record that leaves the state, the clutch and the duty alone. -/
theorem winchMoves_quiet (s : State) (f : Wch → Wch) (hstate : (f s.wch).state = s.wch.state)
    (hclutch : (f s.wch).clutch = s.wch.clutch) (happlied : (f s.wch).applied = s.wch.applied)
    (hposition : (f s.wch).position ≤ max s.wch.position (positionMax s)) : WinchMoves s (s.modWch f) :=
  winchMoves_modWch s f happlied hposition fun hb => .inl ⟨by
    unfold WinchBegun at hb ⊢
    rwa [State.modWch_wch, hstate] at hb, hclutch⟩

/-- R26: where a wait ends at a duty of 0, the rest of the state stands. -/
theorem endWaitOnZero_scn (s : State) :
    { (endWaitOnZero s).scn with wait := none } = { s.scn with wait := none } ∧
      ∀ b, (endWaitOnZero s).scn.wait = some b ↔ s.scn.wait = some b ∧ s.duty b ≠ 0 := by
  obtain ⟨b, hb, hd, h⟩ | ⟨hd, h⟩ := endWaitOnZero_cases s
  · rw [h]
    refine ⟨rfl, fun b' => ⟨fun h' => by simp at h', fun ⟨h', hd'⟩ => ?_⟩⟩
    rw [hb, Option.some.injEq] at h'
    subst h'
    contradiction
  · rw [h]
    exact ⟨rfl, fun b => ⟨fun hb => ⟨hb, hd b hb⟩, fun hb => hb.1⟩⟩

/-- R26: a wait that ends does not touch the duties. -/
theorem duty_endWaitOnZero (s : State) (b : Bridge) : (endWaitOnZero s).duty b = s.duty b := by
  cases b <;> simp [State.duty]

/-- R125: the winch's duty is set within its cap. -/
theorem winchMoves_setWinchDuty (s : State) {d : Nat} (h : d ≤ s.sup.alloc.dutyCap.winch) :
    WinchMoves s (setWinchDuty d s) := by
  obtain ⟨hscn, hwait⟩ := endWaitOnZero_scn (s.modWch fun w => { w with applied := d })
  have hwch : (setWinchDuty d s).wch = { s.wch with applied := d } := by simp [setWinchDuty]
  exact { WinchMoves.refl s with
    vsc := by simp
    sup := by simp
    stc := by simp
    ltc := by simp
    lmx := by simp
    nq := by simp
    lnk := by simp
    cfg := by simp
    store := by simp
    useCount := by simp
    lights := fun v _ => by simp [State.unit]
    unit := by simp [State.unit]
    trc := by simp
    assist := fun cap hcap => .inl (by simpa using hcap)
    scn := hscn
    wait := fun b hb => by
      obtain ⟨hs, hd⟩ := (hwait b).mp hb
      exact ⟨hs, fun _ => (duty_endWaitOnZero _ b).symm ▸ hd⟩
    position := by rw [hwch]; exact le_max_left _ _
    applied := .inr (by rw [hwch]; exact h)
    begun := fun hb => .inl (by
      unfold WinchBegun at hb ⊢
      rw [hwch] at hb ⊢
      exact ⟨hb, rfl⟩) }

/-- R139: the assist ends. -/
theorem winchMoves_assistOff (s : State) : WinchMoves s (assistOff s) := by
  have hwch : (assistOff s).wch = { s.wch with assist := false } := by simp [assistOff]
  exact { WinchMoves.refl s with
    assist := fun cap hcap => by simp [assistOff, assistEnd] at hcap
    wait := fun b hb => ⟨hb, id⟩
    begun := fun hb => .inl (by
      unfold WinchBegun at hb ⊢
      rw [hwch] at hb ⊢
      exact ⟨hb, rfl⟩) }

/-- R85: the assist starts at the larger duty. -/
theorem winchMoves_assistStart (s : State) : WinchMoves s (assistStart s) :=
  { WinchMoves.refl s with
    assist := fun cap hcap => .inr (by
      simp only [assistStart, State.modTrc_trc, Option.some.injEq] at hcap
      exact hcap.symm) }

/-- R120: the progress of the step is reported. -/
theorem winchMoves_reportProgress (s : State) : WinchMoves s (reportProgress s) :=
  winchMoves_modUnit s _ fun _ => rfl

/-- R118: the context passes to a slot. -/
theorem winchMoves_passTo (slot : Slot) (loop : LoopCounter) (s : State) : WinchMoves s (passTo 0 slot loop s) :=
  winchMoves_modUnit s _ fun _ => rfl

/-! ## Steps -/

/-- R126: a clutch that meets a need does not move. -/
theorem still_of_clutchMeets {s : State} {a : Action} (h : clutchMeets s a = true) :
    s.wch.clutch.moving = false := by
  simp only [clutchMeets, Bool.or_eq_true, Bool.and_eq_true, decide_eq_true_eq] at h
  obtain h | ⟨⟨-, h⟩, -⟩ := h
  · rw [h]
    cases a <;> rfl
  · rw [h]
    rfl

/-- R133: a step begins with a still clutch. -/
theorem winchMoves_beginWinchStep (r : WinchRec) (s : State) (hclutch : s.wch.clutch.moving = false) :
    WinchMoves s (beginWinchStep r s).1 := by
  unfold beginWinchStep
  dsimp only
  have hstate : WinchMoves s (s.modWch fun w => { w with state := r.action.winchState, stall := none }) :=
    winchMoves_modWch s _ rfl (le_max_left _ _) fun _ => .inr hclutch
  have hduty := hstate.trans (winchMoves_setWinchDuty _
    (d := if r.action.winchState = .runningPowered
      then poweredDuty (s.modWch fun w => { w with state := r.action.winchState, stall := none }) r else 0) (by
    split
    · exact min_le_right _ _
    · exact Nat.zero_le _))
  split
  · refine (hduty.trans ?_).trans (winchMoves_assistStart _)
    exact winchMoves_quiet _ _ rfl rfl rfl (le_max_left _ _)
  · exact hduty

/-- R127, R132: the clutch starts to move and the winch waits for it; a wait is no step that has begun. -/
theorem winchMoves_waitForClutch (toward : ClutchState) (s : State) :
    WinchMoves s (waitForClutch (startClutch toward s)) := by
  have hwaits : WinchMoves s ((startClutch toward s).modWch fun w => { w with state := .waitClutch, stall := none }) := by
    obtain ⟨-, hs⟩ | ⟨-, hs⟩ := startClutch_cases toward s
    · rw [hs]
      exact winchMoves_modWch s _ rfl (le_max_left _ _) fun hb => by simp [WinchBegun] at hb
    · rw [hs, State.modWch_modWch]
      exact winchMoves_modWch s _ rfl (le_max_left _ _) fun hb => by simp [WinchBegun] at hb
  exact (hwaits.trans (winchMoves_assistOff _)).trans (winchMoves_setWinchDuty _ (Nat.zero_le _))

/-- R132: WCH takes the record of a slot. -/
theorem winchMoves_handWinch (slot : Slot) (s : State) : WinchMoves s (handWinch slot s).1 := by
  unfold handWinch
  split
  · rename_i r _
    dsimp only
    have htaken : WinchMoves s (s.modWch fun w =>
        { w with step := some ⟨slot, r⟩, travel := 0, frames := 0, lastCurrent := 0 }) :=
      winchMoves_quiet s _ rfl rfl rfl (le_max_left _ _)
    split
    · exact htaken.trans (winchMoves_beginWinchStep r _ (still_of_clutchMeets ‹_›))
    · exact htaken.trans (winchMoves_waitForClutch _ _)
  · exact .refl s
  · exact .refl s

/-- R118, R133: a verdict is carried out: steps follow one another, and the program may end. -/
theorem runWinch_does (fuel : Nat) (p : State × Verdict) : WinchDoes p.1 (runWinch fuel p) := by
  induction fuel generalizing p with
  | zero =>
    obtain ⟨s, v⟩ := p
    cases v with
    | runs => exact ⟨s, .refl s, .inl (by simp [runWinch])⟩
    | completes => exact ⟨s, .refl s, .inl (by simp [runWinch])⟩
    | ends cause => exact ⟨s, .refl s, .inr ⟨cause, by simp [runWinch]⟩⟩
  | succ n ih =>
    obtain ⟨s, v⟩ := p
    cases v with
    | runs => exact ⟨s, .refl s, .inl (by simp [runWinch])⟩
    | ends cause => exact ⟨s, .refl s, .inr ⟨cause, by simp [runWinch]⟩⟩
    | completes =>
      have hoff := winchMoves_assistOff s
      simp only [runWinch]
      split
      · rename_i loop _
        have hloop := winchMoves_modUnit (assistOff s) (fun y => { y with loop := loop }) fun _ => rfl
        exact ⟨_, hoff.trans hloop, .inr ⟨.complete, rfl⟩⟩
      · rename_i slot loop _
        obtain ⟨u, hu, hends⟩ := ih (handWinch slot (passTo 0 slot loop (assistOff s)))
        exact ⟨u, ((hoff.trans (winchMoves_passTo slot loop _)).trans (winchMoves_handWinch slot _)).trans hu, hends⟩

/-- R118, R133: a verdict is carried out. -/
theorem settleWinch_does (p : State × Verdict) : WinchDoes p.1 (settleWinch p) := by
  unfold settleWinch
  exact runWinch_does 128 p

/-- What follows moves. -/
theorem WinchMoves.does {s t u : State} (h : WinchMoves s t) (k : WinchDoes t u) : WinchDoes s u := by
  obtain ⟨v, hv, hends⟩ := k
  exact ⟨v, h.trans hv, hends⟩

/-- R114: the winch unit starts. -/
theorem startWinch_does (first : Slot) (s : State) : WinchDoes s (startWinch first s) := by
  unfold startWinch
  exact (winchMoves_handWinch first s).does (settleWinch_does _)

/-! ## Events -/

/-- R135: the states in which a step has begun. -/
theorem begun_iff (s : State) : s.wch.state.begun = true ↔ WinchBegun s := by
  unfold WinchBegun
  cases s.wch.state <;> simp [WinchState.begun]

/-- A verdict that follows moves of a winch whose step has begun. -/
theorem settleWinch_reacts {s : State} {p : State × Verdict} (h : WinchMoves s p.1) (hs : WinchBegun s) :
    WinchReacts s (settleWinch p) := by
  obtain ⟨u, hu, ht | ht⟩ := settleWinch_does p
  · exact ⟨u, h.trans hu, .inl ⟨ht, fun hnot => absurd hs hnot⟩⟩
  · exact ⟨u, h.trans hu, .inr ⟨hs, ht⟩⟩

/-- Moves that leave the winch state alone. -/
theorem WinchMoves.reacts {s t : State} (h : WinchMoves s t) (hs : t.wch.state = s.wch.state) : WinchReacts s t :=
  ⟨t, h, .inl ⟨rfl, fun _ => hs⟩⟩

theorem WinchReacts.refl (s : State) : WinchReacts s s := (WinchMoves.refl s).reacts rfl

/-- R130: P moves within its bounds. -/
theorem winchMoves_movePosition {p : Nat} (s : State) (h : p ≤ max s.wch.position (positionMax s)) :
    WinchMoves s (movePosition p s) :=
  (winchMoves_quiet s _ rfl rfl rfl h).trans (winchMoves_reportProgress _)

/-- R130, step 3: the stall timer restarts. -/
theorem winchMoves_restartStall (s : State) : WinchMoves s (restartStall s) := by
  unfold restartStall
  split
  · exact winchMoves_quiet s _ rfl rfl rfl (le_max_left _ _)
  · exact .refl s

/-- R130: the winch state does not change where the stall timer restarts. -/
theorem restartStall_state (s : State) : (restartStall s).wch.state = s.wch.state := by
  unfold restartStall
  split <;> rfl

/-- R130: what the tests after a pulse can do. -/
theorem pulseTests_reacts {s t : State} (e : EndOn) (atLimit : Bool) (cause : EndCause) (h : WinchMoves s t)
    (hstate : t.wch.state = s.wch.state) (hs : WinchBegun s) :
    WinchReacts s (pulseTests e atLimit cause t) := by
  unfold pulseTests
  split
  · exact settleWinch_reacts (p := (t, .completes)) h hs
  · split
    · exact settleWinch_reacts (p := (t, .ends cause)) h hs
    · exact (h.trans (winchMoves_restartStall t)).reacts ((restartStall_state t).trans hstate)

/-- R130: P after a pulse lies within its bounds. -/
theorem positionOut_le (s : State) : positionOut s ≤ max s.wch.position (positionMax s) :=
  (min_le_right _ _).trans (le_max_right _ _)

/-- R130: what a pulse in a step that lets line off can do. -/
theorem pulseOut_reacts (e : EndOn) (s : State) (hs : WinchBegun s) : WinchReacts s (pulseOut e s) :=
  pulseTests_reacts e _ _ (winchMoves_movePosition s (positionOut_le s)) rfl hs

/-- R130: what a pulse in a step that hauls can do. -/
theorem pulseIn_reacts (e : EndOn) (s : State) (hs : WinchBegun s) : WinchReacts s (pulseIn e s) :=
  pulseTests_reacts e _ _ (winchMoves_movePosition s ((Nat.sub_le _ _).trans (le_max_left _ _))) rfl hs

/-- R130: what a drum pulse can do. -/
theorem drumPulse_reacts (s : State) : WinchReacts s (drumPulse s) := by
  unfold drumPulse
  split
  · rename_i hstate _
    split
    · exact pulseIn_reacts _ s (.inl hstate)
    · exact pulseOut_reacts _ s (.inl hstate)
  · rename_i hstate _
    exact pulseOut_reacts _ s (.inr (.inr hstate))
  · exact (winchMoves_quiet s (fun w => { w with position := positionOut s }) rfl rfl rfl (positionOut_le s)).reacts rfl

/-- R137: what a fairlead change can do. -/
theorem fairleadChange_reacts (s : State) : WinchReacts s (fairleadChange s) := by
  unfold fairleadChange
  split
  · rename_i hstate _
    split
    · exact settleWinch_reacts (p := (s, _)) (.refl s) (.inl hstate)
    · exact .refl s
  · exact .refl s

/-- R135: what the count of a light frame can do. -/
theorem winchTimeFrame_reacts (s : State) : WinchReacts s (winchTimeFrame s) := by
  unfold winchTimeFrame
  split
  · split
    · rename_i hbegun
      dsimp only
      have hcount : WinchMoves s (reportProgress (s.modWch fun w => { w with frames := min (w.frames + 1) 65535 })) :=
        (winchMoves_quiet s _ rfl rfl rfl (le_max_left _ _)).trans (winchMoves_reportProgress _)
      have hs := (begun_iff s).mp hbegun
      split
      · exact settleWinch_reacts (p := (_, .completes)) hcount hs
      · exact hcount.reacts rfl
    · exact .refl s
  · exact .refl s

/-- R16: an entry to PARKED leaves the winch state alone. -/
theorem enterParked_wch (cause : OpCause) (s : State) :
    (enterParked cause s).wch = (parkClutch s).wch := by
  simp [enterParked, parkedActions, parkClutch]

/-- R140: an ended program leaves the winch idle. -/
theorem winchEnds_state (cause : EndCause) (s : State) : (winchEnds cause s).wch.state = .idle := by
  unfold winchEnds
  obtain ⟨-, -, h⟩ | ⟨-, h⟩ := completionTest_cases (winchEnd cause s)
  · rw [h, enterParked_wch, parkClutch, State.modWch_wch, winchEnd_wch]
    split <;> rfl
  · rw [h, winchEnd_wch]

/-- R134: the raise finds nothing to do with an idle winch. -/
theorem winchRaise_idle {s : State} (h : s.wch.state = .idle) : winchRaise s = s := by
  simp [winchRaise, h]

/-- R134: the raise is a move. -/
theorem winchMoves_winchRaise (s : State) : WinchMoves s (winchRaise s) := by
  unfold winchRaise
  split
  · exact winchMoves_setWinchDuty s (min_le_right _ _)
  · exact .refl s

/-- R134: the raise leaves the winch state alone. -/
theorem winchRaise_state (s : State) : (winchRaise s).wch.state = s.wch.state := by
  unfold winchRaise
  split
  · simp [setWinchDuty]
  · rfl

/-- R134, R135: what a light frame can do to the winch. -/
theorem winchFrame_reacts (s : State) : WinchReacts s (winchFrame s) := by
  obtain ⟨u, hu, ⟨ht, hstate⟩ | ⟨hs, cause, ht⟩⟩ := winchTimeFrame_reacts s
  · rw [winchFrame, ht]
    exact ⟨_, hu.trans (winchMoves_winchRaise u), .inl ⟨rfl, fun h => (winchRaise_state u).trans (hstate h)⟩⟩
  · rw [winchFrame, ht, winchRaise_idle (winchEnds_state cause u)]
    exact ⟨u, hu, .inr ⟨hs, cause, rfl⟩⟩

/-- R138: the stall timing is a move. -/
theorem winchMoves_stallTiming (s : State) : WinchMoves s (stallTiming s) := by
  unfold stallTiming
  by_cases h : s.cfg.wch.stallCurrent ≤ s.wch.lastCurrent
  · exact winchMoves_quiet s _ (by simp [h]) (by simp [h]) (by simp [h]) (by simp [h])
  · exact winchMoves_quiet s _ (by simp [h]) (by simp [h]) (by simp [h]) (by simp [h])

/-- R138: the stall timing leaves the winch state alone. -/
theorem stallTiming_state (s : State) : (stallTiming s).wch.state = s.wch.state := by
  simp only [stallTiming, State.modWch_wch]
  split <;> rfl

/-- R136, R138: what a scan completion can do to the winch. -/
theorem winchCompletion_reacts (s : State) : WinchReacts s (winchCompletion s) := by
  unfold winchCompletion
  split
  · rename_i hruns
    dsimp only
    have hcurrent : WinchMoves s (reportProgress (s.modWch fun w =>
        { w with lastCurrent := s.scn.results.bridge.winch })) :=
      (winchMoves_quiet s _ rfl rfl rfl (le_max_left _ _)).trans (winchMoves_reportProgress _)
    have hstall := (hcurrent.trans (winchMoves_stallTiming _)).reacts (stallTiming_state _)
    split
    · split
      · exact settleWinch_reacts (p := (_, .completes)) hcurrent (.inl hruns.2)
      · exact hstall
    · exact hstall
  · exact .refl s

/-- R127: the clutch starts to move while no step has begun. -/
theorem winchMoves_startClutch (toward : ClutchState) {s : State} (h : ¬ WinchBegun s) :
    WinchMoves s (startClutch toward s) := by
  obtain ⟨-, hs⟩ | ⟨-, hs⟩ := startClutch_cases toward s
  · rw [hs]
    exact .refl s
  · rw [hs]
    exact winchMoves_modWch s _ rfl (le_max_left _ _) fun hb => absurd hb h

/-- R127: what the winch unit can do when the clutch has arrived. -/
theorem afterTravel_cases (s : State) :
    ((s.unit 0).state = .running ∧ WinchDoes s (afterTravel s)) ∨
    ((s.unit 0).state = .halting ∧ ∃ cause, afterTravel s = winchEnds cause s) ∨ afterTravel s = s := by
  unfold afterTravel
  split
  · rename_i hrun
    refine .inl ⟨hrun, ?_⟩
    split
    · rename_i h hstate _
      split
      · exact (winchMoves_beginWinchStep h.step s (still_of_clutchMeets ‹_›)).does (settleWinch_does _)
      · exact ⟨_, winchMoves_startClutch _ (by simp [WinchBegun, hstate]), .inl rfl⟩
    · exact ⟨s, .refl s, .inl rfl⟩
  · rename_i hhalt
    split
    · exact .inr (.inl ⟨hhalt, _, rfl⟩)
    · exact .inr (.inr rfl)
  · exact .inr (.inr rfl)

end Sys2Proof.Machine

/-! The notice queue (09 sections 9.1 and 9.2): what an offer makes of the list, and that no command lets the list
outgrow its bounds. -/

namespace Sys2Proof.Machine

/-! ## Folds and orders -/

/-- What every step of a fold keeps, the fold keeps. -/
theorem foldl_preserves {α : Type} {P : State → Prop} {f : State → α → State} (h : ∀ s a, P s → P (f s a))
    (l : List α) (s : State) (hs : P s) : P (l.foldl f s) := by
  induction l generalizing s with
  | nil => exact hs
  | cons a l ih => exact ih _ (h s a hs)

/-- What three changes keep, all three in any order keep. -/
theorem runOrder_preserves {P : State → Prop} {a b c : State → State} (ha : ∀ s, P s → P (a s))
    (hb : ∀ s, P s → P (b s)) (hc : ∀ s, P s → P (c s)) (o : Order3) (s : State) (hs : P s) :
    P (runOrder o a b c s) := by
  cases o with
  | abc => exact hc _ (hb _ (ha _ hs))
  | acb => exact hb _ (hc _ (ha _ hs))
  | bac => exact hc _ (ha _ (hb _ hs))
  | bca => exact ha _ (hc _ (hb _ hs))
  | cab => exact hb _ (ha _ (hc _ hs))
  | cba => exact ha _ (hb _ (hc _ hs))

/-! ## Offers and kinds (R160) -/

/-- 09 section 9.1: an offer updates the entries of its kind, and keeps the kind. -/
theorem Offer.update_some {o : Offer} {n n' : Notice} (h : o.update n = some n') :
    n.kind = o.fresh.kind ∧ n'.kind = n.kind := by
  cases o <;> cases n <;> cases h <;> exact ⟨rfl, rfl⟩

/-- 09 section 9.1: an offer updates every entry of its kind. -/
theorem Offer.update_of_kind {o : Offer} {n : Notice} (h : n.kind = o.fresh.kind) :
    ∃ n', o.update n = some n' := by
  cases o <;> cases n <;> simp [Notice.kind, Offer.fresh, Offer.update] at h ⊢

/-- 09 section 9.1: and no entry of another kind. -/
theorem Offer.update_eq_none_iff (o : Offer) (n : Notice) : o.update n = none ↔ n.kind ≠ o.fresh.kind := by
  constructor
  · intro h hk
    obtain ⟨n', hn'⟩ := Offer.update_of_kind hk
    rw [h] at hn'
    contradiction
  · intro h
    rw [Option.eq_none_iff_forall_ne_some]
    exact fun n' hn' => h (Offer.update_some hn').1

/-- R160: the kind of an offer is one of the six. -/
theorem Offer.fresh_kind_isSome (o : Offer) : o.fresh.kind.isSome = true := by
  cases o <;> rfl

/-- R160, case 1: the first entry of the kind is the one updated. -/
theorem updateInPlace_append {o : Offer} {before : List Notice} {n n' : Notice} (after : List Notice)
    (hbefore : ∀ m ∈ before, o.update m = none) (hn : o.update n = some n') :
    updateInPlace o (before ++ n :: after) = some (before ++ n' :: after) := by
  induction before with
  | nil => simp [updateInPlace, hn]
  | cons m rest ih =>
    obtain ⟨hm, hrest⟩ := List.forall_mem_cons.mp hbefore
    simp [updateInPlace, hm, ih hrest]

/-- R160: without an entry of the kind nothing is updated. -/
theorem updateInPlace_eq_none {o : Offer} {q : List Notice} (h : ∀ m ∈ q, o.update m = none) :
    updateInPlace o q = none := by
  induction q with
  | nil => rfl
  | cons m rest ih =>
    obtain ⟨hm, hrest⟩ := List.forall_mem_cons.mp h
    simp [updateInPlace, hm, ih hrest]

/-- R160, case 3: the oldest ending status is the one displaced. -/
theorem displaceEnded_append {before : List Notice} {e : EndingStatus} (after : List Notice)
    (h : ∀ m ∈ before, m.kind.isSome = true) :
    displaceEnded (before ++ .unitEnded e :: after) = some (e, before ++ after) := by
  induction before with
  | nil => rfl
  | cons m rest ih =>
    obtain ⟨hm, hrest⟩ := List.forall_mem_cons.mp h
    cases m with
    | unitEnded e' => contradiction
    | _ => simp [displaceEnded, ih hrest]

/-- Settles O53: an ending status by the room left; an offer by the first entry of its kind, the room, and the
oldest ending status. -/
theorem offersFollowTheQueueRule : Obligations.OffersFollowTheQueueRule := by
  refine ⟨fun e s => ⟨fun hroom => if_pos hroom, fun hfull => if_neg (Nat.not_lt.mpr hfull)⟩,
    fun o s => ⟨fun before n after hq hn hbefore => ?_, fun hnone hroom => ?_, fun hnone hfull before e after hq hb => ?_⟩⟩
  · obtain ⟨n', hn'⟩ := Offer.update_of_kind hn
    have hplace := updateInPlace_append after (fun m hm => (Offer.update_eq_none_iff o m).mpr (hbefore m hm)) hn'
    refine ⟨n', (Offer.update_some hn').2, ?_, ?_⟩
    · rw [offer, hq, hplace]
      rfl
    · cases o <;> cases n <;> cases hn' <;> rfl
  · have hplace := updateInPlace_eq_none fun m hm => (Offer.update_eq_none_iff o m).mpr (hnone m hm)
    rw [offer, hplace]
    exact if_pos hroom
  · have hplace := updateInPlace_eq_none fun m hm => (Offer.update_eq_none_iff o m).mpr (hnone m hm)
    have hfull' : ¬ s.nq.length < Config.noticeCapacity := Nat.not_lt.mpr hfull
    simp only [offer, hplace, hfull', if_false]
    rw [hq, displaceEnded_append after hb]
    rfl

/-! ## The bounds of the list (R160) -/

/-- R160: an entry updated in place. -/
theorem QueueOk.update {before after : List Notice} {n n' : Notice} (h : QueueOk (before ++ n :: after))
    (hk : n'.kind = n.kind) : QueueOk (before ++ n' :: after) := by
  obtain ⟨hlength, hkinds⟩ := h
  refine ⟨by simpa using hlength, ?_⟩
  simpa [List.filterMap_append, List.filterMap_cons, hk] using hkinds

/-- R160: an entry of a new kind appended where there is room. -/
theorem QueueOk.append {q : List Notice} {n : Notice} (h : QueueOk q) (hroom : q.length < 8)
    (hk : ∀ m ∈ q, m.kind ≠ n.kind ∨ n.kind = none) : QueueOk (q ++ [n]) := by
  obtain ⟨-, hkinds⟩ := h
  refine ⟨by simpa using hroom, ?_⟩
  cases hn : n.kind with
  | none => simpa [List.filterMap_append, hn] using hkinds
  | some k =>
    rw [List.filterMap_append, List.filterMap_cons_some hn, List.filterMap_nil, List.nodup_append]
    refine ⟨hkinds, List.nodup_singleton k, ?_⟩
    intro a ha b hb hab
    rw [List.mem_singleton] at hb
    obtain ⟨m, hm, hma⟩ := List.mem_filterMap.mp ha
    obtain hne | hnone := hk m hm
    · exact hne (by rw [hma, hn, hab, hb])
    · rw [hnone] at hn
      contradiction

/-- R160: entries that leave the list. -/
theorem QueueOk.sublist {q q' : List Notice} (h : QueueOk q) (hs : q'.Sublist q) : QueueOk q' :=
  ⟨hs.length_le.trans h.1, h.2.sublist (hs.filterMap _)⟩

/-- R160: an offer keeps the bounds. -/
theorem queueOk_offer (o : Offer) {s : State} (h : QueueOk s.nq) : QueueOk (offer o s).nq := by
  obtain ⟨q, hplace, ho⟩ | ⟨hplace, hroom, ho⟩ | ⟨e, q, hplace, -, hdisplaced, ho⟩ | ⟨-, -, -, ho⟩ := offer_cases o s
  · obtain ⟨before, n, n', after, hq, rfl, hn, -⟩ := updateInPlace_some hplace
    rw [ho]
    rw [hq] at h
    exact h.update (Offer.update_some hn).2
  · rw [ho]
    exact h.append hroom fun m hm => .inl ((Offer.update_eq_none_iff o m).mp (updateInPlace_none hplace m hm))
  · obtain ⟨before, after, hq, rfl, -⟩ := displaceEnded_some hdisplaced
    have hnone := updateInPlace_none hplace
    rw [ho]
    rw [hq] at h hnone
    have hsub : (before ++ after).Sublist (before ++ .unitEnded e :: after) :=
      List.Sublist.append_left (List.sublist_cons_self _ _) _
    refine (h.sublist hsub).append ?_ fun m hm => .inl ((Offer.update_eq_none_iff o m).mp (hnone m (hsub.subset hm)))
    have hlength := h.1
    simp only [List.length_append, List.length_cons] at hlength ⊢
    omega
  · rw [ho]
    exact h

/-- R161: so does an ending status. -/
theorem queueOk_offerEnding (e : EndingStatus) {s : State} (h : QueueOk s.nq) : QueueOk (offerEnding e s).nq := by
  obtain ⟨hroom, he⟩ | ⟨-, he⟩ := offerEnding_cases e s
  · rw [he]
    exact h.append hroom fun m _ => .inr rfl
  · rw [he]
    exact h

/-- R163: a status that is taken leaves the list. -/
theorem removeEnding_sublist (u : UnitNo) (q : List Notice) : (removeEnding u q).Sublist q := by
  induction q with
  | nil => exact .slnil
  | cons n rest ih =>
    unfold removeEnding
    split
    · contradiction
    · rename_i e rest' heq
      cases heq
      split
      · exact List.sublist_cons_self _ _
      · exact ih.cons_cons _
    · rename_i m rest' _ heq
      cases heq
      exact ih.cons_cons _

/-- R163: taking a status keeps the bounds. -/
theorem queueOk_takeOutstanding (u : UnitNo) {s : State} (h : QueueOk s.nq) : QueueOk (takeOutstanding u s).nq := by
  obtain ⟨_, -, ht⟩ | ⟨-, ht⟩ := takeOutstanding_cases u s
  · rw [ht]
    exact h.sublist (removeEnding_sublist u s.nq)
  · rw [ht]
    exact h

/-! ## The bounds and the events -/

/-- R119: the end of a unit. -/
theorem queueOk_endUnit (u : UnitNo) (cause : EndCause) (residual finalPos : Nat) {s : State} (h : QueueOk s.nq) :
    QueueOk (endUnit u cause residual finalPos s).nq := by
  rw [endUnit_eq]
  refine queueOk_offerEnding _ ?_
  simpa using h

/-- R2: a change of operating state. -/
theorem queueOk_changeOp (new : OpState) (cause : OpCause) {s : State} (h : QueueOk s.nq) :
    QueueOk (changeOp new cause s).nq :=
  queueOk_offer _ h

/-- R16: an entry to PARKED. -/
theorem queueOk_enterParked (cause : OpCause) {s : State} (h : QueueOk s.nq) : QueueOk (enterParked cause s).nq := by
  simp only [enterParked, parkedActions_frame]
  exact queueOk_changeOp _ _ h

/-- R13: the completion test. -/
theorem queueOk_completionTest {s : State} (h : QueueOk s.nq) : QueueOk (completionTest s).nq := by
  obtain ⟨-, -, ht⟩ | ⟨-, ht⟩ := completionTest_cases s
  · rw [ht]
    exact queueOk_enterParked _ h
  · rw [ht]
    exact h

/-- R140: the end of the winch program. -/
theorem queueOk_winchEnd (cause : EndCause) {s : State} (h : QueueOk s.nq) : QueueOk (winchEnd cause s).nq := by
  simp only [winchEnd, winchIdle_frame]
  exact queueOk_endUnit _ _ _ _ h

theorem queueOk_winchEnds (cause : EndCause) {s : State} (h : QueueOk s.nq) : QueueOk (winchEnds cause s).nq :=
  queueOk_completionTest (queueOk_winchEnd cause h)

/-- R133: the winch at an event. -/
theorem WinchDoes.queueOk {s t : State} (hw : WinchDoes s t) (h : QueueOk s.nq) : QueueOk t.nq := by
  obtain ⟨u, hu, rfl | ⟨cause, rfl⟩⟩ := hw
  · exact hu.nq ▸ h
  · exact queueOk_winchEnds cause (hu.nq ▸ h)

theorem WinchReacts.does {s t : State} (h : WinchReacts s t) : WinchDoes s t := by
  obtain ⟨u, hu, ⟨ht, -⟩ | ⟨-, ht⟩⟩ := h
  · exact ⟨u, hu, .inl ht⟩
  · exact ⟨u, hu, .inr ht⟩

/-- R117: a halt. -/
theorem queueOk_winchHalt (cause : EndCause) {s : State} (h : QueueOk s.nq) : QueueOk (winchHalt cause s).nq := by
  obtain ⟨-, -, ht⟩ | ⟨-, -, ht⟩ | ⟨-, ht⟩ := winchHalt_cases cause s
  · rw [ht]
    exact queueOk_winchEnds cause h
  · rw [ht]
    exact h
  · rw [ht]
    exact h

/-- R117: a trip or a forced shutdown. -/
theorem queueOk_winchKill (cause : EndCause) {s : State} (h : QueueOk s.nq) : QueueOk (winchKill cause s).nq := by
  obtain ⟨-, ht⟩ | ⟨-, ht⟩ := winchKill_cases cause s
  · rw [ht]
    exact queueOk_winchEnd cause h
  · rw [ht]
    exact h

/-- R127: a clutch travel expiry. -/
theorem queueOk_clutchArrives {s : State} (h : QueueOk s.nq) : QueueOk (clutchArrives s).nq := by
  refine queueOk_completionTest ?_
  obtain ⟨-, ht⟩ | ⟨-, cause, ht⟩ | ht :=
    afterTravel_cases (s.modWch fun w => { w with clutch := w.clutch.arrived, clutchTimer := none })
  · exact ht.queueOk h
  · rw [ht]
    exact queueOk_winchEnds cause h
  · rw [ht]
    exact h

/-- R12: a shutdown begins. -/
theorem queueOk_beginShutdown (origin : Origin) (cause : OpCause) {s : State} (h : QueueOk s.nq) :
    QueueOk (beginShutdown origin cause s).nq := by
  refine queueOk_completionTest (queueOk_winchHalt _ ?_)
  simp only [hazardStop_frame, tractionShutdown_frame, steerShutdown_frame]
  exact queueOk_changeOp _ _ h

/-- R9: the entry to FAILSAFE. -/
theorem queueOk_enterFailsafe {s : State} (h : QueueOk s.nq) : QueueOk (enterFailsafe s).nq := by
  refine queueOk_winchHalt _ ?_
  simp only [hazardStart_frame, tractionFailsafe_frame, steerFailsafe_frame]
  exact queueOk_changeOp _ _ (queueOk_offer _ h)

/-- R19: the entry to TRIPPED. -/
theorem queueOk_enterTripped (added : List TripCause) (first : TripCause) {s : State} (h : QueueOk s.nq) :
    QueueOk (enterTripped added first s).nq := by
  refine queueOk_winchKill _ ?_
  simp only [hazardStart_frame, tractionTripped_frame, steerTripped_frame]
  exact queueOk_changeOp _ _ (queueOk_offer _ h)

/-- R20: causes that arrive in TRIPPED. -/
theorem queueOk_addCauses (added : List TripCause) {s : State} (h : QueueOk s.nq) :
    QueueOk (addCauses added s).nq := by
  unfold addCauses
  split
  · exact h
  · exact queueOk_offer _ h

/-- R17, R18: causes that arrive. -/
theorem queueOk_tripWith (added : List TripCause) {s : State} (h : QueueOk s.nq) : QueueOk (tripWith added s).nq := by
  unfold tripWith
  split
  · exact h
  · split
    · exact queueOk_addCauses _ h
    · exact queueOk_enterTripped _ _ h

/-- R14: a forced shutdown. -/
theorem queueOk_forceShutdown {s : State} (h : QueueOk s.nq) : QueueOk (forceShutdown s).nq := by
  refine queueOk_enterParked _ ?_
  simp only [parkClutch_frame]
  refine queueOk_winchKill _ ?_
  simpa only [tractionForced_frame] using h

/-- R8: the return from FAILSAFE. -/
theorem queueOk_linkRestored {s : State} (h : QueueOk s.nq) : QueueOk (linkRestored s).nq := by
  simp only [linkRestored, hazardStop_frame, steerUnfreeze_frame, tractionRestored_frame]
  exact queueOk_changeOp _ _ h

/-- R69: a DRIVE that is taken. -/
theorem queueOk_driveTaken (throttle steer : Int) (dig : Dig) {s : State} (h : QueueOk s.nq) :
    QueueOk (driveTaken throttle steer dig s).nq := by
  simp only [driveTaken, overlayTests_frame, steerDrive_frame, driveTraction, tractionDrive_frame, driveKeepsAlive,
    State.modVsc_nq, driveReturns]
  split
  · exact queueOk_linkRestored h
  · exact h

/-- R4: an accepted ARM. -/
theorem queueOk_enterArmed {s : State} (h : QueueOk s.nq) : QueueOk (enterArmed s).nq := by
  simp only [enterArmed, overlayTests_frame, clutchArmed_frame, tractionArmed_frame, steerArmed_frame,
    scanContinuous_frame]
  exact queueOk_changeOp _ _ h

/-- R36: the watch window check. -/
theorem queueOk_scanComplete (c : Scan) {s : State} (h : QueueOk s.nq) : QueueOk (scanComplete c s).nq := by
  have hpublished : QueueOk (publishScan c s).nq := h
  unfold scanComplete afterScan
  split
  · exact h
  · split
    · unfold watchCheck
      dsimp only
      split
      · split <;> exact h
      · split
        · exact queueOk_offer _ h
        · exact h
    · exact h

/-- R49: the STAGE notice. -/
theorem queueOk_stageNotice (old : Stage) {s : State} (h : QueueOk s.nq) : QueueOk (stageNotice old s).nq := by
  unfold stageNotice
  split
  · exact h
  · exact queueOk_offer _ h

/-- R151: the end of a light unit. -/
theorem queueOk_endLightWith (c : Chan) (cause : EndCause) (residual : Nat) {s : State} (h : QueueOk s.nq) :
    QueueOk (endLightWith c cause residual s).nq :=
  queueOk_endUnit _ _ _ _ h

/-- R117: the ends of the light units in CUTOFF. -/
theorem queueOk_cutoffLights {s : State} (h : QueueOk s.nq) : QueueOk (cutoffLights s).nq := by
  unfold cutoffLights
  refine foldl_preserves (P := fun s => QueueOk s.nq) (fun s c hs => ?_) allChans s h
  unfold haltLight
  split
  · exact queueOk_endLightWith _ _ _ hs
  · exact hs

/-- R79, R86: a cut of the axles. -/
theorem queueOk_cutAndTest (capFront capRear : Nat) (why : Limiter) {s : State} (h : QueueOk s.nq) :
    QueueOk (cutAndTest capFront capRear why s).nq := by
  unfold cutAndTest
  split
  · refine queueOk_completionTest ?_
    simpa only [cutAxles_frame] using h
  · exact h

/-- R44: SUP's part of a completion. -/
theorem queueOk_supplyCompletion {s : State} (h : QueueOk s.nq) : QueueOk (supplyCompletion s).nq := by
  have hnotice : QueueOk (stageNotice s.sup.stage (s.modSup fun _ => supNext s)).nq := queueOk_stageNotice _ h
  unfold supplyCompletion cutConsumers
  refine queueOk_cutAndTest _ _ _ ?_
  simp only [cutLights_frame, cutWinch_frame]
  split
  · exact queueOk_cutoffLights hnotice
  · exact hnotice

/-- R18, R15: VSC's part of a completion. -/
theorem queueOk_vehicleCompletion (became : Bool) {s : State} (h : QueueOk s.nq) :
    QueueOk (vehicleCompletion became s).nq := by
  unfold vehicleCompletion
  dsimp only
  split
  · unfold cutoffTest
    split
    · exact queueOk_beginShutdown _ _ h
    · exact h
  · exact queueOk_tripWith _ h

/-- R86: TRC's part of a completion. -/
theorem queueOk_assistStep {s : State} (h : QueueOk s.nq) : QueueOk (assistStep s).nq := by
  unfold assistStep
  split
  · split
    · split
      · exact queueOk_cutAndTest _ _ _ h
      · exact h
    · exact h
  · exact h

/-- R32: a scan completion. -/
theorem queueOk_completeScan (c : Scan) {s : State} (h : QueueOk s.nq) : QueueOk (completeScan c s).nq := by
  unfold completeScan completionEvent
  exact runOrder_preserves (P := fun s => QueueOk s.nq)
    (fun _ hs => queueOk_vehicleCompletion _ (queueOk_supplyCompletion hs)) (fun _ hs => queueOk_assistStep hs)
    (fun s hs => (winchCompletion_reacts s).does.queueOk hs) _ _ (queueOk_scanComplete c h)

/-- R146: a light frame of one channel. -/
theorem queueOk_channelFrame (c : Chan) {s : State} (h : QueueOk s.nq) : QueueOk (channelFrame s c).nq := by
  simp only [channelFrame, takeLevel_frame, formDesired_frame]
  unfold lightStepFrame
  dsimp only
  split
  · split
    · unfold lightStepDone
      dsimp only
      split
      · simpa using h
      · refine queueOk_endLightWith _ _ _ ?_
        simpa using h
    · simpa using h
  · simpa using h

/-- R167: an accepted change that is handed out. -/
theorem queueOk_handChange (fn : LineFn) (level : Level) (i : Fin 4) {s : State} (h : QueueOk s.nq) :
    QueueOk (handChange fn level i s).nq := by
  cases fn with
  | drumPulse =>
    cases level with
    | low => exact (drumPulse_reacts s).does.queueOk h
    | high => exact h
  | fairlead => exact (fairleadChange_reacts s).does.queueOk h
  | generalInput => exact queueOk_offer _ h
  | off => exact h
  | clutchServo => exact h

/-- R167: the changes of one kind. -/
theorem queueOk_handOut (before : State) (pins : PinLevels) (fn : LineFn) {s : State} (h : QueueOk s.nq) :
    QueueOk (handOut before pins fn s).nq := by
  unfold handOut
  refine foldl_preserves (P := fun s => QueueOk s.nq) (fun s i hs => ?_) allLines s h
  split
  · exact queueOk_handChange _ _ _ hs
  · exact hs

/-- R146: LTC's part of a light frame. -/
theorem queueOk_lightsFrame {s : State} (h : QueueOk s.nq) : QueueOk (lightsFrame s).nq := by
  unfold lightsFrame
  exact foldl_preserves (P := fun s => QueueOk s.nq) (fun _ c => queueOk_channelFrame c) allChans _ h

/-- R167: LMX's part of a light frame. -/
theorem queueOk_linesFrame (order : Order3) (pins : PinLevels) {s : State} (h : QueueOk s.nq) :
    QueueOk (linesFrame order pins s).nq := by
  unfold linesFrame
  exact runOrder_preserves (P := fun s => QueueOk s.nq) (fun _ => queueOk_handOut _ _ _)
    (fun _ => queueOk_handOut _ _ _) (fun _ => queueOk_handOut _ _ _) order _ h

/-- R146: a light frame. -/
theorem queueOk_lightFrameExpiry (pins : PinLevels) {s : State} (h : QueueOk s.nq) :
    QueueOk (lightFrameExpiry pins s).nq := by
  unfold lightFrameExpiry lightFrame
  exact runOrder_preserves (P := fun s => QueueOk s.nq) (fun _ => queueOk_lightsFrame)
    (fun s hs => (winchFrame_reacts s).does.queueOk hs) (fun _ => queueOk_linesFrame _ _) _ _ h

/-- R114: a unit that starts. -/
theorem queueOk_startUnit (u : UnitNo) (first : Slot) (slots : List Slot) (tag : Byte) {s : State}
    (h : QueueOk s.nq) : QueueOk (startUnit u first slots tag s).nq := by
  have hcontext : QueueOk (startContext u first slots tag s).nq := by simpa using h
  unfold startUnit
  dsimp only
  split
  · exact (startWinch_does _ _).queueOk hcontext
  · simpa only [startLightUnit_frame] using hcontext

/-- R116: a unit that is halted. -/
theorem queueOk_haltUnit (u : UnitNo) {s : State} (h : QueueOk s.nq) : QueueOk (haltUnit u s).nq := by
  unfold haltUnit
  split
  · exact queueOk_winchHalt _ h
  · exact queueOk_endLightWith _ _ _ h

/-- R160: the notice of a reset, with those of comparators that are asserted. -/
theorem queueOk_assertionsAtReset {s : State} (h : QueueOk s.nq) : QueueOk (assertionsAtReset s).nq := by
  have hassert : ∀ b s, QueueOk s.nq → QueueOk (assertedAtReset b s).nq := fun b s hs => by
    unfold assertedAtReset
    split
    · exact queueOk_tripWith _ hs
    · exact hs
  unfold assertionsAtReset
  split
  · exact runOrder_preserves (P := fun s => QueueOk s.nq) (hassert _) (hassert _) (hassert _) _ _ h
  · exact h

/-- R2: the list after a reset. -/
theorem queueOk_reset (old : OpState) : QueueOk (noticesAtReset old) :=
  ⟨by simp [noticesAtReset], by simp [noticesAtReset, Notice.kind]⟩

/-- R178: a SET does not touch the list. -/
theorem storeSetting_nq (k : Key) (v : Nat) (s : State) : (storeSetting k v s).nq = s.nq := by
  simp

/-- R160: no act breaks the bounds. -/
theorem Acts.queueOk {s t : State} (h : Acts s t) (hs : QueueOk s.nq) : QueueOk t.nq := by
  cases h with
  | fullReset => exact queueOk_assertionsAtReset (queueOk_reset _)
  | softReset => exact queueOk_assertionsAtReset (queueOk_reset _)
  | set => rwa [storeSetting_nq]
  | arm => exact queueOk_enterArmed hs
  | park => exact queueOk_beginShutdown _ _ hs
  | leaveTripped => exact queueOk_enterParked _ hs
  | drive => exact queueOk_driveTaken _ _ _ hs
  | steerMode => simpa using hs
  | setManual => simpa using hs
  | writeSteps => simpa [writeSteps] using hs
  | start => exact queueOk_startUnit _ _ _ _ hs
  | takeStatus => exact queueOk_takeOutstanding _ hs
  | halt => exact queueOk_haltUnit _ hs
  | lineSet => exact hs
  | assignLine => simpa using hs
  | @fetch n rest hq =>
    have hrest : QueueOk rest := (hq ▸ hs).sublist (List.sublist_cons_self _ _)
    cases n <;> exact hrest
  | unstack => exact hs
  | convert => exact hs
  | completeScan => exact queueOk_completeScan _ hs
  | trigger => simpa using hs
  | watch => simpa using hs
  | assertShort => exact queueOk_tripWith _ hs
  | deassert => exact hs
  | enterFailsafe => exact queueOk_enterFailsafe hs
  | secondExpiry => exact queueOk_beginShutdown _ _ (queueOk_offer _ hs)
  | forceShutdown => exact queueOk_forceShutdown hs
  | driveFrame =>
    refine queueOk_completionTest ?_
    simpa only [driveFrame_frame] using hs
  | servoFrame => simpa using hs
  | relax => simpa using hs
  | clutch => exact queueOk_clutchArrives hs
  | lightFrame => exact queueOk_lightFrameExpiry _ hs
  | stall => exact queueOk_winchEnds _ hs

/-- Settles O55: no change of the link and no act breaks the bounds. -/
theorem queueStaysWithinBounds : Obligations.QueueStaysWithinBounds := fun _ _ _ hs h =>
  exec_keeps (P := fun s => QueueOk s.nq) (fun _ _ hs => hs) (fun _ _ => Acts.queueOk) hs h

end Sys2Proof.Machine

/-! Stored data (10 section 10.4, 06 section 6.2, 07 section 7.4, 09 section 9.4.2): settings, step records, the line
position and the lines' functions stay as their rules allow. -/

namespace Sys2Proof.Machine

/-! ## Values of settings (10 section 10.4) -/

/-- 10 section 10.4: a value stored is the value held, and every other setting without an index keeps its own. -/
theorem Settings.plain_putPlain (c : Settings) (p q : PlainId) (v : Nat) :
    (c.putPlain p v).plain q = if q = p then v else c.plain q := by
  cases p <;> cases q <;> rfl

/-- A setting without an index leaves the axles' settings alone. -/
theorem Settings.axle_putPlain (c : Settings) (p : PlainId) (v : Nat) : (c.putPlain p v).stc.axle = c.stc.axle := by
  cases p <;> rfl

/-- A setting without an index leaves the channels' settings alone. -/
theorem Settings.chan_putPlain (c : Settings) (p : PlainId) (v : Nat) : (c.putPlain p v).ltc.chan = c.ltc.chan := by
  cases p <;> rfl

/-- 05 section 5.1.1: the same for an axle's settings. -/
theorem AxleCfg.value_put (c : AxleCfg) (a b : AxleId) {v : Nat} (h : a = .reverse → v ≤ 1) :
    (c.put a v).value b = if b = a then v else c.value b := by
  cases a with
  | reverse =>
    have hv : v = 0 ∨ v = 1 := by have := h rfl; omega
    obtain rfl | rfl := hv <;> cases b <;> rfl
  | _ => cases b <;> rfl

/-- 11 section 11.4: the code of a CLASS named by its code. -/
theorem classOf_code {v : Nat} (h : v ≤ 1) : (classOf v).code = v := by
  have hv : v = 0 ∨ v = 1 := by omega
  obtain rfl | rfl := hv <;> rfl

/-- 11 section 11.4: the code of an OVERLAY named by its code. -/
theorem overlayOf_code {v : Nat} (h : v ≤ 4) : (overlayOf v).code = v := by
  have hv : v = 0 ∨ v = 1 ∨ v = 2 ∨ v = 3 ∨ v = 4 := by omega
  obtain rfl | rfl | rfl | rfl | rfl := hv <;> rfl

/-- 08 section 8.1.1: the same for a channel's settings. -/
theorem ChanCfg.value_put (c : ChanCfg) (k j : ChanId) {v : Nat} (hcls : k = .cls → v ≤ 1)
    (hoverlay : k = .overlay → v ≤ 4) : (c.put k v).value j = if j = k then v else c.value j := by
  cases k with
  | cls =>
    cases j with
    | cls => exact classOf_code (hcls rfl)
    | _ => rfl
  | overlay =>
    cases j with
    | overlay => exact overlayOf_code (hoverlay rfl)
    | _ => rfl
  | _ => cases j <;> rfl

/-- R178: a value in its range that is stored is the value held, and every other setting keeps its own. -/
theorem Settings.value_put (c : Settings) (k j : Key) {v : Nat} (h : v ≤ k.high) :
    (c.put k v).value j = if j = k then v else c.value j := by
  cases k with
  | plain p =>
    cases j with
    | plain q => simpa [Settings.value, Settings.put] using c.plain_putPlain p q v
    | axle b y => simp [Settings.value, Settings.put, c.axle_putPlain]
    | chan l i => simp [Settings.value, Settings.put, c.chan_putPlain]
  | axle a x =>
    cases j with
    | plain q => cases q <;> rfl
    | chan l i => rfl
    | axle b y =>
      simp only [Settings.value, Settings.put, PerAxle.get_put, Key.axle.injEq]
      split
      · subst_vars
        rw [AxleCfg.value_put _ _ _ fun ha => by subst ha; exact h]
        simp
      · simp [*]
  | chan k i =>
    cases j with
    | plain q => cases q <;> rfl
    | axle b y => rfl
    | chan l j =>
      simp only [Settings.value, Settings.put, Key.chan.injEq]
      by_cases hij : j = i
      · subst hij
        rw [Fin.getElem_fin, Vector.getElem_set_self,
          ChanCfg.value_put _ _ _ (fun hk => by subst hk; exact h) (fun hk => by subst hk; exact h)]
        simp
      · rw [Fin.getElem_fin, Vector.getElem_set_ne _ _ (fun h => hij (Fin.ext h.symm))]
        simp [hij]

/-- R177: the lowest value of a setting is not above its highest. -/
theorem Key.low_le_high (k : Key) : k.low ≤ k.high := by
  cases k with
  | plain p => cases p <;> decide
  | axle a x => cases a <;> simp [Key.low, Key.high, Key.range]
  | chan k c => cases k <;> simp [Key.low, Key.high, Key.range]

/-- R178: a value brought into the range lies in it. -/
theorem Key.clamp_mem (k : Key) (w : Nat) : k.low ≤ clampNat k.low k.high w ∧ clampNat k.low k.high w ≤ k.high := by
  have h := k.low_le_high
  simp only [clampNat]
  omega

/-- R178: what a SET that passes its checks stores. -/
theorem setCheck_ok {s : State} {k : Key} {w v : Nat} (h : setCheck s k w = .ok v) :
    v = clampNat k.low k.high w ∧ levelOrder s.cfg.sup k v = true := by
  unfold setCheck at h
  split at h
  · contradiction
  · split at h
    · contradiction
    · split at h
      · cases h
        exact ⟨rfl, ‹_›⟩
      · contradiction

/-- R43: a value that stands in the order of the stage levels keeps the order. -/
theorem SettingsOk.put {c : Settings} (h : SettingsOk c) {k : Key} {v : Nat} (hlow : k.low ≤ v) (hhigh : v ≤ k.high)
    (horder : levelOrder c.sup k v = true) : SettingsOk (c.put k v) := by
  refine ⟨fun j => ?_, ?_⟩
  · rw [c.value_put k j hhigh]
    split
    · subst_vars
      exact ⟨hlow, hhigh⟩
    · exact h.range j
  · obtain ⟨hcutoff, hreserve⟩ := h.levels
    have hcaution := c.value_put k (.plain .cautionLevel) hhigh
    have hres := c.value_put k (.plain .reserveLevel) hhigh
    have hcut := c.value_put k (.plain .cutoffLevel) hhigh
    change (c.put k v).sup.cautionLevel = if _ then _ else c.sup.cautionLevel at hcaution
    change (c.put k v).sup.reserveLevel = if _ then _ else c.sup.reserveLevel at hres
    change (c.put k v).sup.cutoffLevel = if _ then _ else c.sup.cutoffLevel at hcut
    rw [hcaution, hres, hcut]
    unfold levelOrder at horder
    split at horder
    · simp at horder ⊢
      omega
    · simp at horder ⊢
      omega
    · simp at horder ⊢
      omega
    · rename_i hnc hnr hnk
      rw [if_neg (Ne.symm hnk), if_neg (Ne.symm hnr), if_neg (Ne.symm hnc)]
      exact ⟨hcutoff, hreserve⟩

/-- 10 section 10.4: the defaults lie in their ranges. -/
theorem settingsOk_default : SettingsOk Settings.default := by
  refine ⟨fun k => ?_, by decide⟩
  cases k with
  | plain p => cases p <;> decide
  | axle a x => cases a <;> cases x <;> decide
  | chan k c => cases k <;> revert c <;> decide

/-! ## The line position (07 R130) -/

/-- R128: a stopped clutch move leaves P alone. -/
@[simp] theorem parkClutch_position (s : State) : (parkClutch s).wch.position = s.wch.position := by
  simp only [parkClutch, State.modWch_wch]
  split <;> rfl

@[simp] theorem enterParked_position (cause : OpCause) (s : State) :
    (enterParked cause s).wch.position = s.wch.position := by
  rw [enterParked_wch, parkClutch_position]

@[simp] theorem completionTest_position (s : State) : (completionTest s).wch.position = s.wch.position := by
  obtain ⟨-, -, h⟩ | ⟨-, h⟩ := completionTest_cases s <;> simp [h]

@[simp] theorem winchEnd_position (cause : EndCause) (s : State) :
    (winchEnd cause s).wch.position = s.wch.position := by
  simp [winchEnd_wch]

@[simp] theorem winchEnds_position (cause : EndCause) (s : State) :
    (winchEnds cause s).wch.position = s.wch.position := by
  simp [winchEnds]

@[simp] theorem winchHalt_position (cause : EndCause) (s : State) :
    (winchHalt cause s).wch.position = s.wch.position := by
  obtain ⟨-, -, h⟩ | ⟨-, -, h⟩ | ⟨-, h⟩ := winchHalt_cases cause s <;> simp [h]

@[simp] theorem winchKill_position (cause : EndCause) (s : State) :
    (winchKill cause s).wch.position = s.wch.position := by
  obtain ⟨-, h⟩ | ⟨-, h⟩ := winchKill_cases cause s <;> simp [h]

@[simp] theorem startClutch_position (toward : ClutchState) (s : State) :
    (startClutch toward s).wch.position = s.wch.position := by
  obtain ⟨-, h⟩ | ⟨-, h⟩ := startClutch_cases toward s <;> simp [h]

@[simp] theorem clutchArmed_position (s : State) : (clutchArmed s).wch.position = s.wch.position := by
  unfold clutchArmed
  split <;> simp

@[simp] theorem enterArmed_position (s : State) : (enterArmed s).wch.position = s.wch.position := by
  simp [enterArmed]

@[simp] theorem beginShutdown_position (origin : Origin) (cause : OpCause) (s : State) :
    (beginShutdown origin cause s).wch.position = s.wch.position := by
  simp [beginShutdown]

@[simp] theorem enterFailsafe_position (s : State) : (enterFailsafe s).wch.position = s.wch.position := by
  simp [enterFailsafe]

@[simp] theorem secondExpiry_position (s : State) : (secondExpiry s).wch.position = s.wch.position := by
  simp [secondExpiry]

@[simp] theorem enterTripped_position (added : List TripCause) (first : TripCause) (s : State) :
    (enterTripped added first s).wch.position = s.wch.position := by
  simp [enterTripped]

@[simp] theorem tripWith_position (added : List TripCause) (s : State) :
    (tripWith added s).wch.position = s.wch.position := by
  unfold tripWith
  split
  · rfl
  · split <;> simp

@[simp] theorem forceShutdown_position (s : State) : (forceShutdown s).wch.position = s.wch.position := by
  simp [forceShutdown]

@[simp] theorem vehicleCompletion_position (became : Bool) (s : State) :
    (vehicleCompletion became s).wch.position = s.wch.position := by
  unfold vehicleCompletion cutoffTest
  dsimp only
  split
  · split <;> simp
  · simp

@[simp] theorem cutWinch_position (s : State) : (cutWinch s).wch.position = s.wch.position := by
  unfold cutWinch
  split <;> simp [setWinchDuty]

@[simp] theorem cutAndTest_position (capFront capRear : Nat) (why : Limiter) (s : State) :
    (cutAndTest capFront capRear why s).wch.position = s.wch.position := by
  unfold cutAndTest
  split <;> simp

@[simp] theorem supplyCompletion_position (s : State) : (supplyCompletion s).wch.position = s.wch.position := by
  simp only [supplyCompletion, cutConsumers, cutAndTest_position, cutLights_frame, cutWinch_position]
  split <;> simp

@[simp] theorem assistStep_position (s : State) : (assistStep s).wch.position = s.wch.position := by
  unfold assistStep
  split
  · split
    · split <;> simp
    · rfl
  · rfl

@[simp] theorem assertionsAtReset_position (s : State) :
    (assertionsAtReset s).wch.position = s.wch.position := by
  have hassert : ∀ b (s : State), (assertedAtReset b s).wch.position = s.wch.position := fun b s => by
    unfold assertedAtReset
    split <;> simp
  unfold assertionsAtReset
  split
  · exact runOrder_keeps (fun s => s.wch.position) _ _ _ _ (hassert _) (hassert _) (hassert _) _
  · rfl

/-- R130: an operation that keeps P and the settings keeps the bound. -/
theorem LineOk.of_eq {s t : State} (h : LineOk s) (hposition : t.wch.position = s.wch.position)
    (hcfg : t.cfg = s.cfg) : LineOk t := by
  unfold LineOk at h ⊢
  rwa [hposition, hcfg]

/-- R130: the winch at an event. -/
theorem WinchDoes.lineOk {s t : State} (hw : WinchDoes s t) (h : LineOk s) : LineOk t := by
  obtain ⟨u, hu, ht⟩ := hw
  have huok : LineOk u := by
    have hp := hu.position
    unfold LineOk at h ⊢
    rw [hu.cfg]
    exact hp.trans (max_le h le_rfl)
  obtain rfl | ⟨cause, rfl⟩ := ht
  · exact huok
  · exact huok.of_eq (by simp) (by simp)

/-- R32: a scan completion. -/
theorem lineOk_completeScan (c : Scan) {s : State} (h : LineOk s) : LineOk (completeScan c s) := by
  unfold completeScan completionEvent
  refine runOrder_preserves (P := LineOk) (fun s hs => ?_) (fun s hs => ?_) (fun s hs => ?_) _ _ ?_
  · exact hs.of_eq (by simp [supplyAndVehicle]) (by simp)
  · exact hs.of_eq (by simp) (by simp)
  · exact (winchCompletion_reacts s).does.lineOk hs
  · exact h.of_eq (by simp) (by simp)

/-- R146: a light frame. -/
theorem lineOk_lightFrameExpiry (pins : PinLevels) {s : State} (h : LineOk s) : LineOk (lightFrameExpiry pins s) := by
  have hhand : ∀ before fn s, LineOk s → LineOk (handOut before pins fn s) := fun before fn s hs => by
    unfold handOut
    refine foldl_preserves (P := LineOk) (fun s i hs => ?_) allLines s hs
    split
    · unfold handChange
      split
      · split
        · exact (drumPulse_reacts s).does.lineOk hs
        · exact hs
      · exact (fairleadChange_reacts s).does.lineOk hs
      · exact hs.of_eq (by simp) (by simp)
      · exact hs
      · exact hs
    · exact hs
  unfold lightFrameExpiry lightFrame
  refine runOrder_preserves (P := LineOk) (fun s hs => ?_) (fun s hs => ?_) (fun s hs => ?_) _ _ ?_
  · exact hs.of_eq (by simp) (by simp)
  · exact (winchFrame_reacts s).does.lineOk hs
  · unfold linesFrame
    exact runOrder_preserves (P := LineOk) (hhand _ _) (hhand _ _) (hhand _ _) _ _ (hs.of_eq (by simp) (by simp))
  · exact h.of_eq (by simp) (by simp)

/-- R127: a clutch travel expiry. -/
theorem lineOk_clutchArrives {s : State} (h : LineOk s) : LineOk (clutchArrives s) := by
  unfold clutchArrives
  refine LineOk.of_eq ?_ (by simp) (completionTest_frame _).2.2.2.1
  obtain ⟨-, ht⟩ | ⟨-, cause, ht⟩ | ht :=
    afterTravel_cases (s.modWch fun w => { w with clutch := w.clutch.arrived, clutchTimer := none })
  · exact ht.lineOk h
  · rw [ht]
    exact LineOk.of_eq (s := s) h (by simp) (by simp)
  · rw [ht]
    exact h

/-- R114: a unit that starts. -/
theorem lineOk_startUnit (u : UnitNo) (first : Slot) (slots : List Slot) (tag : Byte) {s : State} (h : LineOk s) :
    LineOk (startUnit u first slots tag s) := by
  have hcontext : LineOk (startContext u first slots tag s) := h.of_eq (by simp) (by simp)
  unfold startUnit
  dsimp only
  split
  · exact (startWinch_does _ _).lineOk hcontext
  · exact hcontext.of_eq (by simp) (by simp)

/-- R116: a unit that is halted. -/
theorem lineOk_haltUnit (u : UnitNo) {s : State} (h : LineOk s) : LineOk (haltUnit u s) := by
  unfold haltUnit
  split
  · exact h.of_eq (by simp) (by simp)
  · exact h.of_eq (by simp) (by simp)

/-- R178: what a SET does with the settings. -/
theorem storeSetting_cfg (k : Key) (v : Nat) (s : State) :
    (storeSetting k v s).cfg = if s.cfg.value k = v then s.cfg else s.cfg.put k v := by
  unfold storeSetting
  split <;> simp

/-- R124: only LINE_MAX moves P at a SET. -/
theorem settingChanged_wch {k : Key} (h : k ≠ .plain .lineMax) (s : State) : (settingChanged k s).wch = s.wch := by
  cases k with
  | plain p =>
    cases p with
    | lineMax => contradiction
    | _ => simp [settingChanged, plainChanged]
  | axle a x => simp [settingChanged]
  | chan k c => simp [settingChanged]

/-- R124: a SET keeps P within LINE_MAX. -/
theorem lineOk_storeSetting {k : Key} {v : Nat} {s : State} (hv : v ≤ k.high) (h : LineOk s) :
    LineOk (storeSetting k v s) := by
  unfold storeSetting
  split
  · exact h
  · by_cases hk : k = .plain .lineMax
    · subst hk
      exact min_le_right _ _
    · refine LineOk.of_eq (s := s.modCfg fun c => c.put k v) ?_ (by rw [settingChanged_wch hk]) (by simp)
      have hmax := s.cfg.value_put k (.plain .lineMax) hv
      rw [if_neg (Ne.symm hk)] at hmax
      unfold LineOk at h ⊢
      exact h.trans (Nat.mul_le_mul_right _ hmax.ge)

/-- R166: a line's function has no say in P. -/
theorem assignLine_position (i : Fin 4) (fn : LineFn) (s : State) :
    (assignLine i fn s).wch.position = s.wch.position := by
  unfold assignLine
  dsimp only
  split
  · rfl
  · split <;> rfl

/-- R130: no act takes P beyond its bound. -/
theorem lineOk_of_acts {s t : State} (h : Acts s t) (hs : LineOk s) : LineOk t := by
  cases h with
  | fullReset =>
    have h0 : LineOk (resetTo Settings.default (Vector.replicate 128 .empty) (Vector.replicate 4 .off) 0 .parked s) :=
      Nat.zero_le _
    exact h0.of_eq (by simp only [fullReset, assertionsAtReset_position]) (by simp [fullReset])
  | softReset =>
    have h0 : LineOk (resetTo s.cfg s.pgc.store (lineFns s) s.wch.position s.vsc.op s) := hs
    exact h0.of_eq (by simp only [softReset, assertionsAtReset_position]) (by simp [softReset])
  | set k check =>
    obtain ⟨rfl, -⟩ := setCheck_ok check
    exact lineOk_storeSetting (k.clamp_mem _).2 hs
  | start => exact lineOk_startUnit _ _ _ _ hs
  | halt => exact lineOk_haltUnit _ hs
  | lineSet _ hbound => exact hbound
  | assignLine => exact hs.of_eq (assignLine_position _ _ _) (by simp)
  | completeScan => exact lineOk_completeScan _ hs
  | clutch => exact lineOk_clutchArrives hs
  | lightFrame => exact lineOk_lightFrameExpiry _ hs
  | leaveTripped => exact hs.of_eq (by simp [leaveTripped]) (by simp)
  | assertShort => exact hs.of_eq (by simp [assertShort]) (by simp)
  | deassert => exact hs
  | unstack => exact hs
  | convert => exact hs
  | servoFrame => exact hs.of_eq rfl rfl
  | _ => exact hs.of_eq (by simp) (by simp)

/-! ## The settings -/

/-- 10 section 10.4: the settings change at a full reset and at a SET alone. -/
theorem acts_cfg {s t : State} (h : Acts s t) :
    t.cfg = s.cfg ∨ t.cfg = Settings.default ∨
      ∃ k w v, setCheck s k w = .ok v ∧ t.cfg = (storeSetting k v s).cfg := by
  cases h with
  | fullReset => exact .inr (.inl (by simp [fullReset, resetTo]))
  | softReset => exact .inl (by simp [softReset, resetTo])
  | set k check => exact .inr (.inr ⟨k, _, _, check, rfl⟩)
  | _ => exact .inl (by simp)

/-- R43, R178: no act takes a setting out of its range. -/
theorem settingsOk_of_acts {s t : State} (h : Acts s t) (hs : SettingsOk s.cfg) : SettingsOk t.cfg := by
  obtain h | h | ⟨k, w, v, hcheck, h⟩ := acts_cfg h
  · rwa [h]
  · rw [h]
    exact settingsOk_default
  · rw [h, storeSetting_cfg]
    split
    · exact hs
    · obtain ⟨rfl, horder⟩ := setCheck_ok hcheck
      exact hs.put (k.clamp_mem w).1 (k.clamp_mem w).2 horder

/-! ## The store -/

/-- 06 section 6.2: the store changes at a full reset and at a STORE_STEPS alone. -/
theorem acts_store {s t : State} (h : Acts s t) :
    t.pgc.store = s.pgc.store ∨ t.pgc.store = Vector.replicate 128 .empty ∨
      ∃ first records, (∀ r ∈ records, r.ok) ∧ t.pgc.store = (writeSteps first records s).pgc.store := by
  cases h with
  | fullReset => exact .inr (.inl (by simp [fullReset, resetTo, Pgc.atReset]))
  | softReset => exact .inl (by simp [softReset, resetTo, Pgc.atReset])
  | writeSteps first records ok => exact .inr (.inr ⟨first, records, ok, rfl⟩)
  | _ => exact .inl (by simp)

/-- R104: the record of a slot after a STORE_STEPS. -/
theorem writeSteps_store (first : Nat) (records : List StepRec) (s : State) (slot : Slot) :
    (writeSteps first records s).pgc.store[slot] =
      if first ≤ slot.val ∧ slot.val < first + records.length then records.getD (slot.val - first) .empty
      else s.pgc.store[slot] := by
  simp [writeSteps]

/-- R104, R106: no act stores a record that would need a check of range. -/
theorem storeOk_of_acts {s t : State} (h : Acts s t) (hs : StoreOk s) : StoreOk t := by
  intro slot
  obtain h | h | ⟨first, records, hok, h⟩ := acts_store h
  · rw [h]
    exact hs slot
  · rw [h, Fin.getElem_fin, Vector.getElem_replicate]
    trivial
  · rw [h, writeSteps_store]
    split
    · rename_i hrun
      rw [List.getD_eq_getElem _ _ (by omega)]
      exact hok _ (List.getElem_mem _)
    · exact hs slot

/-! ## The lines' functions (09 R166) -/

/-- R167: a sample keeps a line's function. -/
theorem Line.take_fn (l : Line) (level : Level) : (l.take level).fn = l.fn := by
  unfold Line.take
  repeat' split
  all_goals rfl

/-- R167: so does a sample of all lines. -/
theorem sampleLines_fn (pins : PinLevels) (s : State) (k : Fin 4) :
    ((sampleLines pins s).lmx.lines[k]).fn = (s.lmx.lines[k]).fn := by
  simp [sampleLines, Line.take_fn]

/-- R168: an accepted change leaves the lines alone. -/
theorem handChange_lines (fn : LineFn) (level : Level) (i : Fin 4) (s : State) :
    (handChange fn level i s).lmx.lines = s.lmx.lines := by
  unfold handChange
  split
  · split <;> simp
  · simp
  · simp [generalChange]
  · rfl
  · rfl

/-- R168: so do all accepted changes. -/
theorem handOut_lines (before : State) (pins : PinLevels) (fn : LineFn) (s : State) :
    (handOut before pins fn s).lmx.lines = s.lmx.lines := by
  unfold handOut
  refine foldl_keeps (fun s => s.lmx.lines) _ (fun s i => ?_) _ _
  split
  · exact handChange_lines _ _ _ _
  · rfl

/-- R167: a light frame keeps the lines' functions. -/
theorem lightFrameExpiry_fn (pins : PinLevels) (s : State) (k : Fin 4) :
    ((lightFrameExpiry pins s).lmx.lines[k]).fn = (s.lmx.lines[k]).fn := by
  unfold lightFrameExpiry lightFrame
  refine runOrder_keeps (fun s => (s.lmx.lines[k]).fn) _ _ _ _ (fun s => ?_) (fun s => ?_) (fun s => ?_) _
  · simp
  · simp
  · unfold linesFrame
    rw [runOrder_keeps (fun s => s.lmx.lines) _ _ _ _ (handOut_lines _ _ _) (handOut_lines _ _ _)
      (handOut_lines _ _ _), sampleLines_fn]

/-- R166: the functions after an ASSIGN_LINE. -/
theorem assignLine_fn (i : Fin 4) (fn : LineFn) (s : State) (k : Fin 4) :
    ((assignLine i fn s).lmx.lines[k]).fn = if k = i then fn else (s.lmx.lines[k]).fn := by
  have hgiven : ((s.lmx.lines.set i (s.lmx.lines[i].given fn))[k]).fn = if k = i then fn else (s.lmx.lines[k]).fn := by
    by_cases h : k = i
    · subst h
      simp only [Fin.getElem_fin, Vector.getElem_set_self, Line.given, if_true]
      split <;> rfl
    · rw [Fin.getElem_fin, Vector.getElem_set_ne _ _ (fun hv => h (Fin.ext hv.symm)), if_neg h]
      rfl
  unfold assignLine
  dsimp only
  split
  · rename_i h
    split
    · subst_vars
      rfl
    · rfl
  · split <;> exact hgiven

/-- 09 section 9.4: the lines are all lines. -/
theorem mem_allLines (k : Fin 4) : k ∈ allLines := by
  revert k
  decide

/-- R166: a function that only one line may hold and that no other line holds. -/
theorem ne_of_holderOf {i : Fin 4} {fn : LineFn} {s : State} (h : holderOf i fn s = none) (hfn : fn.single = true)
    {k : Fin 4} (hk : k ≠ i) : (s.lmx.lines[k]).fn ≠ fn := by
  rw [holderOf, if_pos hfn, List.find?_eq_none] at h
  simpa [hk] using h k (mem_allLines k)

/-- 09 section 9.4.2: the lines' functions change at a full reset and at an ASSIGN_LINE alone. -/
theorem acts_fn {s t : State} (h : Acts s t) :
    (∀ k : Fin 4, (t.lmx.lines[k]).fn = (s.lmx.lines[k]).fn) ∨ (∀ k : Fin 4, (t.lmx.lines[k]).fn = .off) ∨
      ∃ i fn, holderOf i fn s = none ∧ t = assignLine i fn s := by
  cases h with
  | fullReset => exact .inr (.inl fun k => by simp [fullReset, resetTo, Lmx.atReset])
  | softReset => exact .inl fun k => by simp [softReset, resetTo, Lmx.atReset, lineFns]
  | assignLine _ _ single => exact .inr (.inr ⟨_, _, single, rfl⟩)
  | @fetch n rest => exact .inl fun k => by unfold afterTaking; split <;> rfl
  | lightFrame pins => exact .inl (lightFrameExpiry_fn pins s)
  | _ => exact .inl fun k => by simp

/-- R166: no act gives a second line a function that only one may hold. -/
theorem linesOk_of_acts {s t : State} (h : Acts s t) (hs : LinesOk s) : LinesOk t := by
  intro i j heq hfn
  obtain h | h | ⟨l, fn, hsingle, rfl⟩ := acts_fn h
  · rw [h, h] at heq
    rw [h] at hfn
    exact hs i j heq hfn
  · rw [h] at hfn
    simp at hfn
  · rw [assignLine_fn] at heq hfn
    rw [assignLine_fn] at heq
    by_cases hi : i = l
    · by_cases hj : j = l
      · rw [hi, hj]
      · rw [if_pos hi, if_neg hj] at heq
        rw [if_pos hi] at hfn
        have hone : fn.single = true := by obtain rfl | rfl | rfl := hfn <;> rfl
        exact absurd heq.symm (ne_of_holderOf hsingle hone hj)
    · rw [if_neg hi] at hfn heq
      by_cases hj : j = l
      · rw [if_pos hj] at heq
        have hone : fn.single = true := by
          rw [heq] at hfn
          obtain rfl | rfl | rfl := hfn <;> rfl
        exact absurd heq (ne_of_holderOf hsingle hone hi)
      · rw [if_neg hj] at heq
        exact hs i j heq hfn

/-- Settles O56: every act keeps each of the four ranges. -/
theorem storedDataStaysInRange : Obligations.StoredDataStaysInRange := by
  intro i s t hcfg hstore hline hlines h
  exact exec_keeps (P := fun s => SettingsOk s.cfg ∧ StoreOk s ∧ LineOk s ∧ LinesOk s) (fun _ _ hs => hs)
    (fun s t ha ⟨hcfg, hstore, hline, hlines⟩ =>
      ⟨settingsOk_of_acts ha hcfg, storeOk_of_acts ha hstore, lineOk_of_acts ha hline, linesOk_of_acts ha hlines⟩)
    ⟨hcfg, hstore, hline, hlines⟩ h

end Sys2Proof.Machine

/-! Stored data change only when a request of their own is taken (10 section 10.2, 10 section 10.4, 06 section 6.2,
09 section 9.4.2). -/

namespace Sys2Proof.Machine

/-! ## What leaves the stored data alone -/

/-- The settings, the store and the lines' functions are kept. -/
structure SameStored (s t : State) : Prop where
  cfg : t.cfg = s.cfg
  store : t.pgc.store = s.pgc.store
  fn : ∀ k : Fin 4, (t.lmx.lines[k]).fn = (s.lmx.lines[k]).fn

theorem SameStored.refl (s : State) : SameStored s s := ⟨rfl, rfl, fun _ => rfl⟩

/-- The link holds no stored data. -/
theorem SameStored.link (s : State) (g : Lnk → Lnk) : SameStored s (s.modLnk g) := ⟨rfl, rfl, fun _ => rfl⟩

/-- Where the line matrix is kept, its lines' functions are. -/
theorem SameStored.of_lmx {s t : State} (hcfg : t.cfg = s.cfg) (hstore : t.pgc.store = s.pgc.store)
    (hlmx : t.lmx = s.lmx) : SameStored s t := ⟨hcfg, hstore, fun _ => by rw [hlmx]⟩

/-- What a request of one KIND may change of the stored data. -/
structure StoredBy (kind : Byte) (s t : State) : Prop where
  cfg : kind ≠ 0x05 → t.cfg = s.cfg
  store : kind ≠ 0x20 → t.pgc.store = s.pgc.store
  fn : kind ≠ 0x26 → ∀ k : Fin 4, (t.lmx.lines[k]).fn = (s.lmx.lines[k]).fn

theorem SameStored.by {s t : State} (h : SameStored s t) (kind : Byte) : StoredBy kind s t :=
  ⟨fun _ => h.cfg, fun _ => h.store, fun _ => h.fn⟩

/-! ## Requests -/

/-- R178: only a SET's owner changes the settings. -/
theorem handle_cfg {k : Kind} (hk : k.code ≠ 0x05) (s : State) (p : List Byte) : (k.handle s p).1.cfg = s.cfg := by
  cases k with
  | set => contradiction
  | _ => simp [Kind.handle]

/-- R105: only a STORE_STEPS's owner changes the store. -/
theorem handle_store {k : Kind} (hk : k.code ≠ 0x20) (s : State) (p : List Byte) :
    (k.handle s p).1.pgc.store = s.pgc.store := by
  cases k with
  | storeSteps => contradiction
  | _ => simp [Kind.handle]

/-- R162: taking a notice keeps the lines. -/
theorem onFetchNotice_lines (s : State) (p : List Byte) : (onFetchNotice s p).1.lmx.lines = s.lmx.lines := by
  unfold onFetchNotice
  split
  · split
    · unfold afterTaking
      split <;> rfl
    · split <;> rfl
  · rfl

/-- R166: only an ASSIGN_LINE's owner changes the lines. -/
theorem handle_lines {k : Kind} (hk : k.code ≠ 0x26) (s : State) (p : List Byte) :
    (k.handle s p).1.lmx.lines = s.lmx.lines := by
  cases k with
  | assignLine => contradiction
  | fetchNotice => exact onFetchNotice_lines s p
  | _ => simp [Kind.handle]

/-- The KIND of a request is its code. -/
theorem code_of_kindOf {b : Byte} {k : Kind} (h : kindOf b = some k) : k.code = b :=
  of_decide_eq_true (List.find?_some (p := fun k : Kind => decide (k.code = b)) h)

/-- R173: what a frame that is taken changes of the stored data. -/
theorem takeRequest_storedBy (f : Frame) (g : Lnk → Lnk) (s : State) :
    StoredBy f.kind s (takeRequest f (s.modLnk g)) := by
  unfold takeRequest sendReply answerFrame
  split
  · exact ⟨fun _ => rfl, fun _ => rfl, fun _ _ => rfl⟩
  · rename_i k hk
    rw [← code_of_kindOf hk]
    exact ⟨fun h => handle_cfg h _ _, fun h => handle_store h _ _, fun h i => by
      rw [State.modLnk_lmx, handle_lines h]
      rfl⟩

/-- R172: a frame that is taken is the request in hand. -/
theorem takeRequest_inHand (f : Frame) (s : State) : (takeRequest f s).lnk.inHand = some f := by
  simp [takeRequest, sendReply]

/-! ## Arrivals -/

/-- R172: what an arrival does with the stored data: nothing, or what the frame taken does. -/
def ArrivalStored (s t : State) : Prop :=
  SameStored s t ∨ ∃ f, s.lnk.inHand = none ∧ t.lnk.inHand = some f ∧ StoredBy f.kind s t

theorem frameArrives_stored (f : Frame) (s : State) : ArrivalStored s (frameArrives f s) := by
  obtain ⟨hfree, h⟩ | ⟨_, -, -, h⟩ | ⟨_, _, -, -, h⟩ := frameArrives_cases f s
  · rw [h]
    exact .inr ⟨f, hfree, takeRequest_inHand _ _, takeRequest_storedBy f _ s⟩
  · rw [h]
    exact .inl (SameStored.link s _)
  · rw [h]
    exact .inl (SameStored.link s _)

/-- R171: the same for what arrives on RX. -/
theorem byteIn_stored (b : Byte) (s : State) : ArrivalStored s (byteIn b s) := by
  unfold byteIn
  split
  · exact .inl (.of_lmx (by simp) (by simp) (by simp))
  · exact .inl (.of_lmx (by simp) (by simp) (by simp))
  · exact .inl (.of_lmx (by simp) (by simp) (by simp))
  · unfold checkByte
    split
    · split
      · exact frameArrives_stored _ s
      · exact .inl (.of_lmx (by simp) (by simp) (by simp))
    · exact .inl (.of_lmx (by simp) (by simp) (by simp))

theorem receive_stored (rx : RxByte) (s : State) : ArrivalStored s (receive rx s) := by
  unfold receive
  split
  · exact byteIn_stored _ s
  · split
    · exact .inl (.refl s)
    · exact .inl (.of_lmx (by simp) (by simp) (by simp))

/-! ## Events -/

/-- 00 section 0.4: a soft reset keeps the stored data. -/
theorem softReset_stored (s : State) : SameStored s (softReset s) :=
  ⟨by simp [softReset, resetTo], by simp [softReset, resetTo, Pgc.atReset],
    fun k => by simp [softReset, resetTo, Lmx.atReset, lineFns]⟩

/-- R172, R176: what the end of a reply does with the stored data: nothing, or what the held frame does. -/
theorem replySent_stored (s : State) :
    SameStored s (replySent s) ∨
      ∃ f, s.lnk.holding = some f ∧ (replySent s).lnk.inHand = some f ∧ StoredBy f.kind s (replySent s) := by
  obtain ⟨-, h⟩ | ⟨_, -, -, h⟩ | ⟨_, -, -, h⟩ := replySent_cases s
  · rw [h]
    exact .inl (.refl s)
  · rw [h]
    exact .inl (softReset_stored s)
  · rw [h]
    unfold nextRequest
    dsimp only
    split
    · rename_i f hheld
      exact .inr ⟨f, hheld, takeRequest_inHand _ _, takeRequest_storedBy f _ s⟩
    · exact .inl (.link s _)

/-- A command that is neither a full reset nor the arrival of a frame, a byte or the end of a reply keeps the stored
data. -/
theorem event_stored {i : Instr} {s t : State} (h : exec i s = .next t) (hframe : frameOfCommand i = none)
    (hreset : i ≠ .fullReset) (hsent : i ≠ .replySent) : SameStored s t ∨ ArrivalStored s t := by
  cases i with
  | fullReset => contradiction
  | replySent => contradiction
  | softReset => cases h; exact .inl (softReset_stored s)
  | frameDiscard rx => cases h; exact .inr (receive_stored rx s)
  | byteReceived b => cases h; exact .inr (receive_stored (.good b) s)
  | byteGapExpiry => cases h; exact .inl (.of_lmx (by simp) (by simp) (by simp))
  | conversionEnd code => cases h; exact .inl (.of_lmx (by simp) (by simp) (by simp))
  | bridgeTriggerArrival b => cases h; exact .inl (.of_lmx (by simp) (by simp) (by simp))
  | watchIntervalExpiry => cases h; exact .inl (.of_lmx (by simp) (by simp) (by simp))
  | shortComparatorAssert b => cases h; exact .inl (.of_lmx (by simp) (by simp) (by simp))
  | shortComparatorDeassert b => cases h; exact .inl (.of_lmx (by simp) (by simp) (by simp))
  | holdExpiry => cases h; exact .inl (.of_lmx (by simp) (by simp) (by simp))
  | graceExpiry => cases h; exact .inl (.of_lmx (by simp) (by simp) (by simp))
  | driveFrameExpiry => cases h; exact .inl (.of_lmx (by simp) (by simp) (by simp))
  | servoFrameExpiry => cases h; exact .inl (.of_lmx (by simp) (by simp) (by simp))
  | relaxTimerExpiry => cases h; exact .inl (.of_lmx (by simp) (by simp) (by simp))
  | clutchTravelExpiry => cases h; exact .inl (.of_lmx (by simp) (by simp) (by simp))
  | lightFrameExpiry pins => cases h; exact .inl ⟨by simp, by simp, lightFrameExpiry_fn pins s⟩
  | stallTimerExpiry => cases h; exact .inl (.of_lmx (by simp) (by simp) (by simp))
  | _ => contradiction

/-- What a command does with the stored data: nothing, or what the frame that becomes the request in hand does. -/
def RequestStored (i : Instr) (s t : State) : Prop :=
  SameStored s t ∨ ∃ f, t.lnk.inHand = some f ∧ StoredBy f.kind s t ∧
    (s.lnk.inHand = none ∨ (i = .replySent ∧ s.lnk.holding = some f))

theorem ArrivalStored.request {s t : State} (h : ArrivalStored s t) (i : Instr) : RequestStored i s t :=
  h.imp id fun ⟨f, hfree, hin, hby⟩ => ⟨f, hin, hby, .inl hfree⟩

theorem exec_stored {i : Instr} {s t : State} (h : exec i s = .next t) (hreset : i ≠ .fullReset) :
    RequestStored i s t := by
  cases hf : frameOfCommand i with
  | some f =>
    rw [exec_of_frame hf] at h
    cases h
    exact (frameArrives_stored f s).request i
  | none =>
    by_cases hsent : i = .replySent
    · subst hsent
      cases h
      exact (replySent_stored s).imp id fun ⟨f, hheld, hin, hby⟩ => ⟨f, hin, hby, .inr ⟨rfl, hheld⟩⟩
    · exact (event_stored h hf hreset hsent).elim .inl fun ha => ha.request i

/-- Settles O57: outside a full reset, stored data change by the frame that becomes the request in hand. -/
theorem onlyTheirRequestsChangeStoredData : Obligations.OnlyTheirRequestsChangeStoredData := by
  intro i s t h hreset becomesInHand
  obtain hsame | ⟨f, hin, hby, hwhen⟩ := exec_stored h hreset
  · exact ⟨fun h => absurd hsame.cfg h, fun h => absurd hsame.store h, fun k h => absurd (hsame.fn k) h⟩
  · have htaken : ∀ kind : Byte, ¬ f.kind ≠ kind → becomesInHand kind := fun kind hk =>
      ⟨f, hin, not_not.mp hk, hwhen⟩
    exact ⟨fun h => htaken _ (mt hby.cfg h), fun h => htaken _ (mt hby.store h),
      fun k h => htaken _ fun hne => h (hby.fn hne k)⟩

end Sys2Proof.Machine

/-! The parts of an act, said once: a property that every part keeps is kept by every command (`Steady`). The winch's
endings, the completion test of a shutdown, the trips and the light frame are composed here for all such properties. -/

namespace Sys2Proof.Machine

/-! ## Halts without the completion test -/

/-- R116, R117: a halt of the winch unit before VSC makes its completion test. -/
def haltWinch (cause : EndCause) (s : State) : State :=
  match (s.unit 0).state with
  | .running =>
    if s.wch.clutch.moving then s.modUnit 0 fun x => { x with state := .halting, haltCause := some cause }
    else winchEnd cause s
  | .halting => s
  | .idle => s

/-- R116, R13: a halt of the winch unit, whose end VSC may answer with its completion test. -/
theorem winchHalt_eq (cause : EndCause) (s : State) :
    winchHalt cause s = haltWinch cause s ∨ winchHalt cause s = completionTest (haltWinch cause s) := by
  cases h : (s.unit 0).state with
  | running =>
    cases hm : s.wch.clutch.moving with
    | true => exact .inl (by simp [winchHalt, haltWinch, h, hm])
    | false => exact .inr (by simp [winchHalt, haltWinch, h, hm, winchEnds])
  | _ => exact .inl (by simp [winchHalt, haltWinch, h])

/-- R116, R117: the three cases of such a halt. -/
theorem haltWinch_cases (cause : EndCause) (s : State) :
    ((s.unit 0).state = .running ∧ s.wch.clutch.moving = false ∧ haltWinch cause s = winchEnd cause s) ∨
    ((s.unit 0).state = .running ∧ s.wch.clutch.moving = true ∧
      haltWinch cause s = s.modUnit 0 fun x => { x with state := .halting, haltCause := some cause }) ∨
    ((s.unit 0).state ≠ .running ∧ haltWinch cause s = s) := by
  cases h : (s.unit 0).state <;> cases hm : s.wch.clutch.moving <;> simp [haltWinch, h, hm]

/-! ## Entries before the winch is asked -/

/-- R12: a shutdown begins, up to the halt of the winch unit. -/
def shutdownAsked (origin : Origin) (cause : OpCause) (s : State) : State :=
  hazardStop (tractionShutdown (steerShutdown (changeOp .shuttingDown cause
    (s.modVsc fun v => { v with origin := origin, hold := none, grace := some s.cfg.vsc.grace }))))

theorem beginShutdown_eq (origin : Origin) (cause : OpCause) (s : State) :
    beginShutdown origin cause s = completionTest (winchHalt origin.endCause (shutdownAsked origin cause s)) := rfl

/-- R9: the entry to FAILSAFE, up to the halt of the winch unit. -/
def failsafeAsked (s : State) : State :=
  hazardStart (tractionFailsafe (steerFailsafe (changeOp .failsafe .linkLost (offer (.failsafe 1 s.vsc.op)
    (s.modVsc fun v => { v with expiryCount := 1, hold := some s.cfg.vsc.holdTime })))))

theorem enterFailsafe_eq (s : State) : enterFailsafe s = winchHalt .failsafe (failsafeAsked s) := rfl

/-- R10: the state in which the second hold expiry begins its shutdown. -/
def expired (s : State) : State := offer (.failsafe 2 .failsafe) (s.modVsc fun v => { v with expiryCount := 2 })

theorem secondExpiry_eq (s : State) : secondExpiry s = beginShutdown .failsafe .linkLost (expired s) := rfl

/-- R63, R79: SUP's publication up to the completion test that a cut makes. -/
def supplyCut (s : State) : State :=
  let t := stageNotice s.sup.stage (s.modSup fun _ => supNext s)
  let t := if becameCutoff s.sup.stage t then cutoffLights t else t
  cutAxles t.sup.alloc.dutyCap.front t.sup.alloc.dutyCap.rear .cap (cutLights (cutWinch t))

/-- R79: a cut is followed by the completion test; without one nothing happens. -/
theorem cutAndTest_eq (capFront capRear : Nat) (why : Limiter) (s : State) :
    cutAndTest capFront capRear why s = cutAxles capFront capRear why s ∨
    cutAndTest capFront capRear why s = completionTest (cutAxles capFront capRear why s) := by
  unfold cutAndTest
  split
  · exact .inr rfl
  · exact .inl (by simp [cutAxles, *])

theorem supplyCompletion_eq (s : State) :
    supplyCompletion s = supplyCut s ∨ supplyCompletion s = completionTest (supplyCut s) :=
  cutAndTest_eq _ _ _ _

/-- R86: the assist step up to the completion test that a cut makes. -/
def assistCut (s : State) : State :=
  match s.trc.assist with
  | some cap =>
    if s.scn.results.kind = some .continuous then
      if s.scn.results.bridge.winch < s.cfg.trc.slackLevel then
        cutAxles (cap - 50) (cap - 50) .assist (s.modTrc fun t => { t with assist := some (cap - 50) })
      else s.modTrc fun t => { t with assist := some (min (cap + 25) 1000) }
    else s
  | none => s

theorem assistStep_eq (s : State) : assistStep s = assistCut s ∨ assistStep s = completionTest (assistCut s) := by
  cases h : s.trc.assist with
  | none => exact .inl (by simp only [assistStep, assistCut, h])
  | some cap =>
    simp only [assistStep, assistCut, h]
    split
    · split
      · exact cutAndTest_eq _ _ _ _
      · exact .inl rfl
    · exact .inl rfl

/-! ## Properties that every part keeps -/

/-- R132: moves that begin a step only for a running unit, and otherwise leave the winch state alone. -/
def WinchTied (s t : State) : Prop :=
  (s.unit 0).state = .running ∨ (¬ WinchBegun s → t.wch.state = s.wch.state)

/-- A property that every part of an act keeps, each under what has been checked before it. The parts of a scan
completion stand in `Steady`. -/
structure SteadyParts (P : State → Prop) : Prop where
  link : ∀ s f, P s → P (s.modLnk f)
  choice : ∀ s, P s → P s.nextChoice
  fresh : ∀ s, P (resetTo Settings.default (Vector.replicate 128 .empty) (Vector.replicate 4 .off) 0 .parked s)
  kept : ∀ s, P s → P (resetTo s.cfg s.pgc.store (lineFns s) s.wch.position s.vsc.op s)
  set : ∀ s k w v, setCheck s k w = .ok v → P s → P (storeSetting k v s)
  arm : ∀ s, s.vsc.op = .parked → armRefusal s = none → P s → P (enterArmed s)
  shutdown : ∀ origin cause s, origin ≠ .none → s.vsc.op.driven = true → P s →
    P (haltWinch origin.endCause (shutdownAsked origin cause s))
  expires : ∀ s, s.vsc.op = .failsafe → P s → P (haltWinch .failsafe (shutdownAsked .failsafe .linkLost (expired s)))
  parks : ∀ s, s.vsc.op = .shuttingDown → shutdownDone s = true → P s → P (enterParked .shutdownComplete s)
  forces : ∀ s, s.vsc.op = .shuttingDown → P s → P (forceShutdown s)
  leaves : ∀ s, s.vsc.op = .tripped → P s → P (leaveTripped s)
  failsafe : ∀ s, s.vsc.op = .armed → P s → P (haltWinch .failsafe (failsafeAsked s))
  trips : ∀ added first s, s.vsc.op ≠ .tripped → P s → P (enterTripped added first s)
  adds : ∀ added s, s.vsc.op = .tripped → P s → P (addCauses added s)
  comparator : ∀ s c, P s → P (s.modVsc fun v => { v with comparator := c })
  drive : ∀ throttle steer dig s, s.vsc.op.driven = true → -1000 ≤ steer ∧ steer ≤ 1000 → P s →
    P (driveTaken throttle steer dig s)
  steerMode : ∀ m s, P s → P (steerMode m s)
  setManual : ∀ c level s, P s → P (setManual c level s)
  writeSteps : ∀ first records s, P s → P (writeSteps first records s)
  startsWinch : ∀ first slots tag s, s.outstanding 0 = none → (s.unit 0).state = .idle → s.vsc.op = .armed →
    walk s 0 first = .passed slots → P s → P (startContext 0 first slots tag s)
  startsLight : ∀ c first slots tag s, s.outstanding (unitOf c) = none → (s.unit (unitOf c)).state = .idle →
    walk s (unitOf c) first = .passed slots → P s →
    P (startLightUnit c first (startContext (unitOf c) first slots tag s))
  takesStatus : ∀ u s, P s → P (takeOutstanding u s)
  haltsWinch : ∀ s, (s.unit 0).state = .running → P s → P (haltWinch .halted s)
  haltsLight : ∀ c s, (s.unit (unitOf c)).state = .running → P s → P (haltChannel c s)
  lineSet : ∀ p s, p ≤ s.cfg.wch.lineMax * 10 → P s → P (s.modWch fun w => { w with position := p })
  assignLine : ∀ i fn s, (s.unit 0).state = .idle → s.vsc.op = .parked → P s → P (assignLine i fn s)
  fetch : ∀ n rest s, s.nq = n :: rest → P s → P (afterTaking n (s.modNq fun _ => rest))
  unstack : ∀ u s, P s → P (s.modUnit u fun x => { x with stacked := none })
  convert : ∀ s c k codes, s.scn.scan = some c → s.scn.wait = none → nextSlot c.kind c.slot = some k → P s →
    P (s.modScn fun n => { n with scan := some { c with slot := k, codes := codes }, wait := waitAt s k })
  trigger : ∀ b s, P s → P (bridgeTrigger b s)
  watch : ∀ s, P s → P (watchExpiry s)
  driveFrame : ∀ s, s.trc.state ≠ .off → P s → P (driveFrame s)
  servoFrame : ∀ s, P s → P (servoFrameExpiry s)
  relax : ∀ s, P s → P (relaxExpiry s)
  arrives : ∀ s, P s → P (s.modWch fun w => { w with clutch := w.clutch.arrived, clutchTimer := none })
  lights : ∀ s, P s → P (lightsFrame s)
  samples : ∀ pins s, P s → P (sampleLines pins s)
  general : ∀ i s, P s → P (generalChange i s)
  moves : ∀ s t, WinchMoves s t → WinchTied s t → P s → P t
  ends : ∀ cause s t, WinchMoves s t → WinchBegun s ∨ (s.unit 0).state ≠ .idle → P s → P (winchEnd cause t)

section
variable {P : State → Prop}

/-! ## The winch and the completion test -/

/-- R13: the completion test. -/
theorem SteadyParts.test (hp : SteadyParts P) {s : State} (h : P s) : P (completionTest s) := by
  obtain ⟨hop, hdone, hs⟩ | ⟨-, hs⟩ := completionTest_cases s
  · rw [hs]
    exact hp.parks s hop hdone h
  · rwa [hs]

/-- R116, R117: a halt of the winch. -/
theorem SteadyParts.halt (hp : SteadyParts P) {cause : EndCause} {s : State} (h : P (haltWinch cause s)) :
    P (winchHalt cause s) := by
  obtain hs | hs := winchHalt_eq cause s <;> rw [hs]
  · exact h
  · exact hp.test h

/-- R133: the winch at an event with a running unit. -/
theorem SteadyParts.does (hp : SteadyParts P) {s t : State} (hruns : (s.unit 0).state = .running) (hw : WinchDoes s t)
    (h : P s) : P t := by
  obtain ⟨u, hu, rfl | ⟨cause, rfl⟩⟩ := hw
  · exact hp.moves s t hu (.inl hruns) h
  · exact hp.test (hp.ends cause s u hu (.inr (by rw [hruns]; decide)) h)

/-- R133: the winch at any event. -/
theorem SteadyParts.reacts (hp : SteadyParts P) {s t : State} (hw : WinchReacts s t) (h : P s) : P t := by
  obtain ⟨u, hu, ⟨rfl, hstate⟩ | ⟨hbegun, cause, rfl⟩⟩ := hw
  · exact hp.moves s t hu (.inr hstate) h
  · exact hp.test (hp.ends cause s u hu (.inl hbegun) h)

/-- R127: a clutch travel expiry. -/
theorem SteadyParts.clutchArrives (hp : SteadyParts P) {s : State} (h : P s) : P (clutchArrives s) := by
  unfold Machine.clutchArrives
  have harrived := hp.arrives s h
  refine hp.test ?_
  obtain ⟨hruns, ht⟩ | ⟨hhalts, cause, ht⟩ | ht :=
    afterTravel_cases (s.modWch fun w => { w with clutch := w.clutch.arrived, clutchTimer := none })
  · exact hp.does hruns ht harrived
  · rw [ht]
    exact hp.test (hp.ends cause _ _ (.refl _) (.inr (by rw [hhalts]; decide)) harrived)
  · rwa [ht]

/-- R138: a stall. -/
theorem SteadyParts.stall (hp : SteadyParts P) {s : State} (hruns : s.wch.state = .runningPowered) (h : P s) :
    P (winchEnds .stall s) :=
  hp.test (hp.ends .stall s s (.refl s) (.inl (.inl hruns)) h)

/-! ## Shutdowns and trips -/

/-- R12: a shutdown that begins. -/
theorem SteadyParts.begins (hp : SteadyParts P) {origin : Origin} {cause : OpCause} {s : State}
    (horigin : origin ≠ .none) (hop : s.vsc.op.driven = true) (h : P s) : P (beginShutdown origin cause s) := by
  rw [beginShutdown_eq]
  exact hp.test (hp.halt (hp.shutdown origin cause s horigin hop h))

/-- R10: the second hold expiry. -/
theorem SteadyParts.secondExpiry (hp : SteadyParts P) {s : State} (hop : s.vsc.op = .failsafe) (h : P s) :
    P (secondExpiry s) := by
  rw [secondExpiry_eq, beginShutdown_eq]
  exact hp.test (hp.halt (hp.expires s hop h))

/-- R9: the first hold expiry. -/
theorem SteadyParts.enterFailsafe (hp : SteadyParts P) {s : State} (hop : s.vsc.op = .armed) (h : P s) :
    P (enterFailsafe s) := by
  rw [enterFailsafe_eq]
  exact hp.halt (hp.failsafe s hop h)

/-- R17 to R20: trip causes. -/
theorem SteadyParts.tripWith (hp : SteadyParts P) (added : List TripCause) {s : State} (h : P s) :
    P (tripWith added s) := by
  unfold Machine.tripWith
  split
  · exact h
  · split
    · exact hp.adds _ s ‹_› h
    · exact hp.trips _ _ s ‹_› h

/-- R17: a comparator's assertion. -/
theorem SteadyParts.assertShort (hp : SteadyParts P) (b : Bridge) {s : State} (h : P s) : P (assertShort b s) :=
  hp.tripWith _ (hp.comparator s _ h)

/-- R17: the assertions after a reset. -/
theorem SteadyParts.assertionsAtReset (hp : SteadyParts P) {s : State} (h : P s) : P (assertionsAtReset s) := by
  have hone : ∀ b s, P s → P (assertedAtReset b s) := fun b s h => by
    unfold assertedAtReset
    split
    · exact hp.tripWith _ h
    · exact h
  unfold Machine.assertionsAtReset
  split
  · exact runOrder_preserves (hone _) (hone _) (hone _) _ _ (hp.choice s h)
  · exact h

/-! ## Light frames, starts and halts -/

/-- R168: an accepted change. -/
theorem SteadyParts.handChange (hp : SteadyParts P) (fn : LineFn) (level : Level) (i : Fin 4) {s : State} (h : P s) :
    P (handChange fn level i s) := by
  unfold Machine.handChange
  split
  · split
    · exact hp.reacts (drumPulse_reacts s) h
    · exact h
  · exact hp.reacts (fairleadChange_reacts s) h
  · exact hp.general i s h
  · exact h
  · exact h

/-- R168: the accepted changes of a kind. -/
theorem SteadyParts.handOut (hp : SteadyParts P) (before : State) (pins : PinLevels) (fn : LineFn) {s : State}
    (h : P s) : P (handOut before pins fn s) := by
  unfold Machine.handOut
  refine foldl_preserves (fun s i h => ?_) allLines s h
  split
  · exact hp.handChange _ _ _ h
  · exact h

/-- R146: a light frame. -/
theorem SteadyParts.lightFrameExpiry (hp : SteadyParts P) (pins : PinLevels) {s : State} (h : P s) :
    P (lightFrameExpiry pins s) := by
  unfold Machine.lightFrameExpiry lightFrame
  refine runOrder_preserves hp.lights (fun s h => hp.reacts (winchFrame_reacts s) h) (fun s h => ?_) _ _
    (hp.choice _ (hp.choice _ h))
  unfold linesFrame
  exact runOrder_preserves (P := P) (fun _ => hp.handOut _ _ _) (fun _ => hp.handOut _ _ _) (fun _ => hp.handOut _ _ _) _ _
    (hp.samples pins s h)

/-- 00 section 0.6.3: a unit is the winch's or a channel's. -/
theorem chanOf_eq_none {u : UnitNo} (h : chanOf u = none) : u = 0 := by
  by_contra hu
  simp [chanOf, hu] at h

/-- 00 section 0.6.3: the channel of a unit. -/
theorem unitOf_of_chanOf {u : UnitNo} {c : Chan} (h : chanOf u = some c) : u = unitOf c := by
  unfold chanOf at h
  split at h
  · cases h
    exact (Fin.succ_pred _ _).symm
  · contradiction

/-- R114: a unit that starts. -/
theorem SteadyParts.startUnit (hp : SteadyParts P) {u : UnitNo} {first : Slot} {slots : List Slot} (tag : Byte)
    {s : State} (hstatus : s.outstanding u = none) (hidle : (s.unit u).state = .idle)
    (hallowed : startForbidden s u = none) (hwalk : walk s u first = .passed slots) (h : P s) :
    P (startUnit u first slots tag s) := by
  unfold Machine.startUnit
  dsimp only
  split
  · rename_i hu
    obtain rfl := chanOf_eq_none hu
    have harmed : s.vsc.op = .armed := by
      simp only [startForbidden, if_true] at hallowed
      by_contra hop
      simp [hop] at hallowed
    refine hp.does ?_ (startWinch_does _ _) (hp.startsWinch first slots tag s hstatus hidle harmed hwalk h)
    simp [startContext, State.unit, State.modPgc, State.modUnit]
  · rename_i c hc
    obtain rfl := unitOf_of_chanOf hc
    exact hp.startsLight c first slots tag s hstatus hidle hwalk h

/-- R116: a unit that is halted. -/
theorem SteadyParts.haltUnit (hp : SteadyParts P) {u : UnitNo} {s : State} (hruns : (s.unit u).state = .running)
    (h : P s) : P (haltUnit u s) := by
  unfold Machine.haltUnit
  split
  · rename_i hu
    obtain rfl := chanOf_eq_none hu
    exact hp.halt (hp.haltsWinch s hruns h)
  · rename_i c hc
    obtain rfl := unitOf_of_chanOf hc
    exact hp.haltsLight c s hruns h

/-! ## Scan completions -/

/-- A property that every part of an act keeps, scan completions included. -/
structure Steady (P : State → Prop) : Prop extends SteadyParts P where
  completes : ∀ s c, s.scn.wait = none → P s → P (completeScan c s)

/-- R15, R18: VSC's part of a completion. -/
theorem SteadyParts.vehicleCompletion (hp : SteadyParts P) (became : Bool) {s : State}
    (h : P (s.modVsc fun v => { v with measured := true })) : P (vehicleCompletion became s) := by
  unfold Machine.vehicleCompletion cutoffTest
  dsimp only
  split
  · split
    · rename_i hcut
      exact hp.begins (by decide) (Bool.and_eq_true_iff.mp hcut).2 h
    · exact h
  · exact hp.tripWith _ h

/-- R44: SUP's part of a completion. -/
theorem SteadyParts.supply (hp : SteadyParts P) {s : State} (h : P (supplyCut s)) : P (supplyCompletion s) := by
  obtain hs | hs := supplyCompletion_eq s <;> rw [hs]
  · exact h
  · exact hp.test h

/-- R86: TRC's part of a completion. -/
theorem SteadyParts.assist (hp : SteadyParts P) {s : State} (h : P (assistCut s)) : P (assistStep s) := by
  obtain hs | hs := assistStep_eq s <;> rw [hs]
  · exact h
  · exact hp.test h

/-- R32: a completion whose parts each keep the property. -/
theorem SteadyParts.steady (hp : SteadyParts P) (scanned : ∀ s c, s.scn.wait = none → P s → P (scanComplete c s))
    (cut : ∀ s, P s → P (supplyCut s)) (measured : ∀ s, P s → P (s.modVsc fun v => { v with measured := true }))
    (assisted : ∀ s, P s → P (assistCut s)) : Steady P where
  toSteadyParts := hp
  completes := fun s c hwait h => by
    unfold completeScan completionEvent
    refine runOrder_preserves (fun s h => ?_) (fun s h => hp.assist (assisted s h))
      (fun s h => hp.reacts (winchCompletion_reacts s) h) _ _ (hp.choice _ (scanned s c hwait h))
    exact hp.vehicleCompletion _ (measured _ (hp.supply (cut s h)))

/-! ## Acts and commands -/

/-- A property that every part keeps is kept by every act. -/
theorem Steady.acts (hp : Steady P) {s t : State} (ha : Acts s t) (h : P s) : P t := by
  cases ha with
  | fullReset => exact hp.assertionsAtReset (hp.fresh s)
  | softReset => exact hp.assertionsAtReset (hp.kept s h)
  | set k check => exact hp.set s k _ _ check h
  | arm op checks => exact hp.arm s op checks h
  | park op => exact hp.begins (by decide) op h
  | leaveTripped op => exact hp.leaves s op h
  | drive dig op _ hsteer => exact hp.drive _ _ dig s op hsteer h
  | steerMode m => exact hp.steerMode m s h
  | setManual c level => exact hp.setManual c level s h
  | writeSteps first records => exact hp.writeSteps first records s h
  | start tag status idle allowed walked => exact hp.startUnit tag status idle allowed walked h
  | takeStatus => exact hp.takesStatus _ s h
  | halt runs => exact hp.haltUnit runs h
  | lineSet _ bound => exact hp.lineSet _ s bound h
  | assignLine idle op => exact hp.assignLine _ _ s idle op h
  | fetch queue => exact hp.fetch _ _ s queue h
  | unstack u => exact hp.unstack u s h
  | convert codes scan wait next => exact hp.convert s _ _ codes scan wait next h
  | completeScan c wait => exact hp.completes s c wait h
  | trigger b => exact hp.trigger b s h
  | watch => exact hp.watch s h
  | assertShort b => exact hp.assertShort b h
  | deassert b => exact hp.comparator s _ h
  | enterFailsafe op => exact hp.enterFailsafe op h
  | secondExpiry op => exact hp.secondExpiry op h
  | forceShutdown op => exact hp.forces s op h
  | driveFrame drives => exact hp.test (hp.driveFrame s drives h)
  | servoFrame => exact hp.servoFrame s h
  | relax => exact hp.relax s h
  | clutch => exact hp.clutchArrives h
  | lightFrame pins => exact hp.lightFrameExpiry pins h
  | stall runs => exact hp.stall runs h

/-- A property that every part keeps is kept by every command. -/
theorem Steady.exec (hp : Steady P) {i : Instr} {s t : State} (h : P s) (he : exec i s = .next t) : P t :=
  exec_keeps hp.link (fun _ _ ha h => hp.acts ha h) h he

end

end Sys2Proof.Machine

/-! The steering pulses stay in their windows (05 section 5.1.1, 05 section 5.3). -/

namespace Sys2Proof.Machine

/-! ## Angles and pulses (05 R91, R92) -/

/-- R89: the ranges of an axle's settings that its window is made of. -/
theorem SettingsOk.axle {c : Settings} (h : SettingsOk c) (x : Axle) :
    1000 ≤ (c.stc.axle.get x).centre ∧ (c.stc.axle.get x).centre ≤ 2000 ∧
      (c.stc.axle.get x).travelLeft ≤ 1000 ∧ (c.stc.axle.get x).travelRight ≤ 1000 :=
  ⟨(h.range (.axle .centre x)).1, (h.range (.axle .centre x)).2, (h.range (.axle .travelLeft x)).2,
    (h.range (.axle .travelRight x)).2⟩

/-- R89: CENTRE lies in the output window. -/
theorem SettingsOk.centre {c : Settings} (h : SettingsOk c) (x : Axle) :
    inWindow (c.stc.axle.get x) (c.stc.axle.get x).centre := by
  obtain ⟨hlow, hhigh, -, -⟩ := h.axle x
  unfold inWindow windowLow windowHigh
  omega

/-- R92: a share of a travel, for an angle within ±1 000. -/
theorem share_le {angle : Int} (h : angle.natAbs ≤ 1000) (travel : Nat) : angle.natAbs * travel / 1000 ≤ travel := by
  have hmul := Nat.mul_le_mul_right travel h
  omega

/-- R92: the pulse of an angle within ±1 000 lies in the output window. -/
theorem SettingsOk.pulse {c : Settings} (h : SettingsOk c) (x : Axle) {angle : Int} (hangle : angle.natAbs ≤ 1000) :
    inWindow (c.stc.axle.get x) (pulseOf (c.stc.axle.get x) angle) := by
  obtain ⟨hlow, hhigh, -, -⟩ := h.axle x
  have hturned : (if (c.stc.axle.get x).reverse then -angle else angle).natAbs ≤ 1000 := by
    split <;> omega
  unfold inWindow windowLow windowHigh pulseOf clampNat
  dsimp only
  generalize (if (c.stc.axle.get x).reverse then -angle else angle) = turned at hturned ⊢
  have hleft := share_le hturned (c.stc.axle.get x).travelLeft
  have hright := share_le hturned (c.stc.axle.get x).travelRight
  split <;> omega

/-- A value for each axle, given axle by axle. -/
theorem PerAxle.get_mk {α : Type} (p : Axle → α → Prop) {a b : α} (ha : p .front a) (hb : p .rear b) (x : Axle) :
    p x ((⟨a, b⟩ : PerAxle α).get x) := by
  cases x
  · exact ha
  · exact hb

/-- R91: the share of BLEND is at most BLEND_RATIO. -/
theorem blendShare_le (ratio : Nat) (duty : Int) : blendShare ratio duty ≤ ratio := by
  have hmul := Nat.mul_le_mul_left ratio (Nat.sub_le 1000 duty.natAbs)
  unfold blendShare
  omega

/-- R91: the rear angle of BLEND lies within ±1 000. -/
theorem blend_natAbs_le {steer : Int} (hsteer : steer.natAbs ≤ 1000) {share : Nat} (hshare : share ≤ 1000) :
    ((-(steer * (share : Int))).tdiv 1000).natAbs ≤ 1000 := by
  have hmul := Nat.mul_le_mul hsteer hshare
  rw [Int.natAbs_tdiv, Int.natAbs_neg, Int.natAbs_mul, Int.natAbs_natCast]
  exact Nat.div_le_of_le_mul hmul

/-- R91: every mode's angles lie within ±1 000. -/
theorem angles_natAbs_le (mode : SteerMode) {steer : Int} (hsteer : steer.natAbs ≤ 1000) {ratio : Nat}
    (hratio : ratio ≤ 1000) (duty : Int) (x : Axle) : ((angles mode steer ratio duty).get x).natAbs ≤ 1000 := by
  cases mode with
  | blend =>
    exact PerAxle.get_mk (fun _ (a : Int) => a.natAbs ≤ 1000) hsteer
      (blend_natAbs_le hsteer ((blendShare_le ratio duty).trans hratio)) x
  | front => exact PerAxle.get_mk (fun _ (a : Int) => a.natAbs ≤ 1000) hsteer (by decide) x
  | rear => exact PerAxle.get_mk (fun _ (a : Int) => a.natAbs ≤ 1000) (by decide) hsteer x
  | crab => exact PerAxle.get_mk (fun _ (a : Int) => a.natAbs ≤ 1000) hsteer hsteer x
  | counter => exact PerAxle.get_mk (fun _ (a : Int) => a.natAbs ≤ 1000) hsteer (by rwa [Int.natAbs_neg]) x

/-! ## What STC keeps -/

/-- R93: a state's pulses and steer command, for the settings that it holds. -/
structure StcOk (c : Settings) (t : Stc) : Prop where
  steer : -1000 ≤ t.steer ∧ t.steer ≤ 1000
  target : ∀ x, inWindow (c.stc.axle.get x) (t.target.get x)
  output : ∀ x, inWindow (c.stc.axle.get x) (t.output.get x)

theorem steerOk_iff (s : State) : SteerOk s ↔ SettingsOk s.cfg ∧ StcOk s.cfg s.stc :=
  ⟨fun h => ⟨h.settings, h.steer, h.target, h.output⟩, fun ⟨h, hs, ht, ho⟩ => ⟨h, hs, ht, ho⟩⟩

/-- An operation that keeps STC and the settings. -/
theorem SteerOk.of_eq {s t : State} (h : SteerOk s) (hstc : t.stc = s.stc) (hcfg : t.cfg = s.cfg) : SteerOk t := by
  rw [steerOk_iff] at h ⊢
  rwa [hstc, hcfg]

/-- An operation that sets STC's record. -/
theorem SteerOk.of_stc {s t : State} (h : SteerOk s) (hstc : StcOk s.cfg t.stc) (hcfg : t.cfg = s.cfg) : SteerOk t := by
  rw [steerOk_iff]
  rw [hcfg]
  exact ⟨h.settings, hstc⟩

/-- R92: the target pulses lie in their windows. -/
theorem SteerOk.targets {s : State} (h : SteerOk s) (x : Axle) :
    inWindow (s.cfg.stc.axle.get x) ((targetPulses s).get x) := by
  have hsteer := h.steer
  have hratio : s.cfg.stc.blendRatio ≤ 1000 := (h.settings.range (.plain .blendRatio)).2
  have hangle := angles_natAbs_le s.stc.mode (steer := s.stc.steer) (by omega) hratio s.trc.applied.front
  exact PerAxle.get_mk (fun x p => inWindow (s.cfg.stc.axle.get x) p) (h.settings.pulse .front (hangle .front))
    (h.settings.pulse .rear (hangle .rear)) x

/-- R100: both CENTREs lie in their windows. -/
theorem SteerOk.centres {s : State} (h : SteerOk s) (x : Axle) :
    inWindow (s.cfg.stc.axle.get x) ((centres s).get x) :=
  PerAxle.get_mk (fun x p => inWindow (s.cfg.stc.axle.get x) p) (h.settings.centre .front) (h.settings.centre .rear) x

/-- R93: a width moved toward a target stays between the two. -/
theorem inWindow_approachNat {c : AxleCfg} {x t : Nat} (hx : inWindow c x) (ht : inWindow c t) (n : Nat) :
    inWindow c (approachNat x t n) := by
  unfold inWindow approachNat at *
  split <;> omega

/-- R93: a slew keeps both outputs in their windows. -/
theorem StcOk.slewed {c : Settings} {t : Stc} (h : StcOk c t) (n : Nat) (x : Axle) :
    inWindow (c.stc.axle.get x) ((slewOutputs n t).get x) :=
  PerAxle.get_mk (fun x p => inWindow (c.stc.axle.get x) p) (inWindow_approachNat (h.output .front) (h.target .front) n)
    (inWindow_approachNat (h.output .rear) (h.target .rear) n) x

/-! ## STC's operations -/

section
variable {s : State}

theorem SteerOk.stcOk (h : SteerOk s) : StcOk s.cfg s.stc := ((steerOk_iff s).mp h).2

theorem SteerOk.relaxTest (h : SteerOk s) : SteerOk (relaxTest s) := by
  unfold Machine.relaxTest
  split <;> exact ⟨h.settings, h.steer, h.target, h.output⟩

theorem SteerOk.wake (h : SteerOk s) : SteerOk (wake s) := by
  unfold Machine.wake
  exact SteerOk.relaxTest ⟨h.settings, h.steer, h.targets, h.targets⟩

theorem SteerOk.steerOnDuties (h : SteerOk s) : SteerOk (steerOnDuties s) := by
  unfold Machine.steerOnDuties
  split
  · exact h.wake
  · exact h.relaxTest

theorem SteerOk.relaxTimeSet (h : SteerOk s) : SteerOk (relaxTimeSet s) := by
  unfold Machine.relaxTimeSet
  split
  · exact h.wake
  · exact h.relaxTest

theorem SteerOk.pendingTest (h : SteerOk s) : SteerOk (pendingTest s) := by
  unfold Machine.pendingTest
  split
  · split
    · exact ⟨h.settings, h.steer, h.target, h.output⟩
    · exact h
  · exact h

theorem SteerOk.wakeTest (throttle : Int) (h : SteerOk s) : SteerOk (wakeTest throttle s) := by
  unfold Machine.wakeTest
  have hstopped : SteerOk (s.modStc fun t => { t with relax := none }) := ⟨h.settings, h.steer, h.target, h.output⟩
  split
  · exact h
  · dsimp only
    split
    · exact hstopped.wake
    · exact hstopped

theorem SteerOk.steerDrive (throttle : Int) {steer : Int} (hsteer : -1000 ≤ steer ∧ steer ≤ 1000) (h : SteerOk s) :
    SteerOk (steerDrive throttle steer s) := by
  have htaken : SteerOk (s.modStc fun t => { t with steer := steer }) := ⟨h.settings, hsteer, h.target, h.output⟩
  exact (htaken.pendingTest.wakeTest throttle).relaxTest

theorem SteerOk.steerMode (m : SteerMode) (h : SteerOk s) : SteerOk (steerMode m s) := by
  unfold Machine.steerMode
  split <;> exact ⟨h.settings, h.steer, h.target, h.output⟩

theorem SteerOk.steerFrame (h : SteerOk s) : SteerOk (steerFrame s) := by
  refine h.of_stc ?_ rfl
  unfold Machine.steerFrame
  dsimp only [State.modStc_stc]
  split
  · exact ⟨h.steer, h.target, h.output⟩
  · split
    · exact ⟨h.steer, h.target, h.stcOk.slewed _⟩
    · have haimed : StcOk s.cfg { s.stc with target := targetPulses s } := ⟨h.steer, h.targets, h.output⟩
      exact ⟨h.steer, h.targets, haimed.slewed _⟩
  · exact ⟨h.steer, h.targets, h.targets⟩
  · exact ⟨h.steer, h.target, h.output⟩

theorem SteerOk.servoFrame (h : SteerOk s) : SteerOk (servoFrameExpiry s) := by
  have hframe := h.steerFrame
  exact ⟨hframe.settings, hframe.steer, hframe.target, hframe.output⟩

theorem SteerOk.steerArmed (h : SteerOk s) : SteerOk (steerArmed s) := by
  have hcentred : SteerOk (s.modStc fun t => { t with out := .pulsing, frozen := false, output := Machine.centres s }) :=
    ⟨h.settings, h.steer, h.target, h.centres⟩
  exact SteerOk.relaxTest ⟨h.settings, h.steer, hcentred.targets, h.centres⟩

theorem SteerOk.steerUnfreeze (h : SteerOk s) : SteerOk (steerUnfreeze s) :=
  ⟨h.settings, h.steer, h.target, h.output⟩

/-- R101: relaxed outputs that are woken at their present targets. -/
theorem StcOk.wakeAtPresent {c : Settings} {t : Stc} (h : StcOk c t) : StcOk c (wakeAtPresent t) := by
  unfold Machine.wakeAtPresent
  split
  · exact ⟨h.steer, h.target, h.target⟩
  all_goals exact h

theorem SteerOk.steerFailsafe (h : SteerOk s) : SteerOk (steerFailsafe s) := by
  have hwoken := h.stcOk.wakeAtPresent
  exact ⟨h.settings, hwoken.steer, hwoken.target, hwoken.output⟩

theorem SteerOk.steerShutdown (h : SteerOk s) : SteerOk (steerShutdown s) := by
  have hwoken := h.stcOk.wakeAtPresent
  exact ⟨h.settings, hwoken.steer, hwoken.target, hwoken.output⟩

theorem SteerOk.steerTripped (h : SteerOk s) : SteerOk (steerTripped s) := by
  refine h.of_stc ?_ rfl
  unfold Machine.steerTripped
  dsimp only [State.modStc_stc]
  split
  · exact ⟨h.steer, h.target, h.output⟩
  · exact ⟨h.steer, h.target, h.output⟩
  · exact ⟨h.steer, h.target, h.target⟩
  · exact ⟨h.steer, h.target, h.output⟩

theorem SteerOk.steerParked (h : SteerOk s) : SteerOk (steerParked s) :=
  ⟨h.settings, (by decide : (-1000 : Int) ≤ 0 ∧ (0 : Int) ≤ 1000), h.centres, h.centres⟩

/-! ## The operations of the other blocks -/

theorem SteerOk.modVsc (f : Vsc → Vsc) (h : SteerOk s) : SteerOk (s.modVsc f) := h.of_eq rfl rfl

theorem SteerOk.modTrc (f : Trc → Trc) (h : SteerOk s) : SteerOk (s.modTrc f) := h.of_eq rfl rfl

theorem SteerOk.changeOp (new : OpState) (cause : OpCause) (h : SteerOk s) : SteerOk (changeOp new cause s) :=
  h.of_eq (by simp) (by simp)

theorem SteerOk.offer (o : Offer) (h : SteerOk s) : SteerOk (offer o s) := h.of_eq (by simp) (by simp)

theorem SteerOk.classifyTraction (h : SteerOk s) : SteerOk (classifyTraction s) := h.of_eq rfl rfl

theorem SteerOk.hazardStart (h : SteerOk s) : SteerOk (hazardStart s) := h.of_eq (by simp) (by simp)

theorem SteerOk.hazardStop (h : SteerOk s) : SteerOk (hazardStop s) := h.of_eq (by simp) (by simp)

theorem SteerOk.overlayTests (h : SteerOk s) : SteerOk (overlayTests s) := h.of_eq (by simp) (by simp)

theorem SteerOk.formTargets (h : SteerOk s) : SteerOk (formTargets s) := h.of_eq rfl rfl

theorem SteerOk.chooseModes (h : SteerOk s) : SteerOk (chooseModes s) := h.of_eq rfl rfl

theorem SteerOk.scanWatch (h : SteerOk s) : SteerOk (scanWatch s) := h.of_eq (by simp) (by simp)

theorem SteerOk.scanContinuous (h : SteerOk s) : SteerOk (scanContinuous s) := h.of_eq (by simp) (by simp)

theorem SteerOk.parkClutch (h : SteerOk s) : SteerOk (parkClutch s) := h.of_eq (by simp) (by simp)

theorem SteerOk.clutchArmed (h : SteerOk s) : SteerOk (clutchArmed s) := h.of_eq (by simp) (by simp)

theorem SteerOk.winchKill (cause : EndCause) (h : SteerOk s) : SteerOk (winchKill cause s) :=
  h.of_eq (by simp) (by simp)

theorem SteerOk.winchEnd (cause : EndCause) (h : SteerOk s) : SteerOk (winchEnd cause s) := h.of_eq (by simp) (by simp)

theorem SteerOk.haltWinch (cause : EndCause) (h : SteerOk s) : SteerOk (haltWinch cause s) := by
  obtain ⟨-, -, ht⟩ | ⟨-, -, ht⟩ | ⟨-, ht⟩ := haltWinch_cases cause s <;> rw [ht]
  · exact h.winchEnd cause
  · exact h.of_eq rfl rfl
  · exact h

theorem SteerOk.publishDuties (h : SteerOk s) : SteerOk (publishDuties s) := by
  have hwaited : SteerOk (endWaitOnZero s) := h.of_eq (by simp) (by simp)
  exact hwaited.steerOnDuties.overlayTests

theorem SteerOk.cutAxles (capFront capRear : Nat) (why : Limiter) (h : SteerOk s) :
    SteerOk (cutAxles capFront capRear why s) := by
  unfold Machine.cutAxles
  split
  · have hcut : SteerOk (cutAxle .rear capRear why (cutAxle .front capFront why s)) := h.of_eq (by simp) (by simp)
    exact hcut.classifyTraction.publishDuties
  · exact h

/-! ## The parts of an act -/

theorem SteerOk.enterParked (cause : OpCause) (h : SteerOk s) : SteerOk (enterParked cause s) := by
  have hstopped := ((h.modVsc fun v => { v with latch := true, hold := none, grace := none, origin := .none }).changeOp
    .parked cause).scanWatch.steerParked
  exact ((hstopped.modTrc _).publishDuties).parkClutch.hazardStop

theorem SteerOk.enterArmed (h : SteerOk s) : SteerOk (enterArmed s) := by
  have htaken := ((h.modVsc fun v =>
    { v with expiryCount := 0, latch := true, hold := some s.cfg.vsc.holdTime }).changeOp .armed .arm
    ).scanContinuous.steerArmed
  exact (((htaken.modTrc _).modTrc _).formTargets.chooseModes.classifyTraction.publishDuties).clutchArmed.overlayTests

theorem SteerOk.shutdownAsked (origin : Origin) (cause : OpCause) (h : SteerOk s) :
    SteerOk (shutdownAsked origin cause s) := by
  have htaken := ((h.modVsc fun v => { v with origin := origin, hold := none, grace := some s.cfg.vsc.grace }).changeOp
    .shuttingDown cause).steerShutdown
  exact (htaken.modTrc _).chooseModes.classifyTraction.publishDuties.hazardStop

theorem SteerOk.failsafeAsked (h : SteerOk s) : SteerOk (failsafeAsked s) := by
  have htaken := (((h.modVsc fun v => { v with expiryCount := 1, hold := some s.cfg.vsc.holdTime }).offer
    (.failsafe 1 s.vsc.op)).changeOp .failsafe .linkLost).steerFailsafe
  exact (htaken.modTrc _).classifyTraction.publishDuties.hazardStart

theorem SteerOk.expired (h : SteerOk s) : SteerOk (expired s) := (h.modVsc _).offer _

theorem SteerOk.enterTripped (added : List TripCause) (first : TripCause) (h : SteerOk s) :
    SteerOk (enterTripped added first s) := by
  have htaken := (((h.modVsc fun v => { v with causes := v.causes.addAll added, firstCause := some first,
                                               hold := none, grace := none, origin := .none }).offer
    (.tripEntered (s.vsc.causes.addAll added) first)).changeOp .tripped .trip).steerTripped
  exact ((htaken.modTrc _).publishDuties.hazardStart).winchKill .tripped

theorem SteerOk.forceShutdown (h : SteerOk s) : SteerOk (forceShutdown s) :=
  (((h.modTrc _).publishDuties.winchKill .forced).parkClutch).enterParked .shutdownForced

theorem SteerOk.driveTaken (throttle : Int) {steer : Int} (dig : Dig) (hsteer : -1000 ≤ steer ∧ steer ≤ 1000)
    (h : SteerOk s) : SteerOk (driveTaken throttle steer dig s) := by
  have hreturned : SteerOk (driveReturns s) := by
    unfold driveReturns
    split
    · unfold linkRestored
      have hchanged := (h.modVsc fun v =>
        { v with expiryCount := 0, latch := true, hold := some s.cfg.vsc.holdTime }).changeOp .armed .linkRestored
      exact ((hchanged.modTrc _).classifyTraction.steerUnfreeze).hazardStop
    · exact h
  have htraction : SteerOk (driveTraction throttle dig (driveKeepsAlive throttle (driveReturns s))) :=
    hreturned.of_eq (by simp) (by simp)
  exact (htraction.steerDrive throttle hsteer).overlayTests

theorem SteerOk.driveFrame (h : SteerOk s) : SteerOk (driveFrame s) := by
  have htaken := ((h.modTrc fun t => { t with digInForce := t.digRequested }).modTrc fun t =>
    { t with ratioInForce := s.cfg.trc.frontRatio }).formTargets
  exact ((htaken.modTrc _).modTrc _).chooseModes.classifyTraction.publishDuties

theorem SteerOk.supplyCut (h : SteerOk s) : SteerOk (supplyCut s) := by
  unfold Machine.supplyCut
  dsimp only
  refine SteerOk.cutAxles _ _ _ ?_
  split <;> exact h.of_eq (by simp) (by simp)

theorem SteerOk.assistCut (h : SteerOk s) : SteerOk (assistCut s) := by
  unfold Machine.assistCut
  split
  · split
    · split
      · exact (h.modTrc _).cutAxles _ _ _
      · exact h.modTrc _
    · exact h
  · exact h

/-- R97: a relax expiry. -/
theorem SteerOk.relaxExpiry (h : SteerOk s) : SteerOk (relaxExpiry s) := by
  obtain ht | ⟨-, -, -, ht⟩ := relaxExpiry_cases s <;> rw [ht]
  · exact h
  · exact ⟨h.settings, h.steer, h.target, h.target⟩

/-! ## Settings and resets -/

/-- 05 section 5.1.1: only the three settings of an axle's window move it. -/
theorem window_put (c : Settings) {k : Key} (hk : ∀ a x, k = .axle a x → a = .reverse) (v : Nat) (x : Axle) :
    inWindow ((c.put k v).stc.axle.get x) = inWindow (c.stc.axle.get x) := by
  cases k with
  | plain p => rw [Settings.put, Settings.axle_putPlain]
  | chan k c => rfl
  | axle a y =>
    obtain rfl := hk a y rfl
    simp only [Settings.put, PerAxle.get_put]
    split
    · subst_vars
      rfl
    · rfl

/-- R89: a SET of a setting that moves no window. -/
theorem StcOk.put {c : Settings} {t : Stc} (h : StcOk c t) {k : Key} (hk : ∀ a x, k = .axle a x → a = .reverse)
    (v : Nat) : StcOk (c.put k v) t :=
  ⟨h.steer, fun x => by rw [window_put c hk]; exact h.target x, fun x => by rw [window_put c hk]; exact h.output x⟩

/-- R89: a width brought into a window that holds one. -/
theorem inWindow_clamp {c : AxleCfg} (h : windowLow c ≤ windowHigh c) (p : Nat) :
    inWindow c (clampNat (windowLow c) (windowHigh c) p) := by
  unfold inWindow clampNat
  omega

/-- R89: the pulses of an axle whose window a SET has moved. -/
theorem SteerOk.clampWindow {x : Axle} (hcfg : SettingsOk s.cfg) (hsteer : -1000 ≤ s.stc.steer ∧ s.stc.steer ≤ 1000)
    (hother : ∀ y, y ≠ x → inWindow (s.cfg.stc.axle.get y) (s.stc.target.get y) ∧
      inWindow (s.cfg.stc.axle.get y) (s.stc.output.get y)) : SteerOk (clampWindow x s) := by
  have hwindow : windowLow (s.cfg.stc.axle.get x) ≤ windowHigh (s.cfg.stc.axle.get x) :=
    (hcfg.centre x).1.trans (hcfg.centre x).2
  refine ⟨hcfg, hsteer, fun y => ?_, fun y => ?_⟩
  · simp only [Machine.clampWindow, State.modStc_stc, State.modStc_cfg, PerAxle.get_put]
    split
    · subst_vars
      exact inWindow_clamp hwindow _
    · exact (hother y ‹_›).1
  · simp only [Machine.clampWindow, State.modStc_stc, State.modStc_cfg, PerAxle.get_put]
    split
    · subst_vars
      exact inWindow_clamp hwindow _
    · exact (hother y ‹_›).2

/-- R89, R178: a SET keeps both pulses in their windows. -/
theorem SteerOk.storeSetting {k : Key} {w v : Nat} (hcheck : setCheck s k w = .ok v) (h : SteerOk s) :
    SteerOk (storeSetting k v s) := by
  obtain ⟨rfl, horder⟩ := setCheck_ok hcheck
  have hcfg := h.settings.put (k.clamp_mem w).1 (k.clamp_mem w).2 horder
  unfold Machine.storeSetting
  split
  · exact h
  · generalize clampNat k.low k.high w = v at hcfg
    have hstill (hk : ∀ a x, k = .axle a x → a = .reverse) : SteerOk (s.modCfg fun c => c.put k v) :=
      (steerOk_iff _).mpr ⟨hcfg, h.stcOk.put hk v⟩
    have hmoved {a : AxleId} {x : Axle} (hk : k = .axle a x) :
        SteerOk (Machine.clampWindow x (s.modCfg fun c => c.put k v)) := by
      refine SteerOk.clampWindow hcfg h.steer fun y hy => ?_
      subst hk
      simp only [State.modCfg_cfg, State.modCfg_stc, Settings.put, PerAxle.get_put, if_neg hy]
      exact ⟨h.target y, h.output y⟩
    cases k with
    | plain p =>
      have hput := hstill (by simp)
      cases p with
      | centreBand => exact hput.relaxTest
      | relaxTime => exact hput.relaxTimeSet
      | _ => exact hput.of_eq (by simp [settingChanged, plainChanged]) (by simp [settingChanged, plainChanged])
    | chan k c => exact (hstill (by simp)).of_eq (by simp [settingChanged]) (by simp [settingChanged])
    | axle a x =>
      cases a with
      | reverse => exact hstill (by simp)
      | _ => exact hmoved rfl

/-- R88: the pulses at a reset. -/
theorem stcOk_atReset {c : Settings} (h : SettingsOk c) : StcOk c (Stc.atReset c.stc) := by
  have hcentres (x : Axle) : inWindow (c.stc.axle.get x)
      ((⟨c.stc.axle.front.centre, c.stc.axle.rear.centre⟩ : PerAxle Nat).get x) :=
    PerAxle.get_mk (fun x p => inWindow (c.stc.axle.get x) p) (h.centre .front) (h.centre .rear) x
  exact ⟨by simp [Stc.atReset], hcentres, hcentres⟩

/-- Every part of an act keeps the pulses in their windows. -/
theorem steady_steerOk : Steady SteerOk := by
  refine SteadyParts.steady ?_ (fun s c _ h => h.of_eq (by simp) (by simp)) (fun s h => h.supplyCut)
    (fun s h => h.modVsc _) (fun s h => h.assistCut)
  exact
    { link := fun s f h => h.of_eq rfl rfl
      choice := fun s h => h.of_eq rfl rfl
      fresh := fun s => (steerOk_iff _).mpr ⟨settingsOk_default, stcOk_atReset settingsOk_default⟩
      kept := fun s h => (steerOk_iff _).mpr ⟨h.settings, stcOk_atReset h.settings⟩
      set := fun s k w v hcheck h => h.storeSetting hcheck
      arm := fun s _ _ h => h.enterArmed
      shutdown := fun origin cause s _ _ h => (h.shutdownAsked origin cause).haltWinch _
      expires := fun s _ h => (h.expired.shutdownAsked _ _).haltWinch _
      parks := fun s _ _ h => h.enterParked _
      forces := fun s _ h => h.forceShutdown
      leaves := fun s _ h => (h.modVsc _).enterParked _
      failsafe := fun s _ h => h.failsafeAsked.haltWinch _
      trips := fun added first s _ h => h.enterTripped added first
      adds := fun added s _ h => h.of_eq (by simp) (by simp)
      comparator := fun s c h => h.modVsc _
      drive := fun throttle steer dig s _ hsteer h => h.driveTaken throttle dig hsteer
      steerMode := fun m s h => h.steerMode m
      setManual := fun c level s h => h.of_eq (by simp) (by simp)
      writeSteps := fun first records s h => h.of_eq (by simp) (by simp)
      startsWinch := fun first slots tag s _ _ _ _ h => h.of_eq (by simp) (by simp)
      startsLight := fun c first slots tag s _ _ _ h => h.of_eq (by simp) (by simp)
      takesStatus := fun u s h => h.of_eq (by simp) (by simp)
      haltsWinch := fun s _ h => h.haltWinch _
      haltsLight := fun c s _ h => h.of_eq (by simp) (by simp)
      lineSet := fun p s _ h => h.of_eq rfl rfl
      assignLine := fun i fn s _ _ h => h.of_eq (by simp) (by simp)
      fetch := fun n rest s _ h => h.of_eq (by simp) (by simp)
      unstack := fun u s h => h.of_eq rfl rfl
      convert := fun s c k codes _ _ _ h => h.of_eq rfl rfl
      trigger := fun b s h => h.of_eq (by simp) (by simp)
      watch := fun s h => h.of_eq (by simp) (by simp)
      driveFrame := fun s _ h => h.driveFrame
      servoFrame := fun s h => h.servoFrame
      relax := fun s h => h.relaxExpiry
      arrives := fun s h => h.of_eq rfl rfl
      lights := fun s h => h.of_eq (by simp) (by simp)
      samples := fun pins s h => h.of_eq (by simp) (by simp)
      general := fun i s h => h.of_eq (by simp) (by simp)
      moves := fun s t hm _ h => h.of_eq hm.stc hm.cfg
      ends := fun cause s t hm _ h => SteerOk.winchEnd cause (h.of_eq hm.stc hm.cfg) }

end

/-- Settles O37: every part of an act keeps the pulses in their windows. -/
theorem pulsesStayInWindows : Obligations.PulsesStayInWindows := fun _ _ _ hs h => steady_steerOk.exec hs h

end Sys2Proof.Machine

/-! Every overlay state is what its function's condition and the hazard give (08 section 8.5). -/

namespace Sys2Proof.Machine

/-! ## The condition (08 R152) -/

/-- R152: the operating states in which BRAKE and REVERSE may hold. -/
theorem OpState.moving_iff (op : OpState) :
    op.moving = true ↔ op = .armed ∨ op = .failsafe ∨ op = .shuttingDown := by
  cases op <;> decide

/-- R152: the model's test is the condition of the channel's function. -/
theorem overlayCondition_iff (s : State) (c : Chan) :
    overlayCondition s s.cfg.ltc.chan[c].overlay = true ↔ overlayHolds s c := by
  unfold overlayHolds
  cases s.cfg.ltc.chan[c].overlay <;> simp [overlayCondition, OpState.moving_iff, frontSlow, and_assoc]

/-- R153: a turn channel whose condition holds blinks. -/
theorem Overlay.blinking_eq (o : Overlay) : ∃ phase, o.blinking = .blink phase := by
  cases o <;> exact ⟨_, rfl⟩

/-- R152 to R154 for one channel. -/
def OverlayOkAt (s : State) (c : Chan) : Prop :=
  if s.cfg.ltc.chan[c].overlay.isTurn = true then
    (s.ltc.hazard.isSome = true → (s.chan c).overlay = .hazard) ∧
    (s.ltc.hazard = none → overlayHolds s c → ∃ phase, (s.chan c).overlay = .blink phase) ∧
    (s.ltc.hazard = none → ¬ overlayHolds s c → (s.chan c).overlay = .idle)
  else (overlayHolds s c → (s.chan c).overlay = .on) ∧ (¬ overlayHolds s c → (s.chan c).overlay = .idle)

/-- R152 to R154 for every channel. -/
structure OverlaysRight (s : State) : Prop where
  ok : ∀ c, OverlayOkAt s c

theorem overlaysRight_iff (s : State) : OverlaysRight s ↔ OverlaysOk s := ⟨fun h => h.ok, fun h => ⟨h⟩⟩

/-- R152 to R154: an overlay as the tests give it is what its condition and the hazard give. -/
theorem overlayOkAt_of_next {s t : State} {c : Chan} (hholds : overlayHolds t c ↔ overlayHolds s c)
    (hfn : t.cfg.ltc.chan[c].overlay = s.cfg.ltc.chan[c].overlay) (hhazard : t.ltc.hazard = s.ltc.hazard)
    (hnext : (t.chan c).overlay = overlayNext s c) : OverlayOkAt t c := by
  unfold OverlayOkAt
  rw [hholds, hfn, hhazard, hnext, ← overlayCondition_iff]
  split
  · rename_i hturn
    refine ⟨fun h => ?_, fun h hc => ?_, fun h hc => ?_⟩
    · simp only [overlayNext, hturn, h, if_true]
    · simpa only [overlayNext, hturn, h, hc, if_true, Option.isSome_none, Bool.false_eq_true, if_false] using
        Overlay.blinking_eq _
    · simp only [overlayNext, hturn, h, hc, if_true]
      rfl
  · rename_i hturn
    refine ⟨fun hc => ?_, fun hc => ?_⟩ <;> simp only [overlayNext, hturn, hc, if_true] <;> rfl

/-- R152: the overlay of a tested channel. -/
theorem overlayChannel_overlay (s : State) (c : Chan) : (overlayChannel s c).overlay = overlayNext s c := by
  unfold overlayChannel
  dsimp only
  split
  · rename_i h
    exact h.symm
  · rfl

/-- R152 to R154: after its tests every overlay is what its condition and the hazard give. -/
theorem overlaysRight_overlayTests (s : State) : OverlaysRight (overlayTests s) := ⟨fun c =>
  overlayOkAt_of_next (s := s) Iff.rfl rfl rfl (by rw [chan_overlayTests, overlayChannel_overlay])⟩

/-! ## What the overlays are tested on -/

/-- An overlay with its blink phase left out. -/
def Overlay.still : Overlay → Overlay
  | .blink _ => .blink 0
  | .idle => .idle
  | .on => .on
  | .hazard => .hazard

/-- What the conditions read and the overlays' kinds stay as they are. -/
structure SameOverlays (s t : State) : Prop where
  fn : ∀ c : Chan, t.cfg.ltc.chan[c].overlay = s.cfg.ltc.chan[c].overlay
  turn : t.cfg.ltc.turnThreshold = s.cfg.ltc.turnThreshold
  slow : t.cfg.ltc.slowThreshold = s.cfg.ltc.slowThreshold
  op : t.vsc.op = s.vsc.op
  braking : t.trc.braking = s.trc.braking
  applied : t.trc.applied = s.trc.applied
  steer : t.stc.steer = s.stc.steer
  hazard : t.ltc.hazard.isSome = s.ltc.hazard.isSome
  overlay : ∀ c : Chan, (t.chan c).overlay.still = (s.chan c).overlay.still

theorem SameOverlays.refl (s : State) : SameOverlays s s :=
  ⟨fun _ => rfl, rfl, rfl, rfl, rfl, rfl, rfl, rfl, fun _ => rfl⟩

theorem SameOverlays.trans {s t u : State} (h : SameOverlays s t) (k : SameOverlays t u) : SameOverlays s u :=
  ⟨fun c => (k.fn c).trans (h.fn c), k.turn.trans h.turn, k.slow.trans h.slow, k.op.trans h.op,
    k.braking.trans h.braking, k.applied.trans h.applied, k.steer.trans h.steer, k.hazard.trans h.hazard,
    fun c => (k.overlay c).trans (h.overlay c)⟩

/-- Where the four blocks and the settings are kept. -/
theorem SameOverlays.of_eq {s t : State} (hcfg : t.cfg = s.cfg) (hop : t.vsc.op = s.vsc.op)
    (htrc : t.trc.braking = s.trc.braking ∧ t.trc.applied = s.trc.applied) (hsteer : t.stc.steer = s.stc.steer)
    (hltc : t.ltc = s.ltc) : SameOverlays s t :=
  ⟨fun _ => by rw [hcfg], by rw [hcfg], by rw [hcfg], hop, htrc.1, htrc.2, hsteer, by rw [hltc], fun _ => by
    rw [State.chan, hltc]; rfl⟩

theorem SameOverlays.overlayHolds {s t : State} (h : SameOverlays s t) (c : Chan) :
    overlayHolds t c ↔ overlayHolds s c := by
  simp only [Machine.overlayHolds, h.fn, h.turn, h.slow, h.op, h.braking, h.applied, h.steer]

theorem Overlay.still_eq_iff (o : Overlay) :
    (o.still = .hazard ↔ o = .hazard) ∧ (o.still = .blink 0 ↔ ∃ phase, o = .blink phase) ∧
      (o.still = .idle ↔ o = .idle) ∧ (o.still = .on ↔ o = .on) := by
  cases o <;> simp [Overlay.still]

/-- An overlay stays right where what it is tested on and its kind stay. -/
theorem OverlayOkAt.of_same {s t : State} {c : Chan} (h : OverlayOkAt s c)
    (hholds : Machine.overlayHolds t c ↔ Machine.overlayHolds s c)
    (hfn : t.cfg.ltc.chan[c].overlay = s.cfg.ltc.chan[c].overlay) (hhazard : t.ltc.hazard.isSome = s.ltc.hazard.isSome)
    (ho : (t.chan c).overlay.still = (s.chan c).overlay.still) : OverlayOkAt t c := by
  have hnone : t.ltc.hazard = none ↔ s.ltc.hazard = none := by
    rw [← Option.not_isSome_iff_eq_none, ← Option.not_isSome_iff_eq_none, hhazard]
  obtain ⟨h1, h2, h3, h4⟩ := (t.chan c).overlay.still_eq_iff
  obtain ⟨k1, k2, k3, k4⟩ := (s.chan c).overlay.still_eq_iff
  unfold OverlayOkAt at h ⊢
  rw [hholds, hfn, hhazard, hnone, ← h1, ← h2, ← h3, ← h4, ho, k1, k2, k3, k4]
  exact h

theorem OverlaysRight.of_same {s t : State} (h : OverlaysRight s) (hs : SameOverlays s t) : OverlaysRight t := ⟨fun c =>
  OverlayOkAt.of_same (h.ok c) (hs.overlayHolds c) (hs.fn c) hs.hazard (hs.overlay c)⟩

/-! ## Channels -/

section
variable {s t : State}

/-- A channel's change that keeps its overlay's kind. -/
theorem SameOverlays.modChan (h : SameOverlays s t) (c : Chan) {f : Channel → Channel}
    (hf : ∀ ch, (f ch).overlay.still = ch.overlay.still) : SameOverlays s (t.modChan c f) :=
  h.trans
    { SameOverlays.refl t with
      overlay := fun d => by
        rw [State.chan_modChan]
        split
        · subst_vars
          exact hf _
        · rfl }

/-- A change of a unit's context. -/
theorem SameOverlays.modUnit (h : SameOverlays s t) (u : UnitNo) (f : UnitCtx → UnitCtx) :
    SameOverlays s (t.modUnit u f) := h.trans (.of_eq rfl rfl ⟨rfl, rfl⟩ rfl rfl)

theorem SameOverlays.formDesired (h : SameOverlays s t) (c : Chan) : SameOverlays s (formDesired c t) :=
  h.modChan c fun _ => rfl

theorem SameOverlays.endUnit (h : SameOverlays s t) (u : UnitNo) (cause : EndCause) (residual finalPos : Nat) :
    SameOverlays s (endUnit u cause residual finalPos t) :=
  h.trans (.of_eq (by simp) (by simp) (by simp) (by simp) (by simp))

theorem SameOverlays.handLight (h : SameOverlays s t) (c : Chan) (slot : Slot) :
    SameOverlays s (handLight c slot t) := by
  unfold Machine.handLight
  split
  · exact h.modChan c fun _ => rfl
  · exact h
  · exact h

theorem SameOverlays.endLightWith (h : SameOverlays s t) (c : Chan) (cause : EndCause) (residual : Nat) :
    SameOverlays s (endLightWith c cause residual t) :=
  ((h.endUnit _ cause residual _).modChan c (by intro ch; rfl)).formDesired c

theorem SameOverlays.lightStepDone (h : SameOverlays s t) (c : Chan) : SameOverlays s (lightStepDone c t) := by
  unfold Machine.lightStepDone
  dsimp only
  split
  · exact (h.modUnit _ _).handLight c _
  · exact (h.modUnit _ _).endLightWith c _ _

theorem SameOverlays.lightStepFrame (h : SameOverlays s t) (c : Chan) : SameOverlays s (lightStepFrame c t) := by
  unfold Machine.lightStepFrame
  dsimp only
  split
  · split
    · exact ((h.modChan c (by intro ch; rfl)).modUnit _ _).lightStepDone c
    · exact (h.modChan c (by intro ch; rfl)).modUnit _ _
  · exact h

/-- R146: the blink phase advances. -/
theorem SameOverlays.blinkFrame (h : SameOverlays s t) (c : Chan) : SameOverlays s (blinkFrame c t) :=
  h.modChan c fun ch => by
    split
    · rename_i phase ho
      rw [ho]
      rfl
    all_goals rfl

theorem SameOverlays.channelFrame (h : SameOverlays s t) (c : Chan) : SameOverlays s (channelFrame t c) := by
  unfold Machine.channelFrame takeLevel
  exact (((h.blinkFrame c).lightStepFrame c).formDesired c).modChan c (by intro ch; rfl)

theorem SameOverlays.setManual (h : SameOverlays s t) (c : Chan) (level : Nat) : SameOverlays s (setManual c level t) := by
  unfold Machine.setManual
  dsimp only
  split
  · exact (h.modChan c (by intro ch; rfl)).formDesired c
  · exact h.modChan c (by intro ch; rfl)

theorem SameOverlays.startLight (h : SameOverlays s t) (c : Chan) (first : Slot) (slots : List Slot) (tag : Byte) :
    SameOverlays s (startLightUnit c first (startContext (unitOf c) first slots tag t)) := by
  have hcontext : SameOverlays s (startContext (unitOf c) first slots tag t) :=
    h.trans (.of_eq (by simp) (by simp) (by simp) (by simp) (by simp))
  exact ((hcontext.modChan c (by intro ch; rfl)).handLight c first).formDesired c

end

/-- R146: a light frame's part in LTC. -/
theorem sameOverlays_lightsFrame (s : State) : SameOverlays s (lightsFrame s) := by
  have hphase : SameOverlays s (s.modLtc fun l => { l with hazard := l.hazard.map fun phase => (phase + 1) % 100 }) :=
    { SameOverlays.refl s with hazard := by simp, overlay := fun _ => rfl }
  unfold lightsFrame
  exact foldl_preserves (P := SameOverlays s) (fun t c h => h.channelFrame c) allChans _ hphase

theorem sameOverlays_cutoffLights (s : State) : SameOverlays s (cutoffLights s) := by
  unfold cutoffLights
  refine foldl_preserves (P := SameOverlays s) (fun t c h => ?_) allChans s (.refl s)
  unfold haltLight
  split
  · exact h.endLightWith c _ _
  · exact h

theorem sameOverlays_cutLights (s : State) : SameOverlays s (cutLights s) :=
  { SameOverlays.refl s with overlay := fun c => by rw [chan_cutLights] }

/-! ## STC's record -/

theorem relaxTest_steer (s : State) : (relaxTest s).stc.steer = s.stc.steer := by
  unfold relaxTest
  split <;> rfl

theorem relaxTimeSet_steer (s : State) : (relaxTimeSet s).stc.steer = s.stc.steer := by
  unfold relaxTimeSet wake
  split <;> exact relaxTest_steer _

theorem steerMode_steer (m : SteerMode) (s : State) : (steerMode m s).stc.steer = s.stc.steer := by
  unfold steerMode
  split <;> rfl

theorem steerFrame_steer (s : State) : (steerFrame s).stc.steer = s.stc.steer := by
  unfold steerFrame
  dsimp only [State.modStc_stc]
  repeat' split
  all_goals rfl

theorem relaxExpiry_steer (s : State) : (relaxExpiry s).stc.steer = s.stc.steer := by
  obtain h | ⟨-, -, -, h⟩ := relaxExpiry_cases s <;> rw [h]
  rfl

/-- R20: further causes keep the operating state. -/
theorem addCauses_op (added : List TripCause) (s : State) : (addCauses added s).vsc.op = s.vsc.op := by
  unfold addCauses
  split <;> simp

/-! ## The winch -/

theorem sameOverlays_winchEnd (cause : EndCause) (s : State) : SameOverlays s (winchEnd cause s) :=
  .of_eq (by simp) (by simp) (by simp [winchEnd, winchIdle, setWinchDuty, assistOff, assistEnd]) (by simp) (by simp)

theorem sameOverlays_haltWinch (cause : EndCause) (s : State) : SameOverlays s (haltWinch cause s) := by
  obtain ⟨-, -, ht⟩ | ⟨-, -, ht⟩ | ⟨-, ht⟩ := haltWinch_cases cause s <;> rw [ht]
  · exact sameOverlays_winchEnd cause s
  · exact .of_eq rfl rfl ⟨rfl, rfl⟩ rfl rfl
  · exact .refl s

theorem sameOverlays_winchKill (cause : EndCause) (s : State) : SameOverlays s (winchKill cause s) := by
  obtain ⟨-, ht⟩ | ⟨-, ht⟩ := winchKill_cases cause s <;> rw [ht]
  · exact sameOverlays_winchEnd cause s
  · exact .refl s

theorem WinchMoves.sameOverlays {s t : State} (h : WinchMoves s t) : SameOverlays s t :=
  .of_eq h.cfg (by rw [h.vsc]) ⟨(congrArg Trc.braking h.trc :), h.axle⟩ (by rw [h.stc]) h.ltc

/-! ## Entries and cuts -/

theorem overlaysRight_cutAxles (capFront capRear : Nat) (why : Limiter) {s : State} (h : OverlaysRight s) :
    OverlaysRight (cutAxles capFront capRear why s) := by
  unfold cutAxles
  split
  · exact overlaysRight_overlayTests _
  · exact h

theorem overlaysRight_supplyCut {s : State} (h : OverlaysRight s) : OverlaysRight (supplyCut s) := by
  unfold supplyCut
  dsimp only
  refine overlaysRight_cutAxles _ _ _ (h.of_same (SameOverlays.trans ?_ (sameOverlays_cutLights _)))
  have hnotice : SameOverlays s (stageNotice s.sup.stage (s.modSup fun _ => supNext s)) :=
    .of_eq (by simp) (by simp) (by simp) (by simp) (by simp)
  have hwinch (t : State) : SameOverlays t (cutWinch t) := .of_eq (by simp) (by simp) (by simp) (by simp) (by simp)
  split
  · exact (hnotice.trans (sameOverlays_cutoffLights _)).trans (hwinch _)
  · exact hnotice.trans (hwinch _)

theorem overlaysRight_assistCut {s : State} (h : OverlaysRight s) : OverlaysRight (assistCut s) := by
  unfold assistCut
  split
  · split
    · split
      · exact overlaysRight_cutAxles _ _ _ (h.of_same (.of_eq rfl rfl ⟨rfl, rfl⟩ rfl rfl))
      · exact h.of_same (.of_eq rfl rfl ⟨rfl, rfl⟩ rfl rfl)
    · exact h
  · exact h

/-! ## Settings -/

/-- R145: a SET of OVERLAY tests that channel; the others keep what they are tested on. -/
theorem overlaysRight_overlaySet {s : State} (h : OverlaysRight s) (c : Chan) (v : Nat) :
    OverlaysRight (overlayTest c (s.modCfg fun cfg => cfg.put (.chan .overlay c) v)) := by
  refine ⟨fun d => ?_⟩
  by_cases hd : d = c
  · subst hd
    refine overlayOkAt_of_next (s := s.modCfg fun cfg => cfg.put (.chan .overlay d) v) Iff.rfl rfl rfl ?_
    rw [overlayTest, State.chan_modChan_self, overlayChannel_overlay]
  · have hchan : (s.cfg.put (.chan .overlay c) v).ltc.chan[d] = s.cfg.ltc.chan[d] := by
      simp only [Settings.put]
      rw [Fin.getElem_fin, Vector.getElem_set_ne _ _ fun hv => hd (Fin.ext hv.symm)]
      rfl
    refine OverlayOkAt.of_same (h.ok d) ?_ ?_ rfl ?_
    · simp only [overlayHolds, overlayTest_frame, State.modCfg_cfg, hchan]
      rfl
    · simp only [overlayTest_frame, State.modCfg_cfg, hchan]
    · rw [overlayTest, State.chan_modChan_ne _ _ hd]
      rfl

/-- R145: a SET of any other setting that changes no threshold of the lights. -/
theorem sameOverlays_put (s : State) {k : Key} (hturn : k ≠ .plain .turnThreshold) (hslow : k ≠ .plain .slowThreshold)
    (hoverlay : ∀ c, k ≠ .chan .overlay c) (v : Nat) : SameOverlays s (s.modCfg fun c => c.put k v) := by
  have hltc : ∀ p, p ≠ .turnThreshold → p ≠ .slowThreshold → (s.cfg.putPlain p v).ltc = s.cfg.ltc := fun p ht hs => by
    cases p with
    | turnThreshold => contradiction
    | slowThreshold => contradiction
    | _ => rfl
  cases k with
  | plain p =>
    have hkept := hltc p (by simpa using hturn) (by simpa using hslow)
    exact { SameOverlays.refl s with
      fn := fun c => by rw [State.modCfg_cfg, Settings.put, hkept]
      turn := by rw [State.modCfg_cfg, Settings.put, hkept]
      slow := by rw [State.modCfg_cfg, Settings.put, hkept]
      overlay := fun _ => rfl }
  | axle a x => exact { SameOverlays.refl s with overlay := fun _ => rfl }
  | chan j c =>
    refine { SameOverlays.refl s with fn := fun d => ?_, turn := rfl, slow := rfl, overlay := fun _ => rfl }
    simp only [State.modCfg_cfg, Settings.put]
    by_cases hd : d = c
    · subst hd
      rw [Fin.getElem_fin, Vector.getElem_set_self]
      cases j with
      | overlay => exact absurd rfl (hoverlay d)
      | _ => rfl
    · rw [Fin.getElem_fin, Vector.getElem_set_ne _ _ fun hv => hd (Fin.ext hv.symm)]
      rfl

/-- R178: a SET keeps the overlays right. -/
theorem overlaysRight_storeSetting (k : Key) (v : Nat) {s : State} (h : OverlaysRight s) : OverlaysRight (storeSetting k v s) := by
  have hstill (hturn : k ≠ .plain .turnThreshold) (hslow : k ≠ .plain .slowThreshold)
      (hoverlay : ∀ c, k ≠ .chan .overlay c) := h.of_same (sameOverlays_put s hturn hslow hoverlay v)
  unfold storeSetting
  split
  · exact h
  · cases k with
    | plain p =>
      cases p with
      | turnThreshold => exact overlaysRight_overlayTests _
      | slowThreshold => exact overlaysRight_overlayTests _
      | cellCount => exact (hstill (by simp) (by simp) (by simp)).of_same (.of_eq rfl rfl ⟨rfl, rfl⟩ rfl rfl)
      | lineMax => exact (hstill (by simp) (by simp) (by simp)).of_same (.of_eq rfl rfl ⟨rfl, rfl⟩ rfl rfl)
      | relaxTime =>
        refine (hstill (by simp) (by simp) (by simp)).of_same (.of_eq ?_ ?_ ?_ (relaxTimeSet_steer _) ?_) <;>
          simp [settingChanged, plainChanged]
      | centreBand =>
        refine (hstill (by simp) (by simp) (by simp)).of_same (.of_eq ?_ ?_ ?_ (relaxTest_steer _) ?_) <;>
          simp [settingChanged, plainChanged]
      | _ => exact hstill (by simp) (by simp) (by simp)
    | axle a x =>
      have hput := hstill (by simp) (by simp) (by simp)
      cases a with
      | reverse => exact hput
      | _ => exact hput.of_same (.of_eq rfl rfl ⟨rfl, rfl⟩ rfl rfl)
    | chan j c =>
      cases j with
      | overlay => exact overlaysRight_overlaySet h c v
      | cls => exact hstill (by simp) (by simp) (by simp)
      | rated => exact (hstill (by simp) (by simp) (by simp)).of_same ((SameOverlays.refl _).formDesired c)
      | overlayLevel => exact (hstill (by simp) (by simp) (by simp)).of_same ((SameOverlays.refl _).formDesired c)

/-! ## The parts of an act -/

/-- R144, R1: after a reset every overlay is IDLE and no condition holds. -/
theorem overlaysRight_resetTo (cfg : Settings) (store : Vector StepRec 128) (fns : Vector LineFn 4) (position : Nat)
    (old : OpState) (s : State) : OverlaysRight (resetTo cfg store fns position old s) := by
  refine ⟨fun c => ?_⟩
  have hholds : ¬ overlayHolds (resetTo cfg store fns position old s) c := by
    simp [overlayHolds, resetTo, Vsc.atReset]
  have hidle : ((resetTo cfg store fns position old s).chan c).overlay = .idle := by
    simp [resetTo, State.chan, Ltc.atReset, Channel.atReset]
  have hhazard : (resetTo cfg store fns position old s).ltc.hazard = none := rfl
  simp [OverlayOkAt, hholds, hidle, hhazard]

/-- Every part of an act keeps the overlays right. -/
theorem steady_overlaysRight : Steady OverlaysRight := by
  have htested (t : State) : OverlaysRight (hazardStop t) ∧ OverlaysRight (hazardStart t) :=
    ⟨overlaysRight_overlayTests _, overlaysRight_overlayTests _⟩
  refine SteadyParts.steady ?_ (fun s c _ h => h.of_same ?_) (fun s h => overlaysRight_supplyCut h)
    (fun s h => h.of_same (.of_eq rfl rfl ⟨rfl, rfl⟩ rfl rfl)) (fun s h => overlaysRight_assistCut h)
  swap
  · exact .of_eq (by simp) (by simp) (by simp) (by simp) (by simp)
  exact
    { link := fun s f h => h.of_same (.of_eq rfl rfl ⟨rfl, rfl⟩ rfl rfl)
      choice := fun s h => h.of_same (.of_eq rfl rfl ⟨rfl, rfl⟩ rfl rfl)
      fresh := fun s => overlaysRight_resetTo _ _ _ _ _ s
      kept := fun s _ => overlaysRight_resetTo _ _ _ _ _ s
      set := fun s k w v _ h => overlaysRight_storeSetting k v h
      arm := fun s _ _ _ => overlaysRight_overlayTests _
      shutdown := fun origin cause s _ _ _ => (htested _).1.of_same (sameOverlays_haltWinch _ _)
      expires := fun s _ _ => (htested _).1.of_same (sameOverlays_haltWinch _ _)
      parks := fun s _ _ _ => (htested _).1
      forces := fun s _ _ => (htested _).1
      leaves := fun s _ _ => (htested _).1
      failsafe := fun s _ _ => (htested _).2.of_same (sameOverlays_haltWinch _ _)
      trips := fun added first s _ _ => (htested _).2.of_same (sameOverlays_winchKill _ _)
      adds := fun added s hop h => h.of_same (.of_eq (by simp) (addCauses_op added s) (by simp) (by simp) (by simp))
      comparator := fun s c h => h.of_same (.of_eq rfl rfl ⟨rfl, rfl⟩ rfl rfl)
      drive := fun throttle steer dig s _ _ _ => overlaysRight_overlayTests _
      steerMode := fun m s h => h.of_same (.of_eq (by simp) (by simp) (by simp) (steerMode_steer m s) (by simp))
      setManual := fun c level s h => h.of_same ((SameOverlays.refl s).setManual c level)
      writeSteps := fun first records s h => h.of_same (.of_eq (by simp) (by simp) (by simp) (by simp) (by simp))
      startsWinch := fun first slots tag s _ _ _ _ h =>
        h.of_same (.of_eq (by simp) (by simp) (by simp) (by simp) (by simp))
      startsLight := fun c first slots tag s _ _ _ h => h.of_same ((SameOverlays.refl s).startLight c first slots tag)
      takesStatus := fun u s h => h.of_same (.of_eq (by simp) (by simp) (by simp) (by simp) (by simp))
      haltsWinch := fun s _ h => h.of_same (sameOverlays_haltWinch _ s)
      haltsLight := fun c s _ h => h.of_same
        (SameOverlays.endLightWith (s := s) (t := s.nextChoice) (.of_eq rfl rfl ⟨rfl, rfl⟩ rfl rfl) c _ _)
      lineSet := fun p s _ h => h.of_same (.of_eq rfl rfl ⟨rfl, rfl⟩ rfl rfl)
      assignLine := fun i fn s _ _ h => h.of_same (.of_eq (by simp) (by simp) (by simp) (by simp) (by simp))
      fetch := fun n rest s _ h => h.of_same (.of_eq (by simp) (by simp) (by simp) (by simp) (by simp))
      unstack := fun u s h => h.of_same (.of_eq rfl rfl ⟨rfl, rfl⟩ rfl rfl)
      convert := fun s c k codes _ _ _ h => h.of_same (.of_eq rfl rfl ⟨rfl, rfl⟩ rfl rfl)
      trigger := fun b s h => h.of_same (.of_eq (by simp) (by simp) (by simp) (by simp) (by simp))
      watch := fun s h => h.of_same (.of_eq (by simp) (by simp) (by simp) (by simp) (by simp))
      driveFrame := fun s _ _ => overlaysRight_overlayTests _
      servoFrame := fun s h => h.of_same (.of_eq rfl rfl ⟨rfl, rfl⟩ (steerFrame_steer s) rfl)
      relax := fun s h => h.of_same (.of_eq (by simp) (by simp) (by simp) (relaxExpiry_steer s) (by simp))
      arrives := fun s h => h.of_same (.of_eq rfl rfl ⟨rfl, rfl⟩ rfl rfl)
      lights := fun s h => h.of_same (sameOverlays_lightsFrame s)
      samples := fun pins s h => h.of_same (.of_eq (by simp) (by simp) (by simp) (by simp) (by simp))
      general := fun i s h => h.of_same (.of_eq (by simp) (by simp) (by simp) (by simp) (by simp))
      moves := fun s t hm _ h => h.of_same hm.sameOverlays
      ends := fun cause s t hm _ h => h.of_same (hm.sameOverlays.trans (sameOverlays_winchEnd cause t)) }

/-- Settles O51: every part of an act keeps the overlays right, or ends with their tests. -/
theorem overlaysMatchConditions : Obligations.OverlaysMatchConditions := fun _ s t hs h =>
  (overlaysRight_iff t).mp (steady_overlaysRight.exec ((overlaysRight_iff s).mpr hs) h)

end Sys2Proof.Machine

/-! Grants make up the ceiling and exceed no demand, and no consumer lies above its cap (03 section 3.6, 03 section 3.8,
04 section 4.9, 07 section 7.5, 08 section 8.6). -/

namespace Sys2Proof.Machine

/-! ## Shares (03 R57) -/

/-- R57: a member is granted at most its demand. -/
theorem ClassShare.grant_le (k : ClassShare) (demand : Nat) : k.grant demand ≤ demand := by
  unfold ClassShare.grant ClassShare.full
  split
  · exact le_rfl
  · rename_i h
    have hless : k.residual ≤ k.total := by simp at h; omega
    exact Nat.div_le_of_le_mul (Nat.mul_le_mul_right demand hless)

/-- R57: the members of a class are granted at most what is left for it. -/
theorem ClassShare.sum_grant_le (k : ClassShare) (l : List Nat) (h : l.sum = k.total) :
    (l.map k.grant).sum ≤ k.residual := by
  unfold ClassShare.grant ClassShare.full
  split
  · rename_i hfull
    rw [List.map_id', h]
    simpa using hfull
  · rename_i hpart
    have hpos : 0 < k.total := by simp at hpart; omega
    have hsum : (l.map fun d => k.residual * d / k.total).sum * k.total ≤ k.residual * l.sum := by
      clear h
      induction l with
      | nil => simp
      | cons d l ih =>
        simp only [List.map_cons, List.sum_cons, Nat.add_mul, Nat.mul_add]
        exact Nat.add_le_add (Nat.div_mul_le_self _ _) ih
    rw [h] at hsum
    exact Nat.le_of_mul_le_mul_right hsum hpos

/-- A sum over channels is that over its two classes. -/
theorem sum_filter_classes (cls : Chan → LightClass) (f : Chan → Nat) (l : List Chan) :
    (l.map f).sum = ((l.filter fun i => decide (cls i = .essential)).map f).sum +
      ((l.filter fun i => decide (cls i = .decorative)).map f).sum := by
  induction l with
  | nil => rfl
  | cons c l ih =>
    cases hc : cls c <;> simp [hc, ih] <;> omega

theorem sum_classes (cfg : LtcCfg) (f : Chan → Nat) :
    (allChans.map f).sum =
      sumChans (classChans cfg .essential) f + sumChans (classChans cfg .decorative) f :=
  sum_filter_classes (fun i => cfg.chan[i].cls) f allChans

/-- R57: the grants of a class's channels lie within its residual. -/
theorem sumChans_grant_le (k : ClassShare) (l : List Chan) (demand : Vector Nat 10)
    (h : sumChans l (fun i => demand[i]) = k.total) : sumChans l (fun i => k.grant demand[i]) ≤ k.residual := by
  have hle := k.sum_grant_le (l.map fun i => demand[i]) h
  rwa [List.map_map] at hle

/-- R57: the channels of a class are granted by the class's share. -/
theorem sumChans_grantsOf (cfg : LtcCfg) (k : Shares) (demand : Consumers Nat) (cls : LightClass) :
    sumChans (classChans cfg cls) (fun i => (grantsOf cfg k demand).light[i]) =
      sumChans (classChans cfg cls) fun i => (k.light cls).grant demand.light[i] := by
  unfold sumChans
  congr 1
  refine List.map_congr_left fun i hi => ?_
  have hcls : cfg.chan[i].cls = cls := by simpa using (List.mem_filter.mp hi).2
  simp only [grantsOf, Fin.getElem_fin, Vector.getElem_ofFn]
  simp only [← Fin.getElem_fin, hcls]

/-- R57: the bridges' grants lie within class C's residual. -/
theorem bridge_grant_le (k : ClassShare) (demand : PerBridge Nat) (h : demand.total = k.total) :
    (PerBridge.of fun x => k.grant (demand.get x)).total ≤ k.residual := by
  have hle := k.sum_grant_le [demand.front, demand.rear, demand.winch] (by
    rw [← h]
    simp [PerBridge.total, Nat.add_assoc])
  simp only [List.map_cons, List.map_nil, List.sum_cons, List.sum_nil] at hle
  simp only [PerBridge.total, PerBridge.of, PerBridge.get]
  omega

/-- R57: the allocation of a completion. -/
theorem grantsOk_allocate (cfg : Settings) (stage : Stage) (r : ScanResults) (demand : Consumers Nat)
    (old : Allocation) : GrantsOk (allocate cfg stage r demand old) := by
  let ceiling := ceilingNext (rawCeilingOf (stageBase cfg.sup.packLimit stage) (sagFactor cfg.sup.sagFloor r.minRaw)) old.ceiling
  let k := shareOut cfg.ltc ceiling demand
  have hsum : (grantsOf cfg.ltc k demand).light.toList.sum =
      sumChans (classChans cfg.ltc .essential) (fun i => k.b.grant demand.light[i]) +
      sumChans (classChans cfg.ltc .decorative) (fun i => k.d.grant demand.light[i]) := by
    have hclasses := sum_classes cfg.ltc fun i => (grantsOf cfg.ltc k demand).light[i]
    rw [sumChans_grantsOf, sumChans_grantsOf] at hclasses
    exact hclasses
  have ha := k.a.grant_le demand.servo
  have ha' := k.a.sum_grant_le [demand.servo] (by simp [k, shareOut])
  have hb := sumChans_grant_le k.b (classChans cfg.ltc .essential) demand.light rfl
  have hc := bridge_grant_le k.c demand.bridge rfl
  have hd := sumChans_grant_le k.d (classChans cfg.ltc .decorative) demand.light rfl
  refine ⟨?_, ha, fun c => ?_, fun b => ?_⟩
  · have hshares : k.a.residual = ceiling ∧ k.b.residual = ceiling - k.a.grant demand.servo ∧
        k.c.residual = k.b.residual - sumChans (classChans cfg.ltc .essential) (fun i => k.b.grant demand.light[i]) ∧
        k.d.residual = k.c.residual - (PerBridge.of fun x => k.c.grant (demand.bridge.get x)).total ∧
        k.unassigned = k.d.residual - sumChans (classChans cfg.ltc .decorative) (fun i => k.d.grant demand.light[i]) :=
      ⟨rfl, rfl, rfl, rfl, rfl⟩
    obtain ⟨hceiling, hrb, hrc, hrd, hru⟩ := hshares
    have hra : k.a.grant demand.servo ≤ k.a.residual := by simpa using ha'
    change k.a.grant demand.servo + (grantsOf cfg.ltc k demand).light.toList.sum +
      (PerBridge.of fun x => k.c.grant (demand.bridge.get x)).total + k.unassigned = ceiling
    omega
  · simp only [allocate, grantsOf, Fin.getElem_fin, Vector.getElem_ofFn]
    exact ClassShare.grant_le _ _
  · cases b <;> exact ClassShare.grant_le _ _

/-- Three changes in any order: the one that establishes a property stands among two that keep what it needs and what it
gives. -/
theorem runOrder_reaches {P Q : State → Prop} {a b c : State → State} (ha : ∀ s, P s → Q (a s))
    (hb : ∀ s, P s → P (b s)) (hb' : ∀ s, Q s → Q (b s)) (hc : ∀ s, P s → P (c s)) (hc' : ∀ s, Q s → Q (c s))
    (o : Order3) (s : State) (h : P s) : Q (runOrder o a b c s) := by
  cases o with
  | abc => exact hc' _ (hb' _ (ha _ h))
  | acb => exact hb' _ (hc' _ (ha _ h))
  | bac => exact hc' _ (ha _ (hb _ h))
  | bca => exact ha _ (hc _ (hb _ h))
  | cab => exact hb' _ (ha _ (hc _ h))
  | cba => exact ha _ (hb _ (hc _ h))

/-- R44: SUP's record after its part of a completion. -/
theorem supplyCompletion_sup (s : State) : (supplyCompletion s).sup = supNext s := by
  simp only [supplyCompletion, cutConsumers_frame]
  split <;> simp

/-- R44: SUP's record after a completion. -/
theorem completeScan_sup (c : Scan) (s : State) : ∃ u, (completeScan c s).sup = supNext u := by
  unfold completeScan completionEvent
  refine runOrder_reaches (P := fun _ => True) (Q := fun t => ∃ u, t.sup = supNext u)
    (fun t _ => ⟨t, ?_⟩) (fun _ _ => trivial) (fun t h => ?_) (fun _ _ => trivial) (fun t h => ?_) _ _ trivial
  · simp [supplyAndVehicle, supplyCompletion_sup]
  · simpa using h
  · simpa using h

/-- R57: no act but a reset and a completion makes an allocation. -/
theorem acts_sup {s t : State} (h : Acts s t) :
    t.sup = s.sup ∨ (∃ cfg, t.sup = Sup.atReset cfg) ∨ ∃ u, t.sup = supNext u := by
  cases h with
  | fullReset => exact .inr (.inl ⟨Settings.default.ltc, by simp [fullReset, resetTo]⟩)
  | softReset => exact .inr (.inl ⟨s.cfg.ltc, by simp [softReset, resetTo]⟩)
  | completeScan c => exact .inr (.inr (completeScan_sup c s))
  | _ => exact .inl (by simp)

/-- R41: with no allocation made nothing is granted. -/
theorem grantsOk_atReset (cfg : LtcCfg) : GrantsOk (Sup.atReset cfg).alloc := by
  refine ⟨rfl, le_rfl, fun c => ?_, fun b => ?_⟩
  · exact le_rfl
  · cases b <;> exact le_rfl

/-- R57: every act keeps the sums of the grants. -/
theorem grantsOk_of_acts {s t : State} (h : Acts s t) (hs : GrantsOk s.sup.alloc) : GrantsOk t.sup.alloc := by
  obtain h | ⟨cfg, h⟩ | ⟨u, h⟩ := acts_sup h <;> rw [h]
  · exact hs
  · exact grantsOk_atReset cfg
  · exact grantsOk_allocate _ _ _ _ _

/-! ## What lies within the caps -/

/-- R63, R85: no consumer lies above its cap, with what ties the axles to the assist cap (`within`) and what is known of
the duty caps (`bound`) left open: a completion takes the assist cap and the duty caps forward in turn. -/
structure CapsWith (within : Nat → Nat → Prop) (bound : PerBridge Nat → Prop) (s : State) : Prop where
  axle : ∀ x, (s.trc.applied.get x).natAbs ≤ s.sup.alloc.dutyCap.get x.bridge
  assist : ∀ cap, s.trc.assist = some cap → ∀ x, within cap (s.trc.applied.get x).natAbs
  winch : s.wch.applied ≤ s.sup.alloc.dutyCap.winch
  light : ∀ c : Chan, (s.chan c).applied ≤ s.lightCap c
  bound : bound s.sup.alloc.dutyCap

theorem capsOk_iff (s : State) : CapsOk s ↔ CapsWith (fun cap a => a ≤ cap) (fun _ => True) s :=
  ⟨fun h => ⟨h.axle, h.assist, h.winch, h.light, trivial⟩, fun h => ⟨h.axle, h.assist, h.winch, h.light⟩⟩

/-- What ties an axle to the assist cap holds below the cap, and of a smaller duty. -/
structure Within (within : Nat → Nat → Prop) : Prop where
  below : ∀ cap a, a ≤ cap → within cap a
  smaller : ∀ cap a b, within cap a → b ≤ a → within cap b

section
variable {within : Nat → Nat → Prop} {bound : PerBridge Nat → Prop} {s : State}

/-! ## Frames -/

/-- An operation that keeps the duties, the applied levels, the assist cap and SUP's record. -/
theorem CapsWith.of_eq {t : State} (h : CapsWith within bound s) (happlied : t.trc.applied = s.trc.applied)
    (hassist : t.trc.assist = s.trc.assist) (hwinch : t.wch.applied = s.wch.applied)
    (hlight : ∀ c : Chan, (t.chan c).applied = (s.chan c).applied) (hsup : t.sup = s.sup) :
    CapsWith within bound t where
  axle := by rw [happlied, hsup]; exact h.axle
  assist := by rw [happlied, hassist]; exact h.assist
  winch := by rw [hwinch, hsup]; exact h.winch
  light := fun c => by rw [hlight, State.lightCap, hsup]; exact h.light c
  bound := by rw [hsup]; exact h.bound

/-- An operation that keeps TRC, WCH, LTC and SUP. -/
theorem CapsWith.frame {t : State} (h : CapsWith within bound s) (htrc : t.trc = s.trc) (hwch : t.wch = s.wch)
    (hltc : t.ltc = s.ltc) (hsup : t.sup = s.sup) : CapsWith within bound t :=
  h.of_eq (by rw [htrc]) (by rw [htrc]) (by rw [hwch]) (fun c => by rw [State.chan, hltc]; rfl) hsup

/-- A change of TRC that keeps the duties and the assist cap. -/
theorem CapsWith.modTrc (h : CapsWith within bound s) {f : Trc → Trc} (happlied : (f s.trc).applied = s.trc.applied)
    (hassist : (f s.trc).assist = s.trc.assist) : CapsWith within bound (s.modTrc f) :=
  h.of_eq happlied hassist rfl (fun _ => rfl) rfl

/-- R81, R83, R84: both axles are set to 0. -/
theorem CapsWith.stop (hw : Within within) (h : CapsWith within bound s) {f : Trc → Trc}
    (happlied : (f s.trc).applied = .both 0) : CapsWith within bound (s.modTrc f) where
  axle := fun x => by rw [State.modTrc_trc, happlied]; simp
  assist := fun cap _ x => by
    rw [State.modTrc_trc, happlied]
    exact hw.below _ _ (by simp)
  winch := h.winch
  light := h.light
  bound := h.bound

/-- A change of one channel that keeps its applied level within its caps. -/
theorem CapsWith.modChan (h : CapsWith within bound s) (c : Chan) {f : Channel → Channel}
    (hf : ∀ ch, ch.applied ≤ s.lightCap c → (f ch).applied ≤ s.lightCap c) : CapsWith within bound (s.modChan c f) :=
  { h with
    light := fun d => by
      rw [State.chan_modChan]
      split
      · subst_vars
        exact hf _ (h.light _)
      · exact h.light d }

/-! ## Lights -/

theorem CapsWith.formDesired (c : Chan) (h : CapsWith within bound s) : CapsWith within bound (formDesired c s) :=
  h.modChan c fun _ hch => hch

theorem CapsWith.endUnit (u : UnitNo) (cause : EndCause) (residual finalPos : Nat) (h : CapsWith within bound s) :
    CapsWith within bound (endUnit u cause residual finalPos s) := h.frame (by simp) (by simp) (by simp) (by simp)

theorem CapsWith.handLight (c : Chan) (slot : Slot) (h : CapsWith within bound s) :
    CapsWith within bound (handLight c slot s) := by
  unfold Machine.handLight
  split
  · exact h.modChan c fun _ hch => hch
  · exact h
  · exact h

theorem CapsWith.endLightWith (c : Chan) (cause : EndCause) (residual : Nat) (h : CapsWith within bound s) :
    CapsWith within bound (endLightWith c cause residual s) :=
  ((h.endUnit _ cause residual _).modChan c (by intro ch hch; exact hch)).formDesired c

theorem CapsWith.modUnit (u : UnitNo) (f : UnitCtx → UnitCtx) (h : CapsWith within bound s) :
    CapsWith within bound (s.modUnit u f) := h.frame rfl rfl rfl rfl

theorem CapsWith.lightStepDone (c : Chan) (h : CapsWith within bound s) :
    CapsWith within bound (lightStepDone c s) := by
  unfold Machine.lightStepDone
  dsimp only
  split
  · exact (h.modUnit _ _).handLight c _
  · exact (h.modUnit _ _).endLightWith c _ _

theorem CapsWith.lightStepFrame (c : Chan) (h : CapsWith within bound s) :
    CapsWith within bound (lightStepFrame c s) := by
  unfold Machine.lightStepFrame
  dsimp only
  split
  · split
    · exact ((h.modChan c (by intro ch hch; exact hch)).modUnit _ _).lightStepDone c
    · exact (h.modChan c (by intro ch hch; exact hch)).modUnit _ _
  · exact h

theorem CapsWith.blinkFrame (c : Chan) (h : CapsWith within bound s) : CapsWith within bound (blinkFrame c s) :=
  h.modChan c fun ch hch => by split <;> exact hch

/-- R146: one channel at a light frame. -/
theorem CapsWith.channelFrame (c : Chan) (h : CapsWith within bound s) : CapsWith within bound (channelFrame s c) := by
  unfold Machine.channelFrame takeLevel
  exact ((((h.blinkFrame c).lightStepFrame c).formDesired c)).modChan c fun _ _ => min_le_right _ _

/-- R146: a light frame. -/
theorem CapsWith.lightsFrame (h : CapsWith within bound s) : CapsWith within bound (lightsFrame s) := by
  have hphase : CapsWith within bound
      (s.modLtc fun l => { l with hazard := l.hazard.map fun phase => (phase + 1) % 100 }) :=
    h.of_eq rfl rfl rfl (fun _ => rfl) rfl
  unfold Machine.lightsFrame
  exact foldl_preserves (P := CapsWith within bound) (fun t c h => h.channelFrame c) allChans _ hphase

theorem CapsWith.overlayTests (h : CapsWith within bound s) : CapsWith within bound (overlayTests s) := by
  refine h.of_eq rfl rfl rfl (fun c => ?_) rfl
  rw [chan_overlayTests]
  unfold overlayChannel
  dsimp only
  split <;> rfl

theorem CapsWith.hazardStart (h : CapsWith within bound s) : CapsWith within bound (hazardStart s) :=
  CapsWith.overlayTests (h.of_eq rfl rfl rfl (fun _ => rfl) rfl)

theorem CapsWith.hazardStop (h : CapsWith within bound s) : CapsWith within bound (hazardStop s) :=
  CapsWith.overlayTests (h.of_eq rfl rfl rfl (fun _ => rfl) rfl)

theorem CapsWith.setManual (c : Chan) (level : Nat) (h : CapsWith within bound s) :
    CapsWith within bound (setManual c level s) := by
  unfold Machine.setManual
  dsimp only
  split
  · exact (h.modChan c (by intro ch hch; exact hch)).formDesired c
  · exact h.modChan c (by intro ch hch; exact hch)

theorem CapsWith.startLight (c : Chan) (first : Slot) (slots : List Slot) (tag : Byte) (h : CapsWith within bound s) :
    CapsWith within bound (startLightUnit c first (startContext (unitOf c) first slots tag s)) := by
  have hcontext : CapsWith within bound (startContext (unitOf c) first slots tag s) :=
    h.frame (by simp) (by simp) (by simp) (by simp)
  exact ((hcontext.modChan c (by intro ch hch; exact hch)).handLight c first).formDesired c

/-! ## Driving -/

theorem CapsWith.changeOp (new : OpState) (cause : OpCause) (h : CapsWith within bound s) :
    CapsWith within bound (changeOp new cause s) := h.frame (by simp) (by simp) (by simp) (by simp)

theorem CapsWith.publishDuties (h : CapsWith within bound s) : CapsWith within bound (publishDuties s) :=
  CapsWith.overlayTests (h.frame (by simp) (by simp) (by simp) (by simp))

/-- R75: an axle's limit lies within its duty cap and within an active assist cap. -/
theorem axleLimit_le (s : State) (x : Axle) : axleLimit s x ≤ s.sup.alloc.dutyCap.get x.bridge ∧
    ∀ cap, s.trc.assist = some cap → axleLimit s x ≤ cap := by
  unfold axleLimit
  split
  · rename_i cap hcap
    refine ⟨min_le_left _ _, fun cap' hcap' => ?_⟩
    obtain rfl : cap = cap' := by simpa [hcap] using hcap'
    exact min_le_right _ _
  · rename_i hnone
    exact ⟨le_rfl, fun cap hcap => by simp [hnone] at hcap⟩

/-- R73: a slewed axle lies within its limit. -/
theorem CapsWith.slewAxle (hw : Within within) (y : Axle) (h : CapsWith within bound s) :
    CapsWith within bound (slewAxle y s) := by
  obtain ⟨hcap, hassist⟩ := axleLimit_le s y
  refine { h with axle := fun x => ?_, assist := fun cap hactive x => ?_ }
  · simp only [Machine.slewAxle, State.modTrc_trc, PerAxle.get_put]
    split
    · subst_vars
      exact (limitTo_le _ _).trans hcap
    · exact h.axle x
  · simp only [Machine.slewAxle, State.modTrc_trc, PerAxle.get_put]
    split
    · exact hw.below _ _ ((limitTo_le _ _).trans (hassist cap hactive))
    · exact h.assist cap hactive x

/-- R73: a drive frame. -/
theorem CapsWith.driveFrame (hw : Within within) (h : CapsWith within bound s) : CapsWith within bound (driveFrame s) := by
  have htaken : CapsWith within bound (formTargets (takeRatio (takeDig s))) :=
    ((h.modTrc rfl rfl).modTrc rfl rfl).modTrc rfl rfl
  exact (((CapsWith.slewAxle hw .rear (CapsWith.slewAxle hw .front htaken)).modTrc rfl rfl).modTrc rfl rfl).publishDuties

/-- R79: a cut lowers a duty. -/
theorem natAbs_limitTo_le (cap : Nat) (d : Int) : (limitTo cap d).natAbs ≤ d.natAbs := by
  unfold limitTo
  split
  · exact le_rfl
  · split <;> omega

theorem CapsWith.cutAxle (hw : Within within) (y : Axle) (cap : Nat) (why : Limiter) (h : CapsWith within bound s) :
    CapsWith within bound (cutAxle y cap why s) := by
  have hassist : (Machine.cutAxle y cap why s).trc.assist = s.trc.assist := by
    unfold Machine.cutAxle
    split <;> rfl
  have hless (x : Axle) : ((Machine.cutAxle y cap why s).trc.applied.get x).natAbs ≤ (s.trc.applied.get x).natAbs := by
    rw [cutAxle_applied]
    split
    · subst_vars
      exact natAbs_limitTo_le _ _
    · exact le_rfl
  exact
    { axle := fun x => (hless x).trans (by simpa using h.axle x)
      assist := fun c hc x => hw.smaller _ _ _ (h.assist c (hassist ▸ hc) x) (hless x)
      winch := by simpa using h.winch
      light := fun c => by
        simp only [State.chan, State.lightCap, cutAxle_frame]
        exact h.light c
      bound := by simpa using h.bound }

theorem CapsWith.cutAxles (hw : Within within) (capFront capRear : Nat) (why : Limiter) (h : CapsWith within bound s) :
    CapsWith within bound (cutAxles capFront capRear why s) := by
  unfold Machine.cutAxles
  split
  · exact ((CapsWith.cutAxle hw .rear _ _ (CapsWith.cutAxle hw .front _ _ h)).modTrc rfl rfl).publishDuties
  · exact h

end

end Sys2Proof.Machine

/-! The parts of an act keep every consumer within its cap (03 section 3.8, 04 section 4.9). -/

namespace Sys2Proof.Machine

/-! ## The winch -/

/-- R140, R87: TRC's record after an ending of the winch program. -/
theorem winchEnd_trc (cause : EndCause) (s : State) : (winchEnd cause s).trc = { s.trc with assist := none } := by
  simp [winchEnd, winchIdle, setWinchDuty, assistOff, assistEnd]

/-- R85: an axle's duty is at most the larger one. -/
theorem le_largerDuty (s : State) (x : Axle) : (s.trc.applied.get x).natAbs ≤ largerDuty s := by
  cases x
  · exact le_max_left _ _
  · exact le_max_right _ _

section
variable {within : Nat → Nat → Prop} {bound : PerBridge Nat → Prop} {s : State}

theorem CapsWith.winchEnd (cause : EndCause) (h : CapsWith within bound s) : CapsWith within bound (winchEnd cause s) where
  axle := by
    rw [winchEnd_trc]
    simpa using h.axle
  assist := fun cap hcap => by
    rw [winchEnd_trc] at hcap
    contradiction
  winch := by
    rw [winchEnd_wch]
    exact Nat.zero_le _
  light := fun c => by
    simp only [State.chan, State.lightCap, winchEnd_frame]
    exact h.light c
  bound := by simpa using h.bound

theorem CapsWith.haltWinch (cause : EndCause) (h : CapsWith within bound s) :
    CapsWith within bound (haltWinch cause s) := by
  obtain ⟨-, -, ht⟩ | ⟨-, -, ht⟩ | ⟨-, ht⟩ := haltWinch_cases cause s <;> rw [ht]
  · exact h.winchEnd cause
  · exact h.modUnit _ _
  · exact h

theorem CapsWith.winchKill (cause : EndCause) (h : CapsWith within bound s) :
    CapsWith within bound (winchKill cause s) := by
  obtain ⟨-, ht⟩ | ⟨-, ht⟩ := winchKill_cases cause s <;> rw [ht]
  · exact h.winchEnd cause
  · exact h

/-- R133, R134: the winch at an event. -/
theorem CapsWith.moves (hw : Within within) {t : State} (hm : WinchMoves s t) (h : CapsWith within bound s) :
    CapsWith within bound t where
  axle := by
    rw [hm.axle, hm.sup]
    exact h.axle
  assist := fun cap hcap x => by
    rw [hm.axle]
    obtain hold | rfl := hm.assist cap hcap
    · exact h.assist cap hold x
    · exact hw.below _ _ (le_largerDuty s x)
  winch := by
    rw [hm.sup]
    obtain hd | hd := hm.applied
    · exact hd.trans_le h.winch
    · exact hd
  light := fun c => by
    simp only [State.chan, State.lightCap, hm.ltc, hm.sup]
    exact h.light c
  bound := by
    rw [hm.sup]
    exact h.bound

theorem CapsWith.parkClutch (h : CapsWith within bound s) : CapsWith within bound (parkClutch s) := by
  refine h.of_eq (by simp) (by simp) ?_ (fun c => by simp [State.chan]) (by simp)
  simp only [Machine.parkClutch, State.modWch_wch]
  split <;> rfl

theorem CapsWith.clutchArmed (h : CapsWith within bound s) : CapsWith within bound (clutchArmed s) := by
  refine h.of_eq (by simp) (by simp) ?_ (fun c => by simp [State.chan]) (by simp)
  unfold Machine.clutchArmed startClutch
  split
  · split <;> rfl
  · rfl

/-! ## Entries -/

theorem CapsWith.modVsc (f : Vsc → Vsc) (h : CapsWith within bound s) : CapsWith within bound (s.modVsc f) :=
  h.frame rfl rfl rfl rfl

theorem CapsWith.modStc (f : Stc → Stc) (h : CapsWith within bound s) : CapsWith within bound (s.modStc f) :=
  h.frame rfl rfl rfl rfl

theorem CapsWith.offer (o : Offer) (h : CapsWith within bound s) : CapsWith within bound (offer o s) :=
  h.frame (by simp) (by simp) (by simp) (by simp)

theorem CapsWith.scanWatch (h : CapsWith within bound s) : CapsWith within bound (scanWatch s) :=
  h.frame (by simp) (by simp) (by simp) (by simp)

theorem CapsWith.classifyTraction (h : CapsWith within bound s) : CapsWith within bound (classifyTraction s) :=
  h.modTrc rfl rfl

theorem CapsWith.chooseModes (h : CapsWith within bound s) : CapsWith within bound (chooseModes s) := h.modTrc rfl rfl

theorem CapsWith.formTargets (h : CapsWith within bound s) : CapsWith within bound (formTargets s) := h.modTrc rfl rfl

theorem CapsWith.takeDig (h : CapsWith within bound s) : CapsWith within bound (takeDig s) := h.modTrc rfl rfl

/-- R83: an entry to PARKED opens both axles. -/
theorem CapsWith.tractionParked (hw : Within within) (h : CapsWith within bound s) :
    CapsWith within bound (tractionParked s) := (h.stop hw rfl).publishDuties

/-- R84: so does the entry to TRIPPED. -/
theorem CapsWith.tractionTripped (hw : Within within) (h : CapsWith within bound s) :
    CapsWith within bound (tractionTripped s) := (h.stop hw rfl).publishDuties

/-- R14: so does a forced shutdown. -/
theorem CapsWith.tractionForced (hw : Within within) (h : CapsWith within bound s) :
    CapsWith within bound (tractionForced s) := (h.stop hw rfl).publishDuties

theorem CapsWith.tractionFailsafe (hw : Within within) (h : CapsWith within bound s) :
    CapsWith within bound (tractionFailsafe s) := (h.stop hw rfl).classifyTraction.publishDuties

theorem CapsWith.tractionShutdown (h : CapsWith within bound s) : CapsWith within bound (tractionShutdown s) := by
  have hheld : CapsWith within bound
      (s.modTrc fun t => { t with hold := .shutdown, throttle := 0, target := .both 0 }) := h.modTrc rfl rfl
  exact hheld.chooseModes.classifyTraction.publishDuties

theorem CapsWith.tractionArmed (h : CapsWith within bound s) : CapsWith within bound (tractionArmed s) := by
  have hheld : CapsWith within bound (s.modTrc fun t => { t with hold := .latch, throttle := 0 }) := h.modTrc rfl rfl
  exact hheld.takeDig.formTargets.chooseModes.classifyTraction.publishDuties

theorem CapsWith.enterParked (hw : Within within) (cause : OpCause) (h : CapsWith within bound s) :
    CapsWith within bound (enterParked cause s) := by
  have hstopped : CapsWith within bound (steerParked (Machine.scanWatch (Machine.changeOp .parked cause (s.modVsc fun v =>
      { v with latch := true, hold := none, grace := none, origin := .none })))) :=
    ((h.modVsc _).changeOp .parked cause).scanWatch.modStc _
  exact (hstopped.tractionParked hw).parkClutch.hazardStop

theorem CapsWith.enterArmed (h : CapsWith within bound s) : CapsWith within bound (enterArmed s) := by
  have hsteered : CapsWith within bound (steerArmed (scanContinuous (Machine.changeOp .armed .arm (s.modVsc fun v =>
      { v with expiryCount := 0, latch := true, hold := some s.cfg.vsc.holdTime })))) :=
    CapsWith.frame h (by simp) (by simp) (by simp) (by simp)
  exact hsteered.tractionArmed.clutchArmed.overlayTests

theorem CapsWith.shutdownAsked (origin : Origin) (cause : OpCause) (h : CapsWith within bound s) :
    CapsWith within bound (shutdownAsked origin cause s) := by
  have hsteered : CapsWith within bound (steerShutdown (Machine.changeOp .shuttingDown cause (s.modVsc fun v =>
      { v with origin := origin, hold := none, grace := some s.cfg.vsc.grace }))) :=
    CapsWith.modStc _ ((h.modVsc _).changeOp .shuttingDown cause)
  exact hsteered.tractionShutdown.hazardStop

theorem CapsWith.failsafeAsked (hw : Within within) (h : CapsWith within bound s) :
    CapsWith within bound (failsafeAsked s) := by
  have hsteered : CapsWith within bound (steerFailsafe (Machine.changeOp .failsafe .linkLost
      (Machine.offer (.failsafe 1 s.vsc.op)
        (s.modVsc fun v => { v with expiryCount := 1, hold := some s.cfg.vsc.holdTime })))) :=
    CapsWith.modStc _ (((h.modVsc _).offer _).changeOp .failsafe .linkLost)
  exact (hsteered.tractionFailsafe hw).hazardStart

theorem CapsWith.enterTripped (hw : Within within) (added : List TripCause) (first : TripCause)
    (h : CapsWith within bound s) : CapsWith within bound (enterTripped added first s) := by
  have hsteered : CapsWith within bound (steerTripped (Machine.changeOp .tripped .trip
      (Machine.offer (.tripEntered (s.vsc.causes.addAll added) first) (s.modVsc fun v =>
        { v with causes := v.causes.addAll added, firstCause := some first, hold := none, grace := none,
                 origin := .none })))) :=
    CapsWith.modStc _ (((h.modVsc _).offer _).changeOp .tripped .trip)
  exact ((hsteered.tractionTripped hw).hazardStart).winchKill .tripped

theorem CapsWith.forceShutdown (hw : Within within) (h : CapsWith within bound s) :
    CapsWith within bound (forceShutdown s) :=
  ((h.tractionForced hw).winchKill .forced).parkClutch.enterParked hw .shutdownForced

theorem CapsWith.driveTaken (throttle steer : Int) (dig : Dig) (h : CapsWith within bound s) :
    CapsWith within bound (driveTaken throttle steer dig s) := by
  have hreturned : CapsWith within bound (driveReturns s) := by
    unfold driveReturns
    split
    · have hchanged : CapsWith within bound (State.modTrc (Machine.changeOp .armed .linkRestored (s.modVsc fun v =>
          { v with expiryCount := 0, latch := true, hold := some s.cfg.vsc.holdTime })) fun t =>
          { t with hold := .latch }) := ((h.modVsc _).changeOp .armed .linkRestored).modTrc rfl rfl
      exact (CapsWith.modStc _ hchanged.classifyTraction).hazardStop
    · exact h
  have htraction : CapsWith within bound (driveTraction throttle dig (driveKeepsAlive throttle (driveReturns s))) := by
    have htaken : CapsWith within bound (State.modTrc (driveKeepsAlive throttle (driveReturns s)) fun t =>
        { t with
          throttle := if (driveKeepsAlive throttle (driveReturns s)).vsc.latch then 0 else throttle
          digRequested := dig
          hold := if (driveKeepsAlive throttle (driveReturns s)).vsc.latch then .latch else .none }) :=
      (hreturned.modVsc _).modTrc rfl rfl
    exact htaken.formTargets.classifyTraction
  exact CapsWith.overlayTests (htraction.frame (by simp) (by simp) (by simp) (by simp))

/-! ## Settings and resets -/

/-- R152: a test of an overlay keeps the applied level. -/
theorem overlayChannel_applied (s : State) (c : Chan) : (overlayChannel s c).applied = (s.chan c).applied := by
  unfold overlayChannel
  dsimp only
  split <;> rfl

theorem CapsWith.overlayTest (c : Chan) (h : CapsWith within bound s) : CapsWith within bound (overlayTest c s) :=
  h.modChan c fun _ _ => by
    rw [overlayChannel_applied]
    exact h.light c

/-- R178: a SET moves no duty and no applied level. -/
theorem CapsWith.storeSetting (k : Key) (v : Nat) (h : CapsWith within bound s) :
    CapsWith within bound (storeSetting k v s) := by
  have hput : CapsWith within bound (s.modCfg fun c => c.put k v) := h.frame rfl rfl rfl rfl
  unfold Machine.storeSetting
  split
  · exact h
  · cases k with
    | plain p =>
      cases p with
      | turnThreshold => exact hput.overlayTests
      | slowThreshold => exact hput.overlayTests
      | lineMax => exact hput.of_eq rfl rfl rfl (fun _ => rfl) rfl
      | _ =>
        exact hput.frame (by simp [settingChanged, plainChanged]) (by simp [settingChanged, plainChanged])
          (by simp [settingChanged, plainChanged]) (by simp [settingChanged, plainChanged])
    | axle a x =>
      exact hput.frame (by simp [settingChanged]) (by simp [settingChanged]) (by simp [settingChanged])
        (by simp [settingChanged])
    | chan j c =>
      cases j with
      | cls => exact hput
      | overlay => exact hput.overlayTest c
      | rated => exact hput.formDesired c
      | overlayLevel => exact hput.formDesired c

/-- R41, R66, R123, R144: at a reset every duty and applied level is 0. -/
theorem capsWith_resetTo (hbound : bound (.all 0)) (cfg : Settings) (store : Vector StepRec 128)
    (fns : Vector LineFn 4) (position : Nat) (old : OpState) (s : State) :
    CapsWith within bound (resetTo cfg store fns position old s) where
  axle := fun x => by simp [resetTo, Trc.atReset]
  assist := fun cap hcap => by simp [resetTo, Trc.atReset] at hcap
  winch := Nat.zero_le _
  light := fun c => by simp [resetTo, State.chan, Ltc.atReset, Channel.atReset]
  bound := hbound

/-! ## The parts -/

/-- Every part of an act but a completion's keeps the consumers within their caps. -/
theorem steadyParts_capsWith (hw : Within within) (hbound : bound (.all 0)) :
    SteadyParts (CapsWith within bound) where
  link := fun s f h => h.frame rfl rfl rfl rfl
  choice := fun s h => h.frame rfl rfl rfl rfl
  fresh := fun s => capsWith_resetTo hbound _ _ _ _ _ s
  kept := fun s _ => capsWith_resetTo hbound _ _ _ _ _ s
  set := fun s k w v _ h => h.storeSetting k v
  arm := fun s _ _ h => h.enterArmed
  shutdown := fun origin cause s _ _ h => (h.shutdownAsked origin cause).haltWinch _
  expires := fun s _ h => (((h.modVsc _).offer _).shutdownAsked _ _).haltWinch _
  parks := fun s _ _ h => h.enterParked hw _
  forces := fun s _ h => h.forceShutdown hw
  leaves := fun s _ h => (h.modVsc _).enterParked hw _
  failsafe := fun s _ h => (h.failsafeAsked hw).haltWinch _
  trips := fun added first s _ h => h.enterTripped hw added first
  adds := fun added s _ h => h.frame (by simp) (by simp) (by simp) (by simp)
  comparator := fun s c h => h.modVsc _
  drive := fun throttle steer dig s _ _ h => h.driveTaken throttle steer dig
  steerMode := fun m s h => h.frame (by simp) (by simp) (by simp) (by simp)
  setManual := fun c level s h => h.setManual c level
  writeSteps := fun first records s h => h.frame (by simp) (by simp) (by simp) (by simp)
  startsWinch := fun first slots tag s _ _ _ _ h => h.frame (by simp) (by simp) (by simp) (by simp)
  startsLight := fun c first slots tag s _ _ _ h => h.startLight c first slots tag
  takesStatus := fun u s h => h.frame (by simp) (by simp) (by simp) (by simp)
  haltsWinch := fun s _ h => h.haltWinch _
  haltsLight := fun c s _ h => CapsWith.endLightWith c _ _ (h.frame rfl rfl rfl rfl)
  lineSet := fun p s _ h => h.of_eq rfl rfl rfl (fun _ => rfl) rfl
  assignLine := fun i fn s _ _ h => by
    refine h.of_eq (by simp) (by simp) ?_ (fun c => by simp [State.chan]) (by simp)
    unfold assignLine
    dsimp only
    split
    · rfl
    · split <;> rfl
  fetch := fun n rest s _ h => h.frame (by simp) (by simp) (by simp) (by simp)
  unstack := fun u s h => h.modUnit u _
  convert := fun s c k codes _ _ _ h => h.frame rfl rfl rfl rfl
  trigger := fun b s h => h.frame (by simp) (by simp) (by simp) (by simp)
  watch := fun s h => h.frame (by simp) (by simp) (by simp) (by simp)
  driveFrame := fun s _ h => h.driveFrame hw
  servoFrame := fun s h => h.of_eq rfl rfl rfl (fun _ => rfl) rfl
  relax := fun s h => h.frame (by simp) (by simp) (by simp) (by simp)
  arrives := fun s h => h.of_eq rfl rfl rfl (fun _ => rfl) rfl
  lights := fun s h => h.lightsFrame
  samples := fun pins s h => h.frame (by simp) (by simp) (by simp) (by simp)
  general := fun i s h => h.frame (by simp) (by simp) (by simp) (by simp)
  moves := fun s t hm _ h => h.moves hw hm
  ends := fun cause s t hm _ h => (h.moves hw hm).winchEnd cause

end

/-! ## Completions (R63, R86) -/

/-- R86: what ties an axle to the assist cap while a completion has not yet taken both the assist cap, which it brings
down to 1 000, and the duty caps, which are at most 1 000. -/
def withinOrFull (cap a : Nat) : Prop := a ≤ cap ∨ 1000 ≤ cap

/-- R59, R60: every duty cap is at most 1 000. -/
def capsFull (cap : PerBridge Nat) : Prop := ∀ b, cap.get b ≤ 1000

theorem within_le : Within fun cap a => a ≤ cap := ⟨fun _ _ h => h, fun _ _ _ h hle => hle.trans h⟩

theorem within_orFull : Within withinOrFull :=
  ⟨fun _ _ h => .inl h, fun _ _ _ h hle => h.imp (hle.trans ·) id⟩

/-- Caps of at most 1 000 leave every axle within the assist cap. -/
theorem CapsWith.full {s : State} (h : CapsWith withinOrFull capsFull s) : CapsOk s where
  axle := h.axle
  assist := fun cap hcap x => by
    obtain hle | hfull := h.assist cap hcap x
    · exact hle
    · exact ((h.axle x).trans (h.bound _)).trans hfull
  winch := h.winch
  light := h.light

/-- R59, R60: a duty cap is at most 1 000. -/
theorem dutyCapOf_le (stage : Stage) (derated : Bool) (k : ClassShare) (grant rated : Nat) :
    dutyCapOf stage derated (budgetDuty k grant rated) ≤ 1000 := by
  have hbudget : budgetDuty k grant rated ≤ 1000 := by
    unfold budgetDuty clampNat
    split <;> omega
  unfold dutyCapOf
  split <;> omega

theorem capsFull_supNext (s : State) : capsFull (supNext s).alloc.dutyCap := fun b => by
  simp only [supNext, allocate, PerBridge.get_of]
  exact dutyCapOf_le _ _ _ _ _

/-- R79: after a cut both axles lie within their caps. -/
theorem cutAxles_le (capFront capRear : Nat) (why : Limiter) (s : State) :
    (cutAxles capFront capRear why s).trc.applied.front.natAbs ≤ capFront ∧
      (cutAxles capFront capRear why s).trc.applied.rear.natAbs ≤ capRear := by
  unfold cutAxles
  split
  · have hfront := cutAxle_applied .front .front capFront why s
    have hrear := cutAxle_applied .rear .rear capRear why (cutAxle .front capFront why s)
    have hkept := cutAxle_applied .rear .front capRear why (cutAxle .front capFront why s)
    simp only [PerAxle.get, if_true, reduceCtorEq, if_false] at hfront hrear hkept
    simp only [publishDuties_frame, classifyTraction, State.modTrc_trc, hkept, hfront, hrear]
    exact ⟨limitTo_le _ _, limitTo_le _ _⟩
  · rename_i h
    simpa [anyAbove] using h

/-- R79: a cut keeps the assist cap, WCH's record and the applied levels. -/
theorem cutAxles_kept (capFront capRear : Nat) (why : Limiter) (s : State) :
    (cutAxles capFront capRear why s).trc.assist = s.trc.assist ∧
      ∀ c, ((cutAxles capFront capRear why s).chan c).applied = (s.chan c).applied := by
  have hone (x : Axle) (cap : Nat) (s : State) : (cutAxle x cap why s).trc.assist = s.trc.assist := by
    unfold cutAxle
    split <;> rfl
  unfold cutAxles
  split
  · refine ⟨?_, fun c => ?_⟩
    · simp only [publishDuties_frame, classifyTraction, State.modTrc_trc, hone]
    · unfold publishDuties
      rw [chan_overlayTests, overlayChannel_applied]
      simp [State.chan]
  · exact ⟨rfl, fun _ => rfl⟩

/-- R79: a cut raises no duty. -/
theorem natAbs_cutAxles_le (capFront capRear : Nat) (why : Limiter) (s : State) (x : Axle) :
    ((cutAxles capFront capRear why s).trc.applied.get x).natAbs ≤ (s.trc.applied.get x).natAbs := by
  have hone (y : Axle) (cap : Nat) (s : State) :
      ((cutAxle y cap why s).trc.applied.get x).natAbs ≤ (s.trc.applied.get x).natAbs := by
    rw [cutAxle_applied]
    split
    · subst_vars
      exact natAbs_limitTo_le _ _
    · exact le_rfl
  unfold cutAxles
  split
  · simp only [publishDuties_frame, classifyTraction, State.modTrc_trc]
    exact (hone _ _ _).trans (hone _ _ _)
  · exact le_rfl

/-- R63, R134: the winch is cut to its duty cap. -/
theorem cutWinch_le (s : State) : (cutWinch s).wch.applied ≤ s.sup.alloc.dutyCap.winch := by
  unfold cutWinch
  split
  · simp [setWinchDuty]
  · rename_i h
    exact Nat.le_of_not_lt h

section
variable {s : State}

/-- R86: the assist step. -/
theorem CapsWith.assistCut {bound : PerBridge Nat → Prop} (h : CapsWith withinOrFull bound s) :
    CapsWith withinOrFull bound (assistCut s) := by
  unfold Machine.assistCut
  split
  · rename_i cap hcap
    split
    · split
      · have hcut := CapsWith.cutAxles (within := fun _ _ => True) ⟨fun _ _ _ => trivial, fun _ _ _ _ _ => trivial⟩
          (cap - 50) (cap - 50) .assist (s := s.modTrc fun t => { t with assist := some (cap - 50) })
          ⟨h.axle, fun _ _ _ => trivial, h.winch, h.light, h.bound⟩
        refine { hcut with assist := fun cap' hcap' x => .inl ?_ }
        rw [(cutAxles_kept _ _ _ _).1] at hcap'
        obtain rfl : cap - 50 = cap' := by simpa using hcap'
        obtain ⟨hfront, hrear⟩ := cutAxles_le (cap - 50) (cap - 50) .assist
          (s.modTrc fun t => { t with assist := some (cap - 50) })
        cases x
        · exact hfront
        · exact hrear
      · refine { h with assist := fun cap' hcap' x => ?_ }
        obtain rfl : min (cap + 25) 1000 = cap' := by simpa using hcap'
        have hx := h.assist cap hcap x
        unfold withinOrFull at hx ⊢
        simp only [State.modTrc_trc]
        omega
    · exact h
  · exact h

/-- R63: SUP's publication brings every consumer within its new cap. -/
theorem CapsWith.supplyCut {within : Nat → Nat → Prop} (hw : Within within) {bound : PerBridge Nat → Prop}
    (h : CapsWith within bound s) : CapsWith within capsFull (supplyCut s) := by
  unfold Machine.supplyCut
  dsimp only
  generalize hv : (if becameCutoff s.sup.stage (stageNotice s.sup.stage (s.modSup fun _ => supNext s)) then
    cutoffLights (stageNotice s.sup.stage (s.modSup fun _ => supNext s))
    else stageNotice s.sup.stage (s.modSup fun _ => supNext s)) = v
  have htrc : v.trc = s.trc := by
    rw [← hv]
    split <;> simp
  have hsup : v.sup = supNext s := by
    rw [← hv]
    split <;> simp
  have hle := cutAxles_le v.sup.alloc.dutyCap.front v.sup.alloc.dutyCap.rear .cap (cutLights (cutWinch v))
  obtain ⟨hassist, hlight⟩ :=
    cutAxles_kept v.sup.alloc.dutyCap.front v.sup.alloc.dutyCap.rear .cap (cutLights (cutWinch v))
  have hduty := natAbs_cutAxles_le v.sup.alloc.dutyCap.front v.sup.alloc.dutyCap.rear .cap (cutLights (cutWinch v))
  exact
    { axle := fun x => by
        simp only [cutAxles_frame, cutLights_frame, cutWinch_frame]
        cases x
        · exact hle.1
        · exact hle.2
      assist := fun cap hcap x => by
        rw [hassist] at hcap
        simp only [cutLights_frame, cutWinch_frame, htrc] at hcap
        refine hw.smaller _ _ _ (h.assist cap hcap x) ((hduty x).trans ?_)
        simp [htrc]
      winch := by
        simp only [cutAxles_frame, cutLights_frame, cutWinch_frame]
        exact cutWinch_le v
      light := fun c => by
        rw [hlight, chan_cutLights]
        simp only [State.lightCap, cutAxles_frame, cutLights_frame]
        exact min_le_right _ _
      bound := by
        simp only [cutAxles_frame, cutLights_frame, cutWinch_frame, hsup]
        exact capsFull_supNext s }

/-- R32, R63, R86: a completion brings every consumer within its cap, whatever the order of its parts. -/
theorem capsOk_completeScan (c : Scan) (h : CapsOk s) : CapsOk (completeScan c s) := by
  have hparts (bound : PerBridge Nat → Prop) (hb : bound (.all 0)) := steadyParts_capsWith within_orFull hb
  have hfirst := hparts (fun _ => True) trivial
  have hlast := hparts capsFull fun b => by cases b <;> decide
  have hstart : CapsWith withinOrFull (fun _ => True) (scanComplete c s).nextChoice :=
    CapsWith.frame ⟨h.axle, fun cap hcap x => .inl (h.assist cap hcap x), h.winch, h.light, trivial⟩
      (by simp) (by simp) (by simp) (by simp)
  refine CapsWith.full ?_
  unfold completeScan completionEvent
  refine runOrder_reaches (P := CapsWith withinOrFull fun _ => True) (Q := CapsWith withinOrFull capsFull)
    (fun t ht => ?_) (fun t ht => hfirst.assist ht.assistCut) (fun t ht => hlast.assist ht.assistCut)
    (fun t ht => hfirst.reacts (winchCompletion_reacts t) ht) (fun t ht => hlast.reacts (winchCompletion_reacts t) ht)
    _ _ hstart
  exact hlast.vehicleCompletion _ ((hlast.supply (ht.supplyCut within_orFull)).modVsc _)

end

/-- Every part of an act keeps the consumers within their caps. -/
theorem steady_capsOk : Steady CapsOk := by
  have hsame : CapsOk = CapsWith (fun cap a => a ≤ cap) fun _ => True := funext fun s => propext (capsOk_iff s)
  refine ⟨?_, fun s c _ h => capsOk_completeScan c h⟩
  rw [hsame]
  exact steadyParts_capsWith within_le trivial

/-- Settles O32: the allocation's sums by the acts that make one, the caps part by part. -/
theorem grantsAndCapsHold : Obligations.GrantsAndCapsHold := fun _ _ _ h =>
  ⟨fun hs => exec_keeps (P := fun s => GrantsOk s.sup.alloc) (fun _ _ hs => hs)
    (fun _ _ ha hs => grantsOk_of_acts ha hs) hs h, fun hs => steady_capsOk.exec hs h⟩

end Sys2Proof.Machine

/-! What ties the units to the blocks that run them (06 section 6.3, 06 section 6.5, 06 section 6.7, 08 section 8.3): the
pieces, and the operations on them. -/

namespace Sys2Proof.Machine

/-! ## Counting units (06 R108) -/

/-- A count over a list without repetitions, where two tests differ at one member alone. -/
theorem countP_change {α : Type} {l : List α} (hl : l.Nodup) {a : α} (ha : a ∈ l) {p q : α → Bool}
    (h : ∀ b, b ≠ a → p b = q b) : l.countP p + (q a).toNat = l.countP q + (p a).toNat := by
  induction l with
  | nil => contradiction
  | cons b l ih =>
    obtain ⟨hb, hl⟩ := List.nodup_cons.mp hl
    rw [List.countP_cons, List.countP_cons]
    by_cases hab : b = a
    · subst hab
      have hrest : l.countP p = l.countP q := List.countP_congr fun c hc => by
        rw [h c fun hcb => hb (hcb ▸ hc)]
      rw [hrest]
      cases p b <;> cases q b <;> simp
    · have hstep := ih hl (List.mem_of_ne_of_mem (Ne.symm hab) ha)
      rw [h b hab]
      omega

/-- 00 section 0.6.3: the units are all units, each once. -/
theorem allUnits_nodup : allUnits.Nodup := by decide

/-- R108: how many units hold a slot, before and after a change of one unit. -/
theorem holders_change {s t : State} {u : UnitNo} (h : ∀ v, v ≠ u →
    (t.unit v).state = (s.unit v).state ∧ (t.unit v).walked = (s.unit v).walked) (slot : Slot) :
    holders t slot + ((s.unit u).active && (s.unit u).walked.contains slot).toNat =
      holders s slot + ((t.unit u).active && (t.unit u).walked.contains slot).toNat :=
  countP_change (p := fun v => (t.unit v).active && (t.unit v).walked.contains slot)
    (q := fun v => (s.unit v).active && (s.unit v).walked.contains slot) allUnits_nodup (mem_allUnits u) fun v hv => by
      obtain ⟨hstate, hwalked⟩ := h v hv
      simp only [UnitCtx.active, hstate, hwalked]

/-- R108: where the units that are active and their walked sets stay. -/
theorem holders_congr {s t : State} (h : ∀ v, (t.unit v).active = (s.unit v).active ∧
    (t.unit v).walked = (s.unit v).walked) (slot : Slot) : holders t slot = holders s slot := by
  unfold holders
  refine List.countP_congr fun v _ => ?_
  simp only [h v]

/-! ## The pieces -/

/-- R121: the outstanding statuses. -/
structure StatusOk (s : State) : Prop where
  outstanding : ∀ u, statuses s u ≤ 1 ∧ ((s.unit u).active = true → statuses s u = 0)
  own : ∀ u e, (s.unit u).stacked = some e → e.unit = u

/-- R108, 08 section 8.3: the use counts and the lights' sources. -/
structure UseOk (s : State) : Prop where
  use : ∀ slot : Slot, s.pgc.useCount[slot] = holders s slot
  source : ∀ c : Chan, (s.unit (unitOf c)).state ≠ .halting ∧
    ((s.chan c).source = .program ↔ (s.unit (unitOf c)).state = .running)

/-- R132, R140: the winch and its unit. -/
structure WinchAgrees (s : State) : Prop where
  idle : (s.unit 0).state = .idle → s.wch.state = .idle
  begun : WinchBegun s → (s.unit 0).state = .running ∧ s.wch.clutch.moving = false

/-- The pieces that do not read the operating state. -/
structure UnitsTied (s : State) : Prop where
  status : StatusOk s
  use : UseOk s
  winch : WinchAgrees s

/-- R12, R112: the states of the winch unit in an operating state. -/
def WinchAllowed (op : OpState) (st : UnitState) : Prop :=
  (st ≠ .idle → op ≠ .parked ∧ op ≠ .tripped) ∧ (op = .shuttingDown → st ≠ .running)

theorem unitsOk_iff (s : State) : UnitsOk s ↔ UnitsTied s ∧ WinchAllowed s.vsc.op (s.unit 0).state := by
  have hactive : (s.unit 0).active = true ↔ (s.unit 0).state ≠ .idle := by simp [UnitCtx.active]
  constructor
  · intro h
    exact ⟨⟨⟨h.outstanding, h.own⟩, ⟨h.use, h.source⟩, ⟨h.idle, h.begun⟩⟩, fun hst => h.winch (hactive.mpr hst), h.halted⟩
  · rintro ⟨⟨hstatus, huse, hwinch⟩, hallowed, hhalted⟩
    exact
      { use := huse.use
        outstanding := hstatus.outstanding
        own := hstatus.own
        winch := fun hst => hallowed (hactive.mp hst)
        idle := hwinch.idle
        begun := hwinch.begun
        halted := hhalted
        source := huse.source }

/-! ## Statuses (06 R121, 09 R160, 09 R163) -/

theorem endings_append (u : UnitNo) (q r : List Notice) : endings u (q ++ r) = endings u q + endings u r :=
  List.countP_append ..

/-- The ending statuses around one entry. -/
theorem endings_around (u : UnitNo) (q : List Notice) (n : Notice) (r : List Notice) :
    endings u (q ++ n :: r) = endings u q + endings u [n] + endings u r := by
  rw [endings_append, ← List.singleton_append, endings_append, Nat.add_assoc]

theorem endings_unitEnded (u : UnitNo) (e : EndingStatus) :
    endings u [.unitEnded e] = if e.unit = u then 1 else 0 := by
  by_cases h : e.unit = u <;> simp [endings, h]

/-- R160: a notice of another kind is no ending status. -/
theorem endings_of_kind {n : Notice} (h : n.kind.isSome = true) (u : UnitNo) : endings u [n] = 0 := by
  cases n with
  | unitEnded e => contradiction
  | _ => rfl

/-- R160: an entry updated in place was and is no ending status. -/
theorem endings_update {o : Offer} {n n' : Notice} (h : o.update n = some n') (u : UnitNo) :
    endings u [n'] = endings u [n] := by
  cases o <;> cases n <;> cases h <;> rfl

/-- R121: where the list, the stacked statuses and the units' states are kept. -/
theorem StatusOk.of_same {s t : State} (h : StatusOk s) (hnq : t.nq = s.nq)
    (hunit : ∀ u, (t.unit u).stacked = (s.unit u).stacked ∧ ((t.unit u).state ≠ .idle → (s.unit u).state ≠ .idle)) :
    StatusOk t where
  outstanding := fun u => by
    obtain ⟨hle, hactive⟩ := h.outstanding u
    obtain ⟨hstacked, hstate⟩ := hunit u
    have hsame : statuses t u = statuses s u := by rw [statuses, statuses, hnq, hstacked]
    rw [hsame]
    refine ⟨hle, fun hu => hactive ?_⟩
    simp only [UnitCtx.active, decide_eq_true_eq] at hu ⊢
    exact hstate hu
  own := fun u e he => h.own u e ((hunit u).1 ▸ he)

/-- R121: where no unit has more statuses than before. -/
theorem StatusOk.of_le {s t : State} (h : StatusOk s) (hle : ∀ u, statuses t u ≤ statuses s u)
    (hstate : ∀ u, (t.unit u).state = (s.unit u).state) (hown : ∀ u e, (t.unit u).stacked = some e → e.unit = u) :
    StatusOk t where
  outstanding := fun u => by
    obtain ⟨hone, hactive⟩ := h.outstanding u
    refine ⟨(hle u).trans hone, fun hu => Nat.le_zero.mp ((hle u).trans (hactive ?_).le)⟩
    rwa [UnitCtx.active, ← hstate]
  own := hown

/-- R160, R121: a status that a full list gives up is stacked in its own unit's context. -/
theorem statuses_displaced {s : State} (h : StatusOk s) {before after : List Notice} {e : EndingStatus} {n : Notice}
    (hq : s.nq = before ++ .unitEnded e :: after) (hn : n.kind.isSome = true) (u : UnitNo) :
    statuses ((s.modUnit e.unit fun x => { x with stacked := some e }).modNq fun _ => before ++ after ++ [n]) u =
      statuses s u := by
  have hone := (h.outstanding e.unit).1
  rw [statuses, hq, endings_around, endings_unitEnded, if_pos rfl] at hone
  rw [statuses, statuses, hq, endings_around u, endings_unitEnded, State.modNq_nq, endings_append, endings_append,
    endings_of_kind hn, State.unit_modNq, State.unit_modUnit]
  by_cases hu : u = e.unit
  · subst hu
    have hnone : (s.unit e.unit).stacked.isSome.toNat = 0 := by omega
    rw [if_pos rfl, if_pos rfl, hnone]
    simp only [Option.isSome_some, Bool.toNat_true]
    omega
  · rw [if_neg hu, if_neg (Ne.symm hu)]
    omega

/-- R160: an offer loses no ending status. -/
theorem StatusOk.offer {s : State} (o : Offer) (h : StatusOk s) : StatusOk (offer o s) := by
  obtain ⟨q, hq, ho⟩ | ⟨-, -, ho⟩ | ⟨e, q, -, -, hd, ho⟩ | ⟨-, -, -, ho⟩ := offer_cases o s <;> rw [ho]
  · obtain ⟨before, n, n', after, hold, hnew, hn, -⟩ := updateInPlace_some hq
    refine h.of_le (fun u => Nat.le_of_eq ?_) (fun _ => rfl) h.own
    rw [statuses, statuses, State.modNq_nq, hold, hnew]
    rw [endings_around, endings_around, endings_update hn, State.unit_modNq]
  · refine h.of_le (fun u => Nat.le_of_eq ?_) (fun _ => rfl) h.own
    rw [statuses, statuses, State.modNq_nq, endings_append, endings_of_kind o.fresh_kind_isSome]
    rfl
  · obtain ⟨before, after, hold, rfl, -⟩ := displaceEnded_some hd
    refine h.of_le (fun u => (statuses_displaced h hold o.fresh_kind_isSome u).le) (fun u => ?_) fun u e' he' => ?_
    · rw [State.unit_modNq, State.unit_modUnit]
      split
      · subst_vars
        rfl
      · rfl
    · rw [State.unit_modNq, State.unit_modUnit] at he'
      split at he'
      · rename_i hu
        cases he'
        exact hu.symm
      · exact h.own u e' he'
  · exact h

/-- R161, R121: an ending status is appended, or stacked in its own unit's context. -/
theorem StatusOk.offerEnding {s : State} {e : EndingStatus} (h : StatusOk s) (hnone : statuses s e.unit = 0)
    (hidle : (s.unit e.unit).state = .idle) : StatusOk (offerEnding e s) := by
  have hzero : endings e.unit s.nq = 0 ∧ (s.unit e.unit).stacked.isSome.toNat = 0 := by
    rw [statuses] at hnone
    omega
  have hone {t : State} (hsame : ∀ u, u ≠ e.unit → statuses t u = statuses s u) (hown : statuses t e.unit = 1)
      (hstate : ∀ u, (t.unit u).state = (s.unit u).state)
      (hstacked : ∀ u e', (t.unit u).stacked = some e' → e'.unit = u) : StatusOk t := by
    refine ⟨fun u => ?_, hstacked⟩
    by_cases hu : u = e.unit
    · subst hu
      rw [hown, UnitCtx.active, hstate, hidle]
      exact ⟨le_rfl, fun hcon => by simp at hcon⟩
    · rw [hsame u hu, UnitCtx.active, hstate]
      exact h.outstanding u
  obtain ⟨-, he⟩ | ⟨-, he⟩ := offerEnding_cases e s <;> rw [he]
  · refine hone (fun u hu => ?_) ?_ (fun _ => rfl) h.own
    · rw [statuses, statuses, State.modNq_nq, endings_append, endings_unitEnded, if_neg (Ne.symm hu)]
      rfl
    · rw [statuses, State.modNq_nq, endings_append, endings_unitEnded, if_pos rfl, State.unit_modNq]
      omega
  · refine hone (fun u hu => ?_) ?_ (fun u => ?_) fun u e' he' => ?_
    · rw [statuses, statuses, State.unit_modUnit_ne _ _ hu]
      rfl
    · rw [statuses, State.unit_modUnit_self]
      simp only [Option.isSome_some, Bool.toNat_true]
      change endings e.unit s.nq + 1 = 1
      omega
    · rw [State.unit_modUnit]
      split
      · subst_vars
        rfl
      · rfl
    · rw [State.unit_modUnit] at he'
      split at he'
      · rename_i hu
        cases he'
        exact hu.symm
      · exact h.own u e' he'

/-- R163: a stacked status is cleared. -/
theorem StatusOk.unstack {s : State} (u : UnitNo) (h : StatusOk s) :
    StatusOk (s.modUnit u fun x => { x with stacked := none }) := by
  refine h.of_le (fun v => Nat.add_le_add_left ?_ _) (fun v => ?_) fun v e he => ?_
  · rw [State.unit_modUnit]
    split
    · exact Nat.zero_le _
    · exact le_rfl
  · rw [State.unit_modUnit]
    split
    · subst_vars
      rfl
    · rfl
  · rw [State.unit_modUnit] at he
    split at he
    · contradiction
    · exact h.own v e he

end Sys2Proof.Machine

/-! The use counts, the outstanding statuses and the executing blocks agree with the unit contexts: what each operation
does to the units. -/

namespace Sys2Proof.Machine

/-! ## The sources of the channels (08 section 8.3) -/

/-- The source of every channel. -/
def sources (s : State) (c : Chan) : Source := (s.chan c).source

/-- 08 section 8.3: where LTC's record is kept. -/
theorem sources_of_ltc {s t : State} (h : t.ltc = s.ltc) : sources t = sources s := by
  funext c
  rw [sources, sources, State.chan, State.chan, h]

@[simp] theorem sources_modVsc (s : State) (f : Vsc → Vsc) : sources (s.modVsc f) = sources s := rfl
@[simp] theorem sources_modTrc (s : State) (f : Trc → Trc) : sources (s.modTrc f) = sources s := rfl
@[simp] theorem sources_modStc (s : State) (f : Stc → Stc) : sources (s.modStc f) = sources s := rfl
@[simp] theorem sources_modCfg (s : State) (f : Settings → Settings) : sources (s.modCfg f) = sources s := rfl
@[simp] theorem sources_modUnit (s : State) (u : UnitNo) (f : UnitCtx → UnitCtx) :
    sources (s.modUnit u f) = sources s := rfl

@[simp] theorem sources_offer (o : Offer) (s : State) : sources (offer o s) = sources s := sources_of_ltc (by simp)

@[simp] theorem sources_changeOp (new : OpState) (cause : OpCause) (s : State) :
    sources (changeOp new cause s) = sources s := sources_of_ltc (by simp)

/-- R152: the tests leave a channel's source. -/
theorem overlayChannel_source (s : State) (c : Chan) : (overlayChannel s c).source = (s.chan c).source := by
  unfold overlayChannel
  dsimp only
  split <;> rfl

@[simp] theorem sources_overlayTests (s : State) : sources (overlayTests s) = sources s := by
  funext c
  rw [sources, chan_overlayTests, overlayChannel_source, sources]

@[simp] theorem sources_hazardStart (s : State) : sources (hazardStart s) = sources s := sources_overlayTests _
@[simp] theorem sources_hazardStop (s : State) : sources (hazardStop s) = sources s := sources_overlayTests _

@[simp] theorem sources_publishDuties (s : State) : sources (publishDuties s) = sources s := by
  rw [publishDuties, sources_overlayTests]
  exact sources_of_ltc (by simp)

/-- R156: the cut to the caps leaves the sources. -/
@[simp] theorem sources_cutLights (s : State) : sources (cutLights s) = sources s := by
  funext c
  rw [sources, chan_cutLights, sources]

/-- A channel's change that keeps its source. -/
theorem sources_modChan (s : State) (c : Chan) {f : Channel → Channel} (hf : ∀ ch, (f ch).source = ch.source) :
    sources (s.modChan c f) = sources s := by
  funext d
  rw [sources, State.chan_modChan]
  split
  · subst_vars
    exact hf _
  · rfl

@[simp] theorem sources_formDesired (c : Chan) (s : State) : sources (formDesired c s) = sources s :=
  sources_modChan s c fun _ => rfl

@[simp] theorem sources_handLight (c : Chan) (slot : Slot) (s : State) : sources (handLight c slot s) = sources s := by
  unfold handLight
  split
  · exact sources_modChan s c fun _ => rfl
  · rfl
  · rfl

@[simp] theorem sources_cutAxles (capFront capRear : Nat) (why : Limiter) (s : State) :
    sources (cutAxles capFront capRear why s) = sources s := by
  unfold cutAxles
  split
  · rw [sources_publishDuties]
    exact sources_of_ltc (by simp [classifyTraction])
  · rfl

/-! ## What ties the units together stays where they stay -/

/-- The list, the contexts, the counts, the winch and the sources stay as they are. -/
structure SameUnits (s t : State) : Prop where
  nq : t.nq = s.nq
  unit : ∀ u, (t.unit u).state = (s.unit u).state ∧ (t.unit u).walked = (s.unit u).walked ∧
    (t.unit u).stacked = (s.unit u).stacked
  useCount : t.pgc.useCount = s.pgc.useCount
  state : t.wch.state = s.wch.state
  clutch : s.wch.clutch.moving = false → t.wch.clutch.moving = false
  source : sources t = sources s

theorem SameUnits.refl (s : State) : SameUnits s s := ⟨rfl, fun _ => ⟨rfl, rfl, rfl⟩, rfl, rfl, id, rfl⟩

/-- Where the blocks are kept. -/
theorem SameUnits.of_eq {s t : State} (hnq : t.nq = s.nq) (hpgc : t.pgc = s.pgc) (hwch : t.wch = s.wch)
    (hsource : sources t = sources s) : SameUnits s t :=
  ⟨hnq, fun u => by simp only [State.unit, hpgc, and_self], by rw [hpgc], by rw [hwch], by rw [hwch]; exact id, hsource⟩

/-- A change of a context that keeps its state, its walked set and its status. -/
theorem SameUnits.modUnit (s : State) (u : UnitNo) {f : UnitCtx → UnitCtx}
    (hf : ∀ x, (f x).state = x.state ∧ (f x).walked = x.walked ∧ (f x).stacked = x.stacked) :
    SameUnits s (s.modUnit u f) :=
  { SameUnits.refl s with
    unit := fun v => by
      rw [State.unit_modUnit]
      split
      · subst_vars
        exact hf _
      · exact ⟨rfl, rfl, rfl⟩ }

theorem StatusOk.same {s t : State} (h : StatusOk s) (hs : SameUnits s t) : StatusOk t :=
  h.of_same hs.nq fun u => ⟨(hs.unit u).2.2, by rw [(hs.unit u).1]; exact id⟩

theorem UseOk.of_states {s t : State} (h : UseOk s) (hcount : t.pgc.useCount = s.pgc.useCount)
    (hunit : ∀ u, (t.unit u).state = (s.unit u).state ∧ (t.unit u).walked = (s.unit u).walked)
    (hsource : sources t = sources s) : UseOk t where
  use := fun slot => by
    rw [hcount, holders_congr (fun v => ⟨by rw [UnitCtx.active, UnitCtx.active, (hunit v).1], (hunit v).2⟩), h.use]
  source := fun c => by
    have hc : (t.chan c).source = (s.chan c).source := congrFun hsource c
    rw [hc, (hunit _).1]
    exact h.source c

theorem UseOk.same {s t : State} (h : UseOk s) (hs : SameUnits s t) : UseOk t :=
  h.of_states hs.useCount (fun u => ⟨(hs.unit u).1, (hs.unit u).2.1⟩) hs.source

theorem WinchAgrees.of_states {s t : State} (h : WinchAgrees s) (hunit : (t.unit 0).state = (s.unit 0).state)
    (hstate : t.wch.state = s.wch.state) (hclutch : s.wch.clutch.moving = false → t.wch.clutch.moving = false) :
    WinchAgrees t where
  idle := fun hidle => hstate.trans (h.idle (hunit ▸ hidle))
  begun := fun hbegun => by
    rw [WinchBegun, hstate] at hbegun
    obtain ⟨hruns, hstill⟩ := h.begun hbegun
    exact ⟨hunit.trans hruns, hclutch hstill⟩

theorem WinchAgrees.same {s t : State} (h : WinchAgrees s) (hs : SameUnits s t) : WinchAgrees t :=
  h.of_states (hs.unit 0).1 hs.state hs.clutch

theorem UnitsTied.same {s t : State} (h : UnitsTied s) (hs : SameUnits s t) : UnitsTied t :=
  ⟨h.status.same hs, h.use.same hs, h.winch.same hs⟩

/-! ## Notices -/

/-- R160: what an offer leaves of the units. -/
theorem offer_units (o : Offer) (s : State) : (offer o s).pgc.useCount = s.pgc.useCount ∧
    ∀ u, ((offer o s).unit u).state = (s.unit u).state ∧ ((offer o s).unit u).walked = (s.unit u).walked := by
  obtain ⟨q, -, h⟩ | ⟨-, -, h⟩ | ⟨e, q, -, -, -, h⟩ | ⟨-, -, -, h⟩ := offer_cases o s <;> rw [h]
  · exact ⟨rfl, fun _ => ⟨rfl, rfl⟩⟩
  · exact ⟨rfl, fun _ => ⟨rfl, rfl⟩⟩
  · refine ⟨rfl, fun u => ?_⟩
    rw [State.unit_modNq, State.unit_modUnit]
    split
    · subst_vars
      exact ⟨rfl, rfl⟩
    · exact ⟨rfl, rfl⟩
  · exact ⟨rfl, fun _ => ⟨rfl, rfl⟩⟩

/-- R161: what an ending status leaves of the units. -/
theorem offerEnding_units (e : EndingStatus) (s : State) : (offerEnding e s).pgc.useCount = s.pgc.useCount ∧
    ∀ u, ((offerEnding e s).unit u).state = (s.unit u).state ∧ ((offerEnding e s).unit u).walked = (s.unit u).walked := by
  obtain ⟨-, h⟩ | ⟨-, h⟩ := offerEnding_cases e s <;> rw [h]
  · exact ⟨rfl, fun _ => ⟨rfl, rfl⟩⟩
  · refine ⟨rfl, fun u => ?_⟩
    rw [State.unit_modUnit]
    split
    · subst_vars
      exact ⟨rfl, rfl⟩
    · exact ⟨rfl, rfl⟩

theorem UnitsTied.offer {s : State} (o : Offer) (h : UnitsTied s) : UnitsTied (offer o s) where
  status := h.status.offer o
  use := h.use.of_states (offer_units o s).1 (offer_units o s).2 (sources_offer o s)
  winch := h.winch.of_states ((offer_units o s).2 0).1 (by simp) (by simp)

theorem UnitsTied.modVsc {s : State} (f : Vsc → Vsc) (h : UnitsTied s) : UnitsTied (s.modVsc f) :=
  h.same (.of_eq rfl rfl rfl rfl)

theorem UnitsTied.changeOp {s : State} (new : OpState) (cause : OpCause) (h : UnitsTied s) :
    UnitsTied (changeOp new cause s) := (h.modVsc _).offer _

/-- R2: a change of the operating state leaves the units' states. -/
theorem changeOp_state (new : OpState) (cause : OpCause) (s : State) (u : UnitNo) :
    ((changeOp new cause s).unit u).state = (s.unit u).state :=
  ((offer_units _ (s.modVsc fun v => { v with op := new })).2 u).1

/-! ## Units that end and start (06 R114, R119) -/

/-- A change of PGC's record that keeps the contexts. -/
theorem unit_modPgc (s : State) (f : Pgc → Pgc) (hf : (f s.pgc).units = s.pgc.units) (u : UnitNo) :
    (s.modPgc f).unit u = s.unit u := by
  rw [State.unit, State.modPgc_pgc, hf, State.unit]

/-- R119: the counts and the context of a unit that ends, before its status is offered. -/
def released (u : UnitNo) (s : State) : State :=
  (s.modPgc fun p => { p with useCount := changeUse (s.unit u).walked (· - 1) p.useCount }).modUnit u
    fun y => { y with state := .idle, haltCause := none }

theorem released_unit (u v : UnitNo) (s : State) : (released u s).unit v =
    if v = u then { s.unit u with state := .idle, haltCause := none } else s.unit v := by
  rw [released, State.unit_modUnit, unit_modPgc _ _ rfl, unit_modPgc _ _ rfl]

/-- R119: an end releases the unit and offers its status. -/
theorem endUnit_released (u : UnitNo) (cause : EndCause) (residual finalPos : Nat) (s : State) :
    ∃ e, e.unit = u ∧ endUnit u cause residual finalPos s = offerEnding e (released u s) :=
  ⟨_, rfl, endUnit_eq u cause residual finalPos s⟩

/-- R119: the context and the counts of a unit that ends, and the rest of the contexts. -/
theorem endUnit_units (u : UnitNo) (cause : EndCause) (residual finalPos : Nat) (s : State) :
    (endUnit u cause residual finalPos s).pgc.useCount = changeUse (s.unit u).walked (· - 1) s.pgc.useCount ∧
    ((endUnit u cause residual finalPos s).unit u).state = .idle ∧
    ∀ v, v ≠ u → ((endUnit u cause residual finalPos s).unit v).state = (s.unit v).state ∧
      ((endUnit u cause residual finalPos s).unit v).walked = (s.unit v).walked := by
  obtain ⟨e, -, he⟩ := endUnit_released u cause residual finalPos s
  obtain ⟨hcount, hunits⟩ := offerEnding_units e (released u s)
  rw [he]
  refine ⟨hcount, ?_, fun v hv => ?_⟩
  · rw [(hunits u).1, released_unit, if_pos rfl]
  · rw [(hunits v).1, (hunits v).2, released_unit, if_neg hv]
    exact ⟨rfl, rfl⟩

/-- R119, R108: the counts fall for the slots of the unit that ends. -/
theorem use_of_ended {s t : State} {u : UnitNo} (h : UseOk s) (hactive : (s.unit u).state ≠ .idle)
    (hidle : (t.unit u).state = .idle)
    (hrest : ∀ v, v ≠ u → (t.unit v).state = (s.unit v).state ∧ (t.unit v).walked = (s.unit v).walked)
    (huse : t.pgc.useCount = changeUse (s.unit u).walked (· - 1) s.pgc.useCount) (slot : Slot) :
    t.pgc.useCount[slot] = holders t slot := by
  have hcount := holders_change hrest slot
  simp only [UnitCtx.active, hidle, hactive, ne_eq, not_true_eq_false, not_false_eq_true, decide_true, decide_false,
    Bool.true_and, Bool.false_and, Bool.toNat_false, Nat.add_zero] at hcount
  rw [huse, getElem_changeUse, h.use]
  by_cases hin : slot ∈ (s.unit u).walked
  · rw [List.contains_iff_mem.mpr hin, Bool.toNat_true] at hcount
    rw [if_pos hin]
    omega
  · rw [Bool.eq_false_iff.mpr fun hc => hin (List.contains_iff_mem.mp hc), Bool.toNat_false] at hcount
    rw [if_neg hin]
    omega

/-- R114, R108: the counts rise for the slots of the unit that starts. -/
theorem use_of_started {s t : State} {u : UnitNo} (h : UseOk s) (hidle : (s.unit u).state = .idle)
    (hruns : (t.unit u).state = .running)
    (hrest : ∀ v, v ≠ u → (t.unit v).state = (s.unit v).state ∧ (t.unit v).walked = (s.unit v).walked)
    (huse : t.pgc.useCount = changeUse (t.unit u).walked (· + 1) s.pgc.useCount) (slot : Slot) :
    t.pgc.useCount[slot] = holders t slot := by
  have hcount := holders_change hrest slot
  simp only [UnitCtx.active, hidle, hruns, ne_eq, not_true_eq_false, reduceCtorEq, not_false_eq_true, decide_true,
    decide_false, Bool.true_and, Bool.false_and, Bool.toNat_false, Nat.add_zero] at hcount
  rw [huse, getElem_changeUse, h.use]
  by_cases hin : slot ∈ (t.unit u).walked
  · rw [List.contains_iff_mem.mpr hin, Bool.toNat_true] at hcount
    rw [if_pos hin]
    omega
  · rw [Bool.eq_false_iff.mpr fun hc => hin (List.contains_iff_mem.mp hc), Bool.toNat_false] at hcount
    rw [if_neg hin]
    omega

/-- R121: the ending status of an active unit is its only one. -/
theorem StatusOk.endUnit {s : State} {u : UnitNo} (cause : EndCause) (residual finalPos : Nat) (h : StatusOk s)
    (hactive : (s.unit u).state ≠ .idle) : StatusOk (endUnit u cause residual finalPos s) := by
  have hnone : statuses s u = 0 := (h.outstanding u).2 (by simpa [UnitCtx.active] using hactive)
  have hunit : ∀ v, ((released u s).unit v).stacked = (s.unit v).stacked ∧
      (((released u s).unit v).state ≠ .idle → (s.unit v).state ≠ .idle) := fun v => by
    rw [released_unit]
    split
    · subst_vars
      exact ⟨rfl, fun hne => absurd rfl hne⟩
    · exact ⟨rfl, id⟩
  obtain ⟨e, rfl, he⟩ := endUnit_released u cause residual finalPos s
  rw [he]
  have hnq : (released e.unit s).nq = s.nq := by simp [released]
  refine StatusOk.offerEnding (h.of_same hnq hunit) ?_ ?_
  · rw [statuses, (hunit e.unit).1, hnq]
    exact hnone
  · rw [released_unit, if_pos rfl]

/-- R119: the lights' sources where the winch's unit changes. -/
theorem source_of_winch {s t : State} (h : UseOk s) (hrest : ∀ v, v ≠ 0 → (t.unit v).state = (s.unit v).state)
    (hsource : sources t = sources s) (c : Chan) : (t.unit (unitOf c)).state ≠ .halting ∧
      ((t.chan c).source = .program ↔ (t.unit (unitOf c)).state = .running) := by
  have hc : (t.chan c).source = (s.chan c).source := congrFun hsource c
  rw [hrest (unitOf c) (Fin.succ_ne_zero c), hc]
  exact h.source c

/-- R140: the list and the contexts after an end of the winch program are those that the end of its unit leaves. -/
theorem winchEnd_units (cause : EndCause) (s : State) : ∃ residual finalPos,
    (winchEnd cause s).nq = (endUnit 0 cause residual finalPos s).nq ∧
    (winchEnd cause s).pgc = (endUnit 0 cause residual finalPos s).pgc :=
  ⟨if cause = .complete then 0 else winchResidual s.wch, s.wch.position / 10,
    by simp only [winchEnd, winchIdle_frame], by simp only [winchEnd, winchIdle_frame]⟩

/-- R140: a winch program that ends. -/
theorem unitsTied_winchEnd {s : State} (cause : EndCause) (hstatus : StatusOk s) (huse : UseOk s)
    (hactive : (s.unit 0).state ≠ .idle) : UnitsTied (winchEnd cause s) := by
  obtain ⟨residual, finalPos, hnq, hpgc⟩ := winchEnd_units cause s
  obtain ⟨hcount, hidle, hrest⟩ := endUnit_units 0 cause residual finalPos s
  have hunit : ∀ u, (winchEnd cause s).unit u = (endUnit 0 cause residual finalPos s).unit u := fun u => by
    rw [State.unit, State.unit, hpgc]
  have hothers : ∀ v, v ≠ 0 → ((winchEnd cause s).unit v).state = (s.unit v).state ∧
      ((winchEnd cause s).unit v).walked = (s.unit v).walked := fun v hv => by
    rw [hunit]
    exact hrest v hv
  refine ⟨(hstatus.endUnit cause residual finalPos hactive).of_same hnq fun u => ?_,
    ⟨use_of_ended huse hactive (by rw [hunit, hidle]) hothers (by rw [hpgc, hcount]),
      source_of_winch huse (fun v hv => (hothers v hv).1) (sources_of_ltc (by simp))⟩, ⟨fun _ => ?_, fun hb => ?_⟩⟩
  · rw [hunit]
    exact ⟨rfl, id⟩
  · rw [winchEnd_wch]
  · rw [WinchBegun, winchEnd_wch] at hb
    simp at hb

/-- R119: the winch's unit after its end. -/
theorem winchEnd_idle (cause : EndCause) (s : State) : ((winchEnd cause s).unit 0).state = .idle := by
  obtain ⟨residual, finalPos, -, hpgc⟩ := winchEnd_units cause s
  rw [State.unit, hpgc]
  exact (endUnit_units 0 cause residual finalPos s).2.1

/-- R151: a light unit that ends. -/
theorem UnitsTied.endLightWith {s : State} (c : Chan) (cause : EndCause) (residual : Nat) (h : UnitsTied s)
    (hruns : (s.unit (unitOf c)).state = .running) : UnitsTied (endLightWith c cause residual s) := by
  obtain ⟨hcount, hidle, hrest⟩ := endUnit_units (unitOf c) cause residual (s.chan c).program s
  have hactive : (s.unit (unitOf c)).state ≠ .idle := by rw [hruns]; decide
  have hchan : ∀ d, ((Machine.endLightWith c cause residual s).chan d).source =
      if d = c then .manual else (s.chan d).source := fun d => by
    have hformed := congrFun (sources_formDesired c ((endUnit (unitOf c) cause residual (s.chan c).program s).modChan c
      fun ch => { ch with step := none, frames := 0, source := .manual })) d
    refine hformed.trans ?_
    rw [sources, State.chan_modChan]
    split
    · rfl
    · exact congrFun (sources_of_ltc (s := s) (by simp)) d
  refine ⟨(h.status.endUnit cause _ _ hactive).of_same rfl fun u => ⟨rfl, id⟩,
    ⟨use_of_ended h.use hactive hidle hrest hcount, fun d => ?_⟩,
    h.winch.of_states (hrest 0 (Fin.succ_ne_zero c).symm).1 (by simp) (by simp)⟩
  rw [hchan]
  by_cases hd : d = c
  · subst hd
    have hstate : ((Machine.endLightWith d cause residual s).unit (unitOf d)).state = .idle := hidle
    rw [hstate]
    simp
  · have hstate : ((Machine.endLightWith c cause residual s).unit (unitOf d)).state = (s.unit (unitOf d)).state :=
      (hrest (unitOf d) fun hu => hd (Fin.succ_injective _ hu)).1
    rw [hstate, if_neg hd]
    exact h.use.source d

end Sys2Proof.Machine

/-! The use counts, the outstanding statuses and the executing blocks agree with the unit contexts: the parts of an act,
and O43. -/

namespace Sys2Proof.Machine

section
variable {s : State}

/-- Where the list, the contexts, the winch and the sources are kept. -/
theorem UnitsTied.frame {t : State} (h : UnitsTied s) (hnq : t.nq = s.nq) (hpgc : t.pgc = s.pgc) (hwch : t.wch = s.wch)
    (hsource : sources t = sources s) : UnitsTied t := h.same (.of_eq hnq hpgc hwch hsource)

/-! ## Light units (08 sections 8.3 and 8.4) -/

theorem UnitsTied.modChan (c : Chan) {f : Channel → Channel} (hf : ∀ ch, (f ch).source = ch.source) (h : UnitsTied s) :
    UnitsTied (s.modChan c f) := h.frame rfl rfl rfl (sources_modChan s c hf)

theorem UnitsTied.modUnit (u : UnitNo) {f : UnitCtx → UnitCtx}
    (hf : ∀ x, (f x).state = x.state ∧ (f x).walked = x.walked ∧ (f x).stacked = x.stacked) (h : UnitsTied s) :
    UnitsTied (s.modUnit u f) := h.same (.modUnit s u hf)

theorem UnitsTied.formDesired (c : Chan) (h : UnitsTied s) : UnitsTied (formDesired c s) := h.modChan c fun _ => rfl

theorem UnitsTied.handLight (c : Chan) (slot : Slot) (h : UnitsTied s) : UnitsTied (handLight c slot s) :=
  h.frame (by simp) (by simp) (by simp) (by simp)

/-- A context's change that keeps its state. -/
theorem state_modUnit (s : State) (u v : UnitNo) {f : UnitCtx → UnitCtx} (hf : ∀ x, (f x).state = x.state) :
    ((s.modUnit u f).unit v).state = (s.unit v).state := by
  rw [State.unit_modUnit]
  split
  · subst_vars
    exact hf _
  · rfl

theorem UnitsTied.lightStepDone (c : Chan) (h : UnitsTied s) (hruns : (s.unit (unitOf c)).state = .running) :
    UnitsTied (lightStepDone c s) := by
  unfold Machine.lightStepDone
  dsimp only
  split
  · exact (h.modUnit _ (by intro x; exact ⟨rfl, rfl, rfl⟩)).handLight c _
  · rename_i loop _
    have hloop : UnitsTied (s.modUnit (unitOf c) fun y => { y with loop := loop }) := h.modUnit _ fun _ => ⟨rfl, rfl, rfl⟩
    exact hloop.endLightWith c _ _ ((state_modUnit s _ _ (by intro x; rfl)).trans hruns)

theorem UnitsTied.lightStepFrame (c : Chan) (h : UnitsTied s) : UnitsTied (lightStepFrame c s) := by
  unfold Machine.lightStepFrame
  dsimp only
  split
  · rename_i r hsource _
    have hframe : UnitsTied ((s.modChan c fun ch =>
        { ch with frames := (s.chan c).frames + 1, program := fadeLevel ch.fadeStart r.step ((s.chan c).frames + 1) }).modUnit
        (unitOf c) fun x => { x with progress := (s.chan c).frames + 1 }) :=
      (h.modChan c (by intro ch; rfl)).modUnit _ fun _ => ⟨rfl, rfl, rfl⟩
    split
    · exact hframe.lightStepDone c ((state_modUnit _ _ _ (by intro x; rfl)).trans ((h.use.source c).2.mp hsource))
    · exact hframe
  · exact h

theorem UnitsTied.channelFrame (c : Chan) (h : UnitsTied s) : UnitsTied (channelFrame s c) := by
  have hblink : UnitsTied (blinkFrame c s) := h.modChan c fun ch => by split <;> rfl
  have hformed := (hblink.lightStepFrame c).formDesired c
  exact hformed.modChan c (f := fun ch => { ch with applied := min ch.desired (State.lightCap _ c) }) fun _ => rfl

theorem UnitsTied.lightsFrame (h : UnitsTied s) : UnitsTied (lightsFrame s) := by
  have hphase : UnitsTied (s.modLtc fun l => { l with hazard := l.hazard.map fun phase => (phase + 1) % 100 }) :=
    h.frame rfl rfl rfl rfl
  exact foldl_preserves (P := UnitsTied) (fun t c h => h.channelFrame c) allChans _ hphase

theorem UnitsTied.cutoffLights (h : UnitsTied s) : UnitsTied (cutoffLights s) := by
  refine foldl_preserves (P := UnitsTied) (fun t c h => ?_) allChans s h
  unfold haltLight
  split
  · exact h.endLightWith c _ _ ‹_›
  · exact h

/-- R121: a unit without an outstanding status. -/
theorem statuses_of_outstanding {u : UnitNo} (h : s.outstanding u = none) : statuses s u = 0 := by
  have hqueue : ∀ q, queuedEnding u q = none → endings u q = 0 := fun q => by
    induction q with
    | nil => exact fun _ => rfl
    | cons n q ih =>
      intro hq
      rw [← List.singleton_append, endings_append]
      cases n with
      | unitEnded e =>
        rw [queuedEnding] at hq
        split at hq
        · contradiction
        · rename_i he
          rw [endings_unitEnded, if_neg he, ih hq]
      | _ =>
        rw [ih hq]
        rfl
  unfold State.outstanding at h
  split at h
  · contradiction
  · rename_i hq
    rw [statuses, hqueue _ hq, h]
    rfl

/-- R114: the contexts and the counts after a start. -/
theorem startContext_units (u : UnitNo) (first : Slot) (slots : List Slot) (tag : Byte) (s : State) :
    (startContext u first slots tag s).pgc.useCount =
      changeUse ((startContext u first slots tag s).unit u).walked (· + 1) s.pgc.useCount ∧
    ((startContext u first slots tag s).unit u).state = .running ∧
    ((startContext u first slots tag s).unit u).stacked = (s.unit u).stacked ∧
    ∀ v, v ≠ u → (startContext u first slots tag s).unit v = s.unit v := by
  have hunit : ∀ v, (startContext u first slots tag s).unit v = (s.modUnit u fun x =>
      { x with state := .running, first := first, current := first, walked := slots, loop := .notLoaded,
               progress := 0, haltCause := none, tag := tag }).unit v := fun v => by
    rw [startContext, unit_modPgc _ _ rfl]
  refine ⟨?_, ?_, ?_, fun v hv => ?_⟩ <;> rw [hunit]
  · rw [State.unit_modUnit_self]
    simp [startContext]
  · rw [State.unit_modUnit_self]
  · rw [State.unit_modUnit_self]
  · rw [State.unit_modUnit_ne _ _ hv]

/-- R121: a unit starts with no status outstanding. -/
theorem StatusOk.start {u : UnitNo} (first : Slot) (slots : List Slot) (tag : Byte) (h : StatusOk s)
    (hstatus : s.outstanding u = none) : StatusOk (startContext u first slots tag s) := by
  obtain ⟨-, -, hstacked, hrest⟩ := startContext_units u first slots tag s
  have hall : ∀ v, ((startContext u first slots tag s).unit v).stacked = (s.unit v).stacked := fun v => by
    by_cases hv : v = u
    · rw [hv, hstacked]
    · rw [hrest v hv]
  have hsame : ∀ v, statuses (startContext u first slots tag s) v = statuses s v := fun v => by
    rw [statuses, statuses, hall]
    simp
  refine ⟨fun v => ?_, fun v e he => h.own v e (hall v ▸ he)⟩
  rw [hsame]
  by_cases hv : v = u
  · rw [hv, statuses_of_outstanding hstatus]
    exact ⟨Nat.zero_le _, fun _ => rfl⟩
  · rw [hrest v hv]
    exact h.outstanding v

/-- R114: the winch unit starts. -/
theorem UnitsTied.startWinch (first : Slot) (slots : List Slot) (tag : Byte) (hstatus : s.outstanding 0 = none)
    (hidle : (s.unit 0).state = .idle) (h : UnitsTied s) : UnitsTied (startContext 0 first slots tag s) := by
  obtain ⟨hcount, hruns, -, hrest⟩ := startContext_units 0 first slots tag s
  have hwch : (startContext 0 first slots tag s).wch = s.wch := by simp
  refine ⟨h.status.start first slots tag hstatus, ⟨use_of_started h.use hidle hruns (fun v hv => ?_) hcount,
    source_of_winch h.use (fun v hv => ?_) (sources_of_ltc (by simp))⟩, ⟨fun hno => ?_, fun hb => ?_⟩⟩
  · rw [hrest v hv]
    exact ⟨rfl, rfl⟩
  · rw [hrest v hv]
  · rw [hruns] at hno
    contradiction
  · rw [WinchBegun, hwch, h.winch.idle hidle] at hb
    simp at hb

/-- R114, R147: a light unit that starts. -/
theorem UnitsTied.startLight (c : Chan) (first : Slot) (slots : List Slot) (tag : Byte)
    (hstatus : s.outstanding (unitOf c) = none) (hidle : (s.unit (unitOf c)).state = .idle) (h : UnitsTied s) :
    UnitsTied (startLightUnit c first (startContext (unitOf c) first slots tag s)) := by
  obtain ⟨hcount, hruns, -, hrest⟩ := startContext_units (unitOf c) first slots tag s
  have hunits : ∀ v, (startLightUnit c first (startContext (unitOf c) first slots tag s)).unit v =
      (startContext (unitOf c) first slots tag s).unit v := fun v => by
    simp only [State.unit, startLightUnit_frame]
  have hsource : ∀ d, ((startLightUnit c first (startContext (unitOf c) first slots tag s)).chan d).source =
      if d = c then .program else (s.chan d).source := fun d => by
    have hformed : sources (startLightUnit c first (startContext (unitOf c) first slots tag s)) =
        sources ((startContext (unitOf c) first slots tag s).modChan c fun ch =>
          { ch with source := .program, program := ch.manual }) := by
      rw [startLightUnit, sources_formDesired, sources_handLight]
    refine (congrFun hformed d).trans ?_
    rw [sources, State.chan_modChan]
    split
    · rfl
    · exact congrFun (sources_of_ltc (s := s) (by simp)) d
  refine ⟨(h.status.start first slots tag hstatus).of_same (by simp) fun v => ?_,
    ⟨use_of_started h.use hidle (by rw [hunits, hruns]) (fun v hv => ?_) (by rw [hunits, ← hcount]; simp), fun d => ?_⟩,
    h.winch.of_states ?_ (by simp) (by simp)⟩
  · rw [hunits]
    exact ⟨rfl, id⟩
  · rw [hunits, hrest v hv]
    exact ⟨rfl, rfl⟩
  · rw [hsource, hunits]
    by_cases hd : d = c
    · subst hd
      rw [hruns]
      simp
    · rw [if_neg hd, hrest (unitOf d) fun hu => hd (Fin.succ_injective _ hu)]
      exact h.use.source d
  · rw [hunits, hrest 0 (Fin.succ_ne_zero c).symm]

/-! ## The winch -/

/-- R140, R133: while the winch works on its program, the units stay as they are. -/
theorem WinchMoves.units {t : State} (h : WinchMoves s t) (u : UnitNo) : (t.unit u).state = (s.unit u).state ∧
    (t.unit u).walked = (s.unit u).walked ∧ (t.unit u).stacked = (s.unit u).stacked := by
  by_cases hu : u = 0
  · subst hu
    exact ⟨(congrArg UnitCtx.state h.unit :), (congrArg UnitCtx.walked h.unit :), (congrArg UnitCtx.stacked h.unit :)⟩
  · rw [h.lights u hu]
    exact ⟨rfl, rfl, rfl⟩

theorem StatusOk.moves {t : State} (h : StatusOk s) (hm : WinchMoves s t) : StatusOk t :=
  h.of_same hm.nq fun u => ⟨(hm.units u).2.2, by rw [(hm.units u).1]; exact id⟩

theorem UseOk.moves {t : State} (h : UseOk s) (hm : WinchMoves s t) : UseOk t :=
  h.of_states hm.useCount (fun u => ⟨(hm.units u).1, (hm.units u).2.1⟩) (sources_of_ltc hm.ltc)

/-- R132, R140: a step begins for a running unit, and an idle unit's winch is idle. -/
theorem UnitsTied.moves {t : State} (h : UnitsTied s) (hm : WinchMoves s t) (htied : WinchTied s t) : UnitsTied t := by
  have hunit := (hm.units 0).1
  refine ⟨h.status.moves hm, h.use.moves hm, ⟨fun hidle => ?_, fun hb => ?_⟩⟩
  · rw [hunit] at hidle
    have hwch := h.winch.idle hidle
    obtain hruns | hkept := htied
    · rw [hruns] at hidle
      contradiction
    · rw [hkept (by rw [WinchBegun, hwch]; simp), hwch]
  · have hruns : (s.unit 0).state = .running := by
      obtain hruns | hkept := htied
      · exact hruns
      · by_contra hno
        have hbefore : ¬ WinchBegun s := fun hb => hno (h.winch.begun hb).1
        rw [WinchBegun, hkept hbefore] at hb
        exact hbefore hb
    refine ⟨hunit.trans hruns, ?_⟩
    obtain ⟨hbefore, hclutch⟩ | hstill := hm.begun hb
    · rw [hclutch]
      exact (h.winch.begun hbefore).2
    · exact hstill

/-- R140: an end of the program after moves. -/
theorem UnitsTied.ends {t : State} (cause : EndCause) (h : UnitsTied s) (hm : WinchMoves s t)
    (hactive : WinchBegun s ∨ (s.unit 0).state ≠ .idle) : UnitsTied (winchEnd cause t) := by
  refine unitsTied_winchEnd cause (h.status.moves hm) (h.use.moves hm) ?_
  rw [(hm.units 0).1]
  obtain hb | hne := hactive
  · rw [(h.winch.begun hb).1]
    decide
  · exact hne

/-- R116: the winch unit waits for its moving clutch. -/
theorem UnitsTied.halting (cause : EndCause) (h : UnitsTied s) (hruns : (s.unit 0).state = .running)
    (hmoves : s.wch.clutch.moving = true) :
    UnitsTied (s.modUnit 0 fun x => { x with state := .halting, haltCause := some cause }) := by
  have hself : ((s.modUnit 0 fun x => { x with state := .halting, haltCause := some cause }).unit 0) =
      { s.unit 0 with state := .halting, haltCause := some cause } := State.unit_modUnit_self ..
  have hrest : ∀ v, v ≠ 0 →
      (s.modUnit 0 fun x => { x with state := .halting, haltCause := some cause }).unit v = s.unit v :=
    fun v hv => State.unit_modUnit_ne _ _ hv
  refine ⟨h.status.of_same rfl fun v => ?_, ⟨fun slot => ?_, source_of_winch h.use (fun v hv => by rw [hrest v hv]) rfl⟩,
    ⟨fun hno => ?_, fun hb => ?_⟩⟩
  · by_cases hv : v = 0
    · subst hv
      rw [hself, hruns]
      exact ⟨rfl, fun _ => by decide⟩
    · rw [hrest v hv]
      exact ⟨rfl, id⟩
  · rw [State.modUnit_useCount, h.use.use]
    refine (holders_congr (fun v => ?_) slot).symm
    by_cases hv : v = 0
    · subst hv
      rw [hself, UnitCtx.active, UnitCtx.active, hruns]
      exact ⟨rfl, rfl⟩
    · rw [hrest v hv]
      exact ⟨rfl, rfl⟩
  · rw [hself] at hno
    contradiction
  · have hstill := (h.winch.begun hb).2
    rw [hmoves] at hstill
    contradiction

theorem UnitsTied.haltWinch (cause : EndCause) (h : UnitsTied s) : UnitsTied (haltWinch cause s) := by
  obtain ⟨hruns, -, ht⟩ | ⟨hruns, hmoves, ht⟩ | ⟨-, ht⟩ := haltWinch_cases cause s <;> rw [ht]
  · exact unitsTied_winchEnd cause h.status h.use (by rw [hruns]; decide)
  · exact h.halting cause hruns hmoves
  · exact h

end

end Sys2Proof.Machine

/-! The use counts, the outstanding statuses and the executing blocks agree with the unit contexts: O43. -/

namespace Sys2Proof.Machine

section
variable {s : State}

/-! ## Halts and kills of the winch unit -/

/-- R116: a halt leaves the operating state. -/
theorem haltWinch_vsc (cause : EndCause) (s : State) : (haltWinch cause s).vsc = s.vsc := by
  obtain ⟨-, -, ht⟩ | ⟨-, -, ht⟩ | ⟨-, ht⟩ := haltWinch_cases cause s <;> rw [ht]
  · simp
  · rfl

/-- R12: after a halt the winch unit does not run. -/
theorem haltWinch_state (cause : EndCause) (s : State) : ((haltWinch cause s).unit 0).state ≠ .running ∧
    ((s.unit 0).state = .idle → ((haltWinch cause s).unit 0).state = .idle) := by
  obtain ⟨hruns, -, ht⟩ | ⟨hruns, -, ht⟩ | ⟨hno, ht⟩ := haltWinch_cases cause s <;> rw [ht]
  · rw [winchEnd_idle]
    exact ⟨by decide, fun _ => rfl⟩
  · rw [State.unit_modUnit_self, hruns]
    exact ⟨UnitState.noConfusion, fun h => by contradiction⟩
  · exact ⟨hno, id⟩

theorem UnitsTied.winchKill (cause : EndCause) (h : UnitsTied s) : UnitsTied (winchKill cause s) := by
  obtain ⟨hactive, ht⟩ | ⟨-, ht⟩ := winchKill_cases cause s <;> rw [ht]
  · exact unitsTied_winchEnd cause h.status h.use hactive
  · exact h

/-- R117: after a kill the winch unit is idle. -/
theorem winchKill_idle (cause : EndCause) (s : State) : ((winchKill cause s).unit 0).state = .idle := by
  obtain ⟨-, ht⟩ | ⟨hidle, ht⟩ := winchKill_cases cause s <;> rw [ht]
  · exact winchEnd_idle cause s
  · exact hidle

/-! ## Entries -/

theorem UnitsTied.overlayTests (h : UnitsTied s) : UnitsTied (overlayTests s) :=
  h.frame rfl rfl rfl (sources_overlayTests s)

theorem UnitsTied.hazardStop (h : UnitsTied s) : UnitsTied (hazardStop s) :=
  h.frame rfl rfl rfl (sources_hazardStop s)

/-- R128: the clutch at the entry to ARMED, with the winch idle. -/
theorem UnitsTied.clutchArmed (h : UnitsTied s) (hwinch : s.wch.state = .idle) : UnitsTied (clutchArmed s) := by
  unfold Machine.clutchArmed
  split
  · obtain ⟨-, ht⟩ | ⟨-, ht⟩ := startClutch_cases .engaged s <;> rw [ht]
    · exact h
    · exact
        { status := h.status.of_same rfl fun u => ⟨rfl, id⟩
          use := h.use.of_states rfl (fun u => ⟨rfl, rfl⟩) rfl
          winch := ⟨h.winch.idle, fun hb => by simp [WinchBegun, hwinch] at hb⟩ }
  · exact h

/-- R128: the clutch at an entry to PARKED. -/
theorem UnitsTied.parkClutch (h : UnitsTied s) : UnitsTied (parkClutch s) := by
  refine h.same { SameUnits.refl s with state := ?_, clutch := fun hstill => ?_ }
  · simp only [Machine.parkClutch, State.modWch_wch]
    split <;> rfl
  · simp [Machine.parkClutch, hstill]

theorem UnitsTied.enterParked (cause : OpCause) (h : UnitsTied s) : UnitsTied (enterParked cause s) := by
  have hchanged : UnitsTied (Machine.changeOp .parked cause (s.modVsc fun v =>
      { v with latch := true, hold := none, grace := none, origin := .none })) := (h.modVsc _).changeOp .parked cause
  have htraction : UnitsTied (tractionParked (steerParked (scanWatch (Machine.changeOp .parked cause (s.modVsc fun v =>
      { v with latch := true, hold := none, grace := none, origin := .none }))))) :=
    hchanged.frame (by simp) (by simp) (by simp) (by
      rw [tractionParked, sources_publishDuties]
      exact sources_of_ltc (by simp))
  exact htraction.parkClutch.hazardStop

/-- R16: the entry to PARKED leaves the units. -/
theorem enterParked_unit (cause : OpCause) (s : State) (u : UnitNo) :
    ((enterParked cause s).unit u).state = (s.unit u).state := by
  have hpgc : (enterParked cause s).pgc = (changeOp .parked cause (s.modVsc fun v =>
      { v with latch := true, hold := none, grace := none, origin := .none })).pgc := by
    simp [enterParked, parkedActions, parkClutch]
  have hunit : (enterParked cause s).unit u = (changeOp .parked cause (s.modVsc fun v =>
      { v with latch := true, hold := none, grace := none, origin := .none })).unit u := by
    rw [State.unit, State.unit, hpgc]
  rw [hunit, changeOp_state, State.unit_modVsc]

theorem UnitsTied.shutdownAsked (origin : Origin) (cause : OpCause) (h : UnitsTied s) :
    UnitsTied (shutdownAsked origin cause s) := by
  have hchanged : UnitsTied (Machine.changeOp .shuttingDown cause (s.modVsc fun v =>
      { v with origin := origin, hold := none, grace := some s.cfg.vsc.grace })) :=
    (h.modVsc _).changeOp .shuttingDown cause
  refine hchanged.frame (by simp [Machine.shutdownAsked]) (by simp [Machine.shutdownAsked])
    (by simp [Machine.shutdownAsked]) ?_
  rw [Machine.shutdownAsked, sources_hazardStop, tractionShutdown, sources_publishDuties]
  exact sources_of_ltc (by simp [classifyTraction, chooseModes])

theorem shutdownAsked_op (origin : Origin) (cause : OpCause) (s : State) :
    (shutdownAsked origin cause s).vsc.op = .shuttingDown := by
  simp [shutdownAsked, changeOp_vsc]

theorem UnitsTied.failsafeAsked (h : UnitsTied s) : UnitsTied (failsafeAsked s) := by
  have hchanged : UnitsTied (Machine.changeOp .failsafe .linkLost (Machine.offer (.failsafe 1 s.vsc.op)
      (s.modVsc fun v => { v with expiryCount := 1, hold := some s.cfg.vsc.holdTime }))) :=
    ((h.modVsc _).offer _).changeOp .failsafe .linkLost
  refine hchanged.frame (by simp [Machine.failsafeAsked]) (by simp [Machine.failsafeAsked])
    (by simp [Machine.failsafeAsked]) ?_
  rw [Machine.failsafeAsked, sources_hazardStart, tractionFailsafe, sources_publishDuties]
  exact sources_of_ltc (by simp [classifyTraction])

theorem failsafeAsked_op (s : State) : (failsafeAsked s).vsc.op = .failsafe := by
  simp [failsafeAsked, changeOp_vsc]

theorem UnitsTied.enterTripped (added : List TripCause) (first : TripCause) (h : UnitsTied s) :
    UnitsTied (enterTripped added first s) := by
  have hchanged : UnitsTied (Machine.changeOp .tripped .trip (Machine.offer (.tripEntered (s.vsc.causes.addAll added) first)
      (s.modVsc fun v => { v with causes := v.causes.addAll added, firstCause := some first, hold := none, grace := none,
                                  origin := .none }))) :=
    ((h.modVsc _).offer _).changeOp .tripped .trip
  refine UnitsTied.winchKill .tripped (hchanged.frame (by simp) (by simp) (by simp) ?_)
  rw [sources_hazardStart, tractionTripped, sources_publishDuties]
  exact sources_of_ltc (by simp)

theorem UnitsTied.forceShutdown (h : UnitsTied s) : UnitsTied (forceShutdown s) := by
  have htraction : UnitsTied (tractionForced s) :=
    h.frame (by simp) (by simp) (by simp) (by rw [tractionForced, sources_publishDuties]; rfl)
  exact (htraction.winchKill .forced).parkClutch.enterParked .shutdownForced

/-- R4: the entry to ARMED, where the winch unit is idle. -/
theorem UnitsTied.enterArmed (h : UnitsTied s) (hidle : (s.unit 0).state = .idle) : UnitsTied (enterArmed s) := by
  have hchanged : UnitsTied (Machine.changeOp .armed .arm (s.modVsc fun v =>
      { v with expiryCount := 0, latch := true, hold := some s.cfg.vsc.holdTime })) := (h.modVsc _).changeOp .armed .arm
  have hwinch := h.winch.idle hidle
  have htraction : UnitsTied (tractionArmed (steerArmed (scanContinuous (Machine.changeOp .armed .arm (s.modVsc fun v =>
      { v with expiryCount := 0, latch := true, hold := some s.cfg.vsc.holdTime }))))) := by
    refine hchanged.frame (by simp) (by simp) (by simp) ?_
    rw [tractionArmed, sources_publishDuties]
    exact sources_of_ltc (by simp [classifyTraction, chooseModes, formTargets, takeDig])
  exact (htraction.clutchArmed (by simp [hwinch])).overlayTests

theorem UnitsTied.driveTaken (throttle steer : Int) (dig : Dig) (h : UnitsTied s) :
    UnitsTied (driveTaken throttle steer dig s) := by
  have hreturned : UnitsTied (driveReturns s) := by
    unfold driveReturns
    split
    · have hchanged : UnitsTied (Machine.changeOp .armed .linkRestored (s.modVsc fun v =>
          { v with expiryCount := 0, latch := true, hold := some s.cfg.vsc.holdTime })) :=
        (h.modVsc _).changeOp .armed .linkRestored
      refine hchanged.frame (by simp [linkRestored]) (by simp [linkRestored]) (by simp [linkRestored]) ?_
      rw [linkRestored, sources_hazardStop]
      exact sources_of_ltc (by simp)
    · exact h
  refine hreturned.frame (by simp [Machine.driveTaken]) (by simp [Machine.driveTaken]) (by simp [Machine.driveTaken]) ?_
  rw [Machine.driveTaken, sources_overlayTests]
  exact sources_of_ltc (by simp)

/-! ## The winch unit while light units run, start and end -/

theorem endLightWith_winch (c : Chan) (cause : EndCause) (residual : Nat) (s : State) :
    ((endLightWith c cause residual s).unit 0).state = (s.unit 0).state :=
  ((endUnit_units (unitOf c) cause residual (s.chan c).program s).2.2 0 (Fin.succ_ne_zero c).symm).1

theorem lightStepDone_winch (c : Chan) (s : State) : ((lightStepDone c s).unit 0).state = (s.unit 0).state := by
  have hother (f : UnitCtx → UnitCtx) : (s.modUnit (unitOf c) f).unit 0 = s.unit 0 :=
    State.unit_modUnit_ne _ _ (Fin.succ_ne_zero c).symm
  unfold lightStepDone
  dsimp only
  split
  · rename_i slot loop _
    have hhanded : (handLight c slot (passTo (unitOf c) slot loop s)).unit 0 = (passTo (unitOf c) slot loop s).unit 0 := by
      simp only [State.unit, handLight_frame]
    rw [hhanded, passTo, hother]
  · exact (endLightWith_winch c _ _ _).trans (by rw [hother])

theorem channelFrame_winch (c : Chan) (s : State) : ((channelFrame s c).unit 0).state = (s.unit 0).state := by
  have hother (t : State) (f : UnitCtx → UnitCtx) : (t.modUnit (unitOf c) f).unit 0 = t.unit 0 :=
    State.unit_modUnit_ne _ _ (Fin.succ_ne_zero c).symm
  have hstep : ((lightStepFrame c (blinkFrame c s)).unit 0).state = ((blinkFrame c s).unit 0).state := by
    unfold lightStepFrame
    dsimp only
    split
    · split
      · rw [lightStepDone_winch, hother, State.unit_modChan]
      · rw [hother, State.unit_modChan]
    · rfl
  exact hstep

theorem lightsFrame_winch (s : State) : ((lightsFrame s).unit 0).state = (s.unit 0).state :=
  foldl_preserves (P := fun t => (t.unit 0).state = (s.unit 0).state)
    (fun t c h => (channelFrame_winch c t).trans h) allChans _ rfl

theorem cutoffLights_winch (s : State) : ((cutoffLights s).unit 0).state = (s.unit 0).state := by
  refine foldl_preserves (P := fun t => (t.unit 0).state = (s.unit 0).state) (fun t c h => ?_) allChans s rfl
  unfold haltLight
  split
  · exact (endLightWith_winch c _ _ t).trans h
  · exact h

/-! ## The parts of an act -/

theorem UnitsOk.tied (h : UnitsOk s) : UnitsTied s := ((unitsOk_iff s).mp h).1

theorem UnitsOk.allowed (h : UnitsOk s) : WinchAllowed s.vsc.op (s.unit 0).state := ((unitsOk_iff s).mp h).2

theorem UnitsTied.ok (h : UnitsTied s) (hallowed : WinchAllowed s.vsc.op (s.unit 0).state) : UnitsOk s :=
  (unitsOk_iff s).mpr ⟨h, hallowed⟩

/-- R112: an idle winch unit is allowed in every operating state. -/
theorem winchAllowed_idle (op : OpState) : WinchAllowed op .idle := ⟨fun h => absurd rfl h, fun _ => UnitState.noConfusion⟩

theorem UnitsTied.okIdle (h : UnitsTied s) (hidle : (s.unit 0).state = .idle) : UnitsOk s :=
  h.ok (hidle ▸ winchAllowed_idle _)

/-- R112: in ARMED and FAILSAFE the winch unit may be in any state. -/
theorem UnitsTied.okDriven (h : UnitsTied s) (hop : s.vsc.op.driven = true) : UnitsOk s :=
  h.ok ⟨fun _ => ⟨fun hp => by rw [hp] at hop; contradiction, fun ht => by rw [ht] at hop; contradiction⟩,
    fun hs => by rw [hs] at hop; contradiction⟩

/-- R112: where neither the operating state nor the winch unit's state changes. -/
theorem UnitsOk.keep {t : State} (h : UnitsOk s) (ht : UnitsTied t) (hop : t.vsc.op = s.vsc.op)
    (hunit : (t.unit 0).state = (s.unit 0).state) : UnitsOk t := ht.ok (by rw [hop, hunit]; exact h.allowed)

theorem UnitsOk.same {t : State} (h : UnitsOk s) (hs : SameUnits s t) (hop : t.vsc.op = s.vsc.op) : UnitsOk t :=
  h.keep (h.tied.same hs) hop (hs.unit 0).1

/-- R112: in PARKED and TRIPPED the winch unit is idle. -/
theorem UnitsOk.idle_of (h : UnitsOk s) (hop : s.vsc.op = .parked ∨ s.vsc.op = .tripped) : (s.unit 0).state = .idle := by
  by_contra hne
  obtain ⟨hparked, htripped⟩ := h.allowed.1 hne
  exact hop.elim hparked htripped

/-- R163: a stacked status that is cleared leaves the rest of its context. -/
theorem UnitsOk.unstack (u : UnitNo) (h : UnitsOk s) : UnitsOk (s.modUnit u fun x => { x with stacked := none }) := by
  have hunit : ∀ v, ((s.modUnit u fun x => { x with stacked := none }).unit v).state = (s.unit v).state ∧
      ((s.modUnit u fun x => { x with stacked := none }).unit v).walked = (s.unit v).walked := fun v => by
    rw [State.unit_modUnit]
    split
    · subst_vars
      exact ⟨rfl, rfl⟩
    · exact ⟨rfl, rfl⟩
  exact h.keep ⟨h.tied.status.unstack u, h.tied.use.of_states rfl hunit rfl, h.tied.winch.of_states (hunit 0).1 rfl id⟩
    rfl (hunit 0).1

/-- R162: an entry leaves the list. -/
theorem UnitsOk.dequeue {q : List Notice} (hq : q.Sublist s.nq) (h : UnitsOk s) : UnitsOk (s.modNq fun _ => q) := by
  refine h.keep ⟨h.tied.status.of_le (fun v => Nat.add_le_add_right ?_ _) (fun _ => rfl) h.tied.status.own,
    h.tied.use.of_states rfl (fun _ => ⟨rfl, rfl⟩) rfl, h.tied.winch.of_states rfl rfl id⟩ rfl rfl
  exact hq.countP_le

/-- R12: a shutdown that begins halts the winch unit. -/
theorem unitsOk_shutdown (origin : Origin) (cause : OpCause) (why : EndCause) (h : UnitsTied s) :
    UnitsOk (haltWinch why (shutdownAsked origin cause s)) := by
  refine ((h.shutdownAsked origin cause).haltWinch why).ok ?_
  rw [haltWinch_vsc, shutdownAsked_op]
  exact ⟨fun _ => ⟨OpState.noConfusion, OpState.noConfusion⟩, fun _ => (haltWinch_state why _).1⟩

/-- R152: the test of one channel leaves the sources. -/
theorem sources_overlayTest (c : Chan) (s : State) : sources (overlayTest c s) = sources s := by
  funext d
  rw [sources, overlayTest, State.chan_modChan]
  split
  · subst_vars
    exact overlayChannel_source s d
  · rfl

/-- R178: a SET leaves the units. -/
theorem sameUnits_storeSetting (k : Key) (v : Nat) (s : State) : SameUnits s (storeSetting k v s) := by
  have hsource : sources (storeSetting k v s) = sources s := by
    unfold storeSetting
    split
    · rfl
    · cases k with
      | plain p =>
        cases p with
        | turnThreshold => exact sources_overlayTests _
        | slowThreshold => exact sources_overlayTests _
        | _ => exact sources_of_ltc (by simp [settingChanged, plainChanged])
      | axle a x => exact sources_of_ltc (by simp [settingChanged])
      | chan j c =>
        cases j with
        | cls => rfl
        | overlay => exact sources_overlayTest c _
        | rated => exact sources_formDesired c _
        | overlayLevel => exact sources_formDesired c _
  have hwch : (storeSetting k v s).wch.state = s.wch.state ∧ (storeSetting k v s).wch.clutch = s.wch.clutch := by
    unfold storeSetting
    split
    · exact ⟨rfl, rfl⟩
    · by_cases hk : k = .plain .lineMax
      · subst hk
        exact ⟨rfl, rfl⟩
      · rw [settingChanged_wch hk]
        exact ⟨rfl, rfl⟩
  exact { SameUnits.refl s with
    nq := by simp
    unit := fun u => by simp [State.unit]
    useCount := by simp
    state := hwch.1
    clutch := by rw [hwch.2]; exact id
    source := hsource }

/-- R103, R159: at a reset every unit is idle and no status stands. -/
theorem unitsOk_resetTo (cfg : Settings) (store : Vector StepRec 128) (fns : Vector LineFn 4) (position : Nat)
    (old : OpState) (s : State) : UnitsOk (resetTo cfg store fns position old s) := by
  have hunit : ∀ u, (resetTo cfg store fns position old s).unit u = .atReset := fun u => by
    simp [State.unit, resetTo, Pgc.atReset]
  have hchan : ∀ c, (resetTo cfg store fns position old s).chan c = .atReset := fun c => by
    simp [State.chan, resetTo, Ltc.atReset]
  have hholders : ∀ slot, holders (resetTo cfg store fns position old s) slot = 0 := fun slot =>
    List.countP_eq_zero.mpr fun u _ => by simp [hunit, UnitCtx.active, UnitCtx.atReset]
  refine UnitsTied.okIdle ⟨⟨fun u => ?_, fun u e he => ?_⟩, ⟨fun slot => ?_, fun c => ?_⟩,
    ⟨fun _ => rfl, fun hb => ?_⟩⟩ (by rw [hunit]; rfl)
  · have hnone : statuses (resetTo cfg store fns position old s) u = 0 := by
      rw [statuses, hunit]
      rfl
    rw [hnone]
    exact ⟨Nat.zero_le _, fun _ => rfl⟩
  · rw [hunit] at he
    contradiction
  · rw [hholders]
    simp [resetTo, Pgc.atReset]
  · rw [hunit, hchan]
    simp [UnitCtx.atReset, Channel.atReset]
  · simp [WinchBegun, resetTo, Wch.atReset] at hb

/-- R73: a drive frame leaves the units. -/
theorem UnitsTied.driveFrame (h : UnitsTied s) : UnitsTied (driveFrame s) := by
  refine h.frame (by simp) (by simp) (by simp) ?_
  rw [Machine.driveFrame, sources_publishDuties]
  exact sources_of_ltc (by simp [classifyTraction, chooseModes, slewAxle, formTargets, takeRatio, takeDig])

/-- R127: where a move has ended the clutch is still. -/
theorem moving_arrived (c : ClutchState) : c.arrived.moving = false := by cases c <;> rfl

/-- R104: a stored run leaves the units. -/
theorem sameUnits_writeSteps (first : Nat) (records : List StepRec) (s : State) : SameUnits s (writeSteps first records s) where
  nq := by simp
  unit := fun u => by
    rw [writeSteps, unit_modPgc _ _ rfl]
    exact ⟨rfl, rfl, rfl⟩
  useCount := by simp [writeSteps]
  state := by simp
  clutch := by simp
  source := sources_of_ltc (by simp)

/-- R166: an ASSIGN_LINE may make the clutch UNKNOWN, which does not move. -/
theorem sameUnits_assignLine (i : Fin 4) (fn : LineFn) (s : State) : SameUnits s (assignLine i fn s) := by
  unfold assignLine
  dsimp only
  split
  · exact .refl s
  · split
    · exact { SameUnits.refl s with clutch := fun _ => rfl }
    · exact .of_eq rfl rfl rfl rfl

/-- R163: a status that is taken leaves the units' states. -/
theorem UnitsOk.takeOutstanding (u : UnitNo) (h : UnitsOk s) : UnitsOk (takeOutstanding u s) := by
  obtain ⟨_, -, ht⟩ | ⟨-, ht⟩ := takeOutstanding_cases u s <;> rw [ht]
  · exact h.dequeue (removeEnding_sublist u s.nq)
  · exact h.unstack u

/-- Every part of an act keeps the units consistent. -/
theorem steadyParts_unitsOk : SteadyParts UnitsOk where
  link := fun s f h => h.same (.of_eq rfl rfl rfl rfl) rfl
  choice := fun s h => h.same (.of_eq rfl rfl rfl rfl) rfl
  fresh := fun s => unitsOk_resetTo _ _ _ _ _ s
  kept := fun s _ => unitsOk_resetTo _ _ _ _ _ s
  set := fun s k w v _ h => h.same (sameUnits_storeSetting k v s) (by simp)
  arm := fun s hop _ h =>
    (h.tied.enterArmed (h.idle_of (.inl hop))).okDriven (by simp [enterArmed, changeOp_vsc, OpState.driven])
  shutdown := fun origin cause s _ _ h => unitsOk_shutdown origin cause _ h.tied
  expires := fun s _ h => unitsOk_shutdown _ _ _ ((h.tied.modVsc _).offer _)
  parks := fun s _ hdone h => (h.tied.enterParked _).okIdle (by
    rw [enterParked_unit]
    simp only [shutdownDone, Bool.and_eq_true, decide_eq_true_eq] at hdone
    exact hdone.1.2)
  forces := fun s _ h => h.tied.forceShutdown.okIdle (by
    rw [forceShutdown, enterParked_unit]
    exact winchKill_idle .forced _)
  leaves := fun s hop h => ((h.tied.modVsc _).enterParked _).okIdle (by
    rw [enterParked_unit]
    exact h.idle_of (.inr hop))
  failsafe := fun s _ h => (h.tied.failsafeAsked.haltWinch _).okDriven (by rw [haltWinch_vsc, failsafeAsked_op]; rfl)
  trips := fun added first s _ h => (h.tied.enterTripped added first).okIdle (winchKill_idle .tripped _)
  adds := fun added s _ h => by
    unfold addCauses
    split
    · exact h
    · refine h.keep ((h.tied.modVsc _).offer _) (by simp) ?_
      exact ((offer_units _ _).2 0).1
  comparator := fun s c h => h.same (.of_eq rfl rfl rfl rfl) rfl
  drive := fun throttle steer dig s hop _ h => (h.tied.driveTaken throttle steer dig).okDriven (by
    have hkept : (driveTaken throttle steer dig s).vsc.op = (driveReturns s).vsc.op := by
      simp [driveTaken, driveKeepsAlive]
    rw [hkept]
    unfold driveReturns
    split
    · simp [linkRestored, changeOp_vsc, OpState.driven]
    · exact hop)
  steerMode := fun m s h => h.same (.of_eq (by simp) (by simp) (by simp) (sources_of_ltc (by simp))) (by simp)
  setManual := fun c level s h => by
    refine h.same (.of_eq (by simp) (by simp) (by simp) ?_) (by simp)
    unfold setManual
    dsimp only
    split
    · exact (sources_formDesired c _).trans (sources_modChan s c (by intro ch; rfl))
    · exact sources_modChan s c (by intro ch; rfl)
  writeSteps := fun first records s h => h.same (sameUnits_writeSteps first records s) (by simp)
  startsWinch := fun first slots tag s hstatus hidle hop _ h =>
    (h.tied.startWinch first slots tag hstatus hidle).okDriven (by simp [hop, OpState.driven])
  startsLight := fun c first slots tag s hstatus hidle _ h =>
    h.keep (h.tied.startLight c first slots tag hstatus hidle) (by simp) (by
      simp only [State.unit, startLightUnit_frame]
      exact congrArg UnitCtx.state ((startContext_units (unitOf c) first slots tag s).2.2.2 0 (Fin.succ_ne_zero c).symm))
  takesStatus := fun u s h => h.takeOutstanding u
  haltsWinch := fun s hruns h => (h.tied.haltWinch .halted).ok (by
    rw [haltWinch_vsc]
    exact ⟨fun _ => h.allowed.1 (by rw [hruns]; decide), fun _ => (haltWinch_state _ s).1⟩)
  haltsLight := fun c s hruns h =>
    h.keep (UnitsTied.endLightWith (s := s.nextChoice) c .halted _ (h.tied.frame rfl rfl rfl rfl) hruns)
      (by simp [haltChannel]) (endLightWith_winch c _ _ _)
  lineSet := fun p s _ h => h.same { SameUnits.refl s with source := rfl } rfl
  assignLine := fun i fn s _ _ h => h.same (sameUnits_assignLine i fn s) (by simp)
  fetch := fun n rest s hq h => by
    have hrest : UnitsOk (s.modNq fun _ => rest) := h.dequeue (hq ▸ List.sublist_cons_self n rest)
    exact hrest.same (.of_eq (by simp) (by simp) (by simp) (sources_of_ltc (by simp))) (by simp)
  unstack := fun u s h => h.unstack u
  convert := fun s c k codes _ _ _ h => h.same (.of_eq rfl rfl rfl rfl) rfl
  trigger := fun b s h => h.same (.of_eq (by simp) (by simp) (by simp) (sources_of_ltc (by simp))) (by simp)
  watch := fun s h => h.same (.of_eq (by simp) (by simp) (by simp) (sources_of_ltc (by simp))) (by simp)
  driveFrame := fun s _ h => h.keep h.tied.driveFrame (by simp) (by simp [State.unit])
  servoFrame := fun s h =>
    h.same { SameUnits.refl s with source := rfl, state := rfl, clutch := id } rfl
  relax := fun s h => h.same (.of_eq (by simp) (by simp) (by simp) (sources_of_ltc (by simp))) (by simp)
  arrives := fun s h => h.same { SameUnits.refl s with source := rfl, clutch := fun _ => moving_arrived _ } rfl
  lights := fun s h => h.keep h.tied.lightsFrame (by simp) (lightsFrame_winch s)
  samples := fun pins s h => h.same (.of_eq (by simp) (by simp) (by simp) (sources_of_ltc (by simp))) (by simp)
  general := fun i s h => by
    have hflag : UnitsTied (s.modLmx fun m => { m with changed := m.changed.set i true }) := h.tied.frame rfl rfl rfl rfl
    exact h.keep (hflag.offer _) (by simp) ((offer_units _ _).2 0).1
  moves := fun s t hm htied h => h.keep (h.tied.moves hm htied) (by rw [hm.vsc]) (hm.units 0).1
  ends := fun cause s t hm hactive h => (h.tied.ends cause hm hactive).okIdle (winchEnd_idle cause t)

/-! ## Scan completions -/

theorem UnitsTied.cutAxles (capFront capRear : Nat) (why : Limiter) (h : UnitsTied s) :
    UnitsTied (cutAxles capFront capRear why s) :=
  h.frame (by simp) (by simp) (by simp) (sources_cutAxles capFront capRear why s)

theorem UnitsTied.cutWinch (h : UnitsTied s) : UnitsTied (cutWinch s) := by
  have hwch : (Machine.cutWinch s).wch.state = s.wch.state ∧ (Machine.cutWinch s).wch.clutch = s.wch.clutch := by
    unfold Machine.cutWinch
    split <;> simp [setWinchDuty]
  exact h.same { SameUnits.refl s with
    nq := by simp
    unit := fun u => by simp [State.unit]
    useCount := by simp
    state := hwch.1
    clutch := by rw [hwch.2]; exact id
    source := sources_of_ltc (by simp) }

/-- R49, R117, R63: SUP's publication. -/
theorem UnitsOk.supplyCut (h : UnitsOk s) : UnitsOk (supplyCut s) := by
  have hsup : UnitsTied (s.modSup fun _ => supNext s) := h.tied.frame rfl rfl rfl rfl
  have hnotice : UnitsTied (stageNotice s.sup.stage (s.modSup fun _ => supNext s)) ∧
      ((stageNotice s.sup.stage (s.modSup fun _ => supNext s)).unit 0).state = (s.unit 0).state := by
    unfold stageNotice
    split
    · exact ⟨hsup, rfl⟩
    · exact ⟨hsup.offer _, ((offer_units _ _).2 0).1⟩
  have hcut : ∀ t : State, UnitsTied t → (t.unit 0).state = (s.unit 0).state → t.vsc.op = s.vsc.op →
      UnitsOk (Machine.cutAxles (cutLights (Machine.cutWinch t)).sup.alloc.dutyCap.front
        (cutLights (Machine.cutWinch t)).sup.alloc.dutyCap.rear .cap (cutLights (Machine.cutWinch t))) := fun t ht hunit hop => by
    have hlights : UnitsTied (cutLights (Machine.cutWinch t)) :=
      ht.cutWinch.frame (by simp) (by simp) (by simp) (sources_cutLights _)
    exact h.keep (hlights.cutAxles _ _ _) (by simp [hop]) (by rw [← hunit]; simp [State.unit])
  unfold Machine.supplyCut
  dsimp only
  split
  · have := hcut _ hnotice.1.cutoffLights ((cutoffLights_winch _).trans hnotice.2) (by simp)
    simpa using this
  · have := hcut _ hnotice.1 hnotice.2 (by simp)
    simpa using this

theorem UnitsOk.assistCut (h : UnitsOk s) : UnitsOk (assistCut s) := by
  have hassist (f : Trc → Trc) : UnitsOk (s.modTrc f) := h.same (.of_eq rfl rfl rfl rfl) rfl
  unfold Machine.assistCut
  split
  · split
    · split
      · exact h.keep ((hassist _).tied.cutAxles _ _ _) (by simp) (by simp [State.unit])
      · exact hassist _
    · exact h
  · exact h

/-- R41, R43: SCN's part of a completion; a WATCH notice may be offered. -/
theorem UnitsOk.scanComplete (c : Scan) (h : UnitsOk s) : UnitsOk (scanComplete c s) := by
  have hscn (t : State) (f : Scn → Scn) (ht : UnitsOk t) : UnitsOk (t.modScn f) := ht.same (.of_eq rfl rfl rfl rfl) rfl
  have hpublished : UnitsOk (publishScan c s) := hscn s _ h
  have hwatched : UnitsOk (watchCheck (publishScan c s)) := by
    unfold watchCheck
    dsimp only
    split
    · split
      · exact hpublished
      · exact hscn _ _ hpublished
    · split
      · exact hpublished.keep ((hscn _ _ hpublished).tied.offer _) (by simp) ((offer_units _ _).2 0).1
      · exact hpublished
  unfold Machine.scanComplete afterScan
  split
  · exact hpublished.same (.of_eq (by simp) (by simp) (by simp) (sources_of_ltc (by simp))) (by simp)
  · split
    · exact hwatched
    · exact hpublished

/-- Every part of an act keeps the units consistent. -/
theorem steady_unitsOk : Steady UnitsOk :=
  steadyParts_unitsOk.steady
    (fun _ c _ h => h.scanComplete c) (fun _ h => h.supplyCut) (fun _ h => h.same (.of_eq rfl rfl rfl rfl) rfl)
    (fun _ h => h.assistCut)

end

/-- Settles O43: every part of an act keeps the units consistent. -/
theorem unitsStayConsistent : Obligations.UnitsStayConsistent := fun _ _ _ h he => steady_unitsOk.exec h he

end Sys2Proof.Machine

/-! What the operating state fixes (01, 04 sections 4.2, 4.5 and 4.6, 02 section 2.2.2): the pieces, and how the
classification of the traction state reads. -/

namespace Sys2Proof.Machine

/-! ## The classification (04 R77, R78) -/

/-- R77, step 3: both targets and both applied duties are 0. -/
theorem still_iff (s : State) : s.trc.still = true ↔ axlesIdle s := by
  have hzero : ∀ p : PerAxle Int, p = ⟨0, 0⟩ ↔ p.front = 0 ∧ p.rear = 0 := fun ⟨a, b⟩ => by simp
  simp only [Trc.still, axlesIdle, hzero, Bool.and_eq_true, decide_eq_true_eq, and_assoc]

/-- R77, step 4: one axle moves against its target or above it. -/
theorem axleBraking_iff (s : State) (x : Axle) :
    axleBraking (s.trc.applied.get x) (s.trc.target.get x) = true ↔ axleBrakes s x := by
  simp only [axleBraking, axleBrakes, Bool.and_eq_true, Bool.or_eq_true, decide_eq_true_eq, mul_neg_iff, or_assoc]

/-- R77, step 4: an axle brakes. -/
theorem anyBraking_iff (s : State) :
    (axleBraking s.trc.applied.front s.trc.target.front || axleBraking s.trc.applied.rear s.trc.target.rear) = true ↔
      ∃ x, axleBrakes s x := by
  rw [Bool.or_eq_true]
  constructor
  · rintro (h | h)
    · exact ⟨.front, (axleBraking_iff s .front).mp h⟩
    · exact ⟨.rear, (axleBraking_iff s .rear).mp h⟩
  · rintro ⟨x, h⟩
    cases x with
    | front => exact .inl ((axleBraking_iff s .front).mpr h)
    | rear => exact .inr ((axleBraking_iff s .rear).mpr h)

/-- R77: the classification in its order. -/
theorem classify_cases (s : State) :
    ((s.vsc.op = .parked ∨ s.vsc.op = .tripped) ∧ classify s.vsc.op s.trc = .off) ∨
    ((s.vsc.op ≠ .parked ∧ s.vsc.op ≠ .tripped) ∧ s.trc.hold ≠ .none ∧ classify s.vsc.op s.trc = .held) ∨
    (axlesFree s ∧ axlesIdle s ∧ classify s.vsc.op s.trc = .neutral) ∨
    (axlesFree s ∧ ¬ axlesIdle s ∧ (∃ x, axleBrakes s x) ∧ classify s.vsc.op s.trc = .braking) ∨
    (axlesFree s ∧ ¬ axlesIdle s ∧ (∀ x, ¬ axleBrakes s x) ∧
      classify s.vsc.op s.trc = if 0 < s.trc.throttle then .forward else .reverse) := by
  unfold classify
  by_cases hop : s.vsc.op = .parked ∨ s.vsc.op = .tripped
  · exact .inl ⟨hop, if_pos hop⟩
  rw [if_neg hop]
  have hno : s.vsc.op ≠ .parked ∧ s.vsc.op ≠ .tripped := not_or.mp hop
  by_cases hhold : s.trc.hold = .none
  swap
  · exact .inr (.inl ⟨hno, hhold, if_pos hhold⟩)
  rw [if_neg (not_not_intro hhold)]
  have hfree : axlesFree s := ⟨hno.1, hno.2, hhold⟩
  refine .inr (.inr ?_)
  by_cases hidle : axlesIdle s
  · exact .inl ⟨hfree, hidle, if_pos ((still_iff s).mpr hidle)⟩
  rw [if_neg fun h => hidle ((still_iff s).mp h)]
  by_cases hbrakes : ∃ x, axleBrakes s x
  · exact .inr (.inl ⟨hfree, hidle, hbrakes, if_pos ((anyBraking_iff s).mpr hbrakes)⟩)
  · exact .inr (.inr ⟨hfree, hidle, not_exists.mp hbrakes, if_neg fun h => hbrakes ((anyBraking_iff s).mp h)⟩)

/-- R78: a bridge brakes with a strength above 0. -/
theorem brakes_iff (m : BridgeMode) : m.brakes = true ↔ 0 < m.strength := by
  cases m <;> simp [BridgeMode.brakes, BridgeMode.strength]

/-- R78: an axle that brakes by the operating state. -/
theorem brakesByState_iff (s : State) (x : Axle) : brakesByState s.vsc.op s.trc x = true ↔
    0 < (s.trc.mode.get x).strength ∧ ¬ (s.vsc.op = .armed ∧ (digHold s.trc.digInForce x).isSome = true) := by
  rw [brakesByState, Bool.and_eq_true, brakes_iff, Bool.not_eq_true', Bool.eq_false_iff, ne_eq, Bool.and_eq_true,
    decide_eq_true_eq]

/-- A property of some axle. -/
theorem exists_axle {p : Axle → Prop} : (∃ x, p x) ↔ p .front ∨ p .rear :=
  ⟨fun ⟨x, h⟩ => by cases x <;> simp [h], fun h => h.elim (⟨_, ·⟩) (⟨_, ·⟩)⟩

/-- R78: the braking flag. -/
theorem brakingFlag_iff (s : State) : brakingFlag s.vsc.op s.trc = true ↔
    s.trc.state = .braking ∨ (s.trc.state = .neutral ∧ 0 < s.trc.dragInForce) ∨
    (s.trc.state = .held ∧ ((∃ x, s.trc.applied.get x ≠ 0) ∨
      ∃ x, 0 < (s.trc.mode.get x).strength ∧
        ¬ (s.vsc.op = .armed ∧ (digHold s.trc.digInForce x).isSome = true))) := by
  simp only [← brakesByState_iff, exists_axle]
  unfold brakingFlag
  cases s.trc.state <;> simp [or_assoc, PerAxle.get]

/-- R77, R78: the state and the flag are those of the classification. -/
structure Classified (s : State) : Prop where
  state : s.trc.state = classify s.vsc.op s.trc
  braking : s.trc.braking = brakingFlag s.vsc.op s.trc

theorem classified_iff (s : State) : Classified s ↔ TractionOk s := by
  constructor
  · rintro ⟨hstate, hflag⟩
    have hmoving : axlesFree s → ¬ axlesIdle s → (∀ x, ¬ axleBrakes s x) →
        s.trc.state = if 0 < s.trc.throttle then .forward else .reverse := fun ⟨hp, ht, hn⟩ hidle hno => by
      obtain ⟨hop, -⟩ | ⟨-, hhold, -⟩ | ⟨-, hi, -⟩ | ⟨-, -, ⟨x, hb⟩, -⟩ | ⟨-, -, -, hc⟩ := classify_cases s
      · exact (hop.elim hp ht).elim
      · exact absurd hn hhold
      · exact absurd hi hidle
      · exact absurd hb (hno x)
      · exact hstate.trans hc
    refine ⟨fun hop => ?_, fun hp ht hhold => ?_, fun ⟨hp, ht, hn⟩ hidle => ?_, fun ⟨hp, ht, hn⟩ hidle hbrakes => ?_,
      hmoving, by rw [hflag, brakingFlag_iff]⟩ <;> rw [hstate]
    · exact if_pos hop
    · rw [classify, if_neg (not_or.mpr ⟨hp, ht⟩), if_pos hhold]
    · rw [classify, if_neg (not_or.mpr ⟨hp, ht⟩), if_neg (not_not_intro hn), if_pos ((still_iff s).mpr hidle)]
    · rw [classify, if_neg (not_or.mpr ⟨hp, ht⟩), if_neg (not_not_intro hn), if_neg fun h => hidle ((still_iff s).mp h),
        if_pos ((anyBraking_iff s).mpr hbrakes)]
  · intro h
    refine ⟨?_, Bool.eq_iff_iff.mpr (h.flag.trans (brakingFlag_iff s).symm)⟩
    obtain ⟨hop, hc⟩ | ⟨⟨hp, ht⟩, hhold, hc⟩ | ⟨hfree, hidle, hc⟩ | ⟨hfree, hidle, hbrakes, hc⟩ |
      ⟨hfree, hidle, hno, hc⟩ := classify_cases s <;> rw [hc]
    · exact h.off hop
    · exact h.held hp ht hhold
    · exact h.neutral hfree hidle
    · exact h.braking hfree hidle hbrakes
    · exact h.moving hfree hidle hno

/-- R77: the traction state is OFF exactly in PARKED and TRIPPED. -/
theorem Classified.off_iff {s : State} (h : Classified s) :
    s.trc.state = .off ↔ s.vsc.op = .parked ∨ s.vsc.op = .tripped := by
  rw [h.state]
  refine ⟨fun hoff => ?_, fun hop => if_pos hop⟩
  obtain ⟨hop, -⟩ | ⟨-, -, hc⟩ | ⟨-, -, hc⟩ | ⟨-, -, -, hc⟩ | ⟨-, -, -, hc⟩ := classify_cases s
  · exact hop
  · rw [hc] at hoff
    contradiction
  · rw [hc] at hoff
    contradiction
  · rw [hc] at hoff
    contradiction
  · rw [hc] at hoff
    split at hoff <;> contradiction

/-! ## The pieces -/

/-- R7, R9, R12 to R14, R19: VSC's own record. -/
structure VscOk (v : Vsc) : Prop where
  hold : v.hold.isSome = true ↔ v.op = .armed ∨ v.op = .failsafe
  grace : v.grace.isSome = true ↔ v.op = .shuttingDown
  origin : v.origin ≠ .none ↔ v.op = .shuttingDown
  first : v.firstCause.isSome = true ↔ v.op = .tripped
  count : (v.op = .armed → v.expiryCount = 0) ∧ (v.op = .failsafe → v.expiryCount = 1)

/-- 02 section 2.1.1: the slot that waits for a bridge's trigger. -/
def slotOf : Bridge → Fin 12
  | .front => 5
  | .rear => 6
  | .winch => 7

/-- R23, R26: where a trigger wait and a WATCH scan stand. -/
structure SlotsOk (n : Scn) : Prop where
  wait : ∀ b, n.wait = some b → ∃ c, n.scan = some c ∧ c.kind = .continuous ∧ c.slot = slotOf b
  watch : ∀ c, n.scan = some c → c.kind = .watch → c.slot.val < 4 ∨ 8 ≤ c.slot.val

/-- All but the hazard, the duties of a wait and the stage. -/
structure VehicleRest (s : State) : Prop where
  vsc : VscOk s.vsc
  winchOpen : s.trc.winchOpen = true ↔ s.vsc.op = .tripped
  classified : Classified s
  axle : ∀ x, AxleOk s x
  slots : SlotsOk s.scn

/-- R26: a wait stands while its bridge is driven. -/
def WaitDriven (s : State) : Prop := ∀ b, s.scn.wait = some b → s.duty b ≠ 0

/-- R154: the hazard runs in FAILSAFE and TRIPPED. -/
def HazardRuns (s : State) : Prop := s.ltc.hazard.isSome = true ↔ s.vsc.op = .failsafe ∨ s.vsc.op = .tripped

/-- All but what the stage fixes. -/
structure VehicleTied (s : State) : Prop where
  rest : VehicleRest s
  wait : WaitDriven s
  hazard : HazardRuns s

/-- R15: in CUTOFF the part is not driven. -/
def CutoffOk (s : State) : Prop := s.sup.stage = .cutoff → s.vsc.op.driven = false

theorem OpState.driven_eq_false_iff (op : OpState) : op.driven = false ↔ op ≠ .armed ∧ op ≠ .failsafe := by
  cases op <;> decide

theorem vehicle_iff (s : State) :
    (VehicleOk s ∧ (∀ x, AxleOk s x) ∧ TractionOk s ∧ ScanOk s) ↔ VehicleTied s ∧ CutoffOk s := by
  unfold CutoffOk
  rw [← classified_iff, OpState.driven_eq_false_iff]
  constructor
  · rintro ⟨hv, haxle, hc, hscan⟩
    exact ⟨⟨⟨⟨hv.hold, hv.grace, hv.origin, hv.first, hv.count⟩, hv.winchOpen, hc, haxle,
      ⟨fun b hb => by cases b <;> exact (hscan.wait _ hb).2, hscan.watch⟩⟩, fun b hb => (hscan.wait b hb).1, hv.hazard⟩, hv.cutoff⟩
  · rintro ⟨⟨⟨hv, hwinch, hc, haxle, hslots⟩, hwait, hhazard⟩, hcutoff⟩
    exact
      ⟨{ hold := hv.hold, grace := hv.grace, origin := hv.origin, first := hv.first, cutoff := hcutoff, count := hv.count
         hazard := hhazard, off := hc.off_iff, winchOpen := hwinch },
        haxle, hc, ⟨fun b hb => ⟨hwait b hb, by cases b <;> exact hslots.wait _ hb⟩, hslots.watch⟩⟩

end Sys2Proof.Machine

/-! What the operating state fixes: what each operation does to VSC, TRC, SCN and the hazard. -/

namespace Sys2Proof.Machine

section
variable {s t : State}

/-! ## Where the blocks are kept -/

/-- Where VSC, TRC and SCN keep their records. -/
theorem VehicleRest.frame (h : VehicleRest s) (hvsc : t.vsc = s.vsc) (htrc : t.trc = s.trc) (hscn : SlotsOk t.scn) :
    VehicleRest t where
  vsc := hvsc ▸ h.vsc
  winchOpen := by rw [hvsc, htrc]; exact h.winchOpen
  classified := ⟨by rw [hvsc, htrc]; exact h.classified.state, by rw [hvsc, htrc]; exact h.classified.braking⟩
  axle := fun x => ⟨by rw [htrc]; exact (h.axle x).drive, by rw [hvsc, htrc]; exact (h.axle x).still⟩
  slots := hscn

theorem WaitDriven.frame (h : WaitDriven s) (hwait : ∀ b, t.scn.wait = some b → s.scn.wait = some b)
    (hduty : ∀ b, t.duty b = s.duty b) : WaitDriven t := fun b hb => by
  rw [hduty]
  exact h b (hwait b hb)

theorem HazardRuns.frame (h : HazardRuns s) (hop : t.vsc.op = s.vsc.op)
    (hhazard : t.ltc.hazard.isSome = s.ltc.hazard.isSome) : HazardRuns t := by
  unfold HazardRuns
  rw [hop, hhazard]
  exact h

/-- The duties are TRC's and WCH's. -/
theorem duty_of_eq (htrc : t.trc.applied = s.trc.applied) (hwch : t.wch.applied = s.wch.applied) (b : Bridge) :
    t.duty b = s.duty b := by
  cases b <;> simp [State.duty, htrc, hwch]

theorem VehicleTied.frame (h : VehicleTied s) (hvsc : t.vsc = s.vsc) (htrc : t.trc = s.trc) (hscn : t.scn = s.scn)
    (hwch : t.wch.applied = s.wch.applied) (hhazard : t.ltc.hazard.isSome = s.ltc.hazard.isSome) : VehicleTied t where
  rest := h.rest.frame hvsc htrc (hscn ▸ h.rest.slots)
  wait := h.wait.frame (fun b hb => hscn ▸ hb) (duty_of_eq (by rw [htrc]) hwch)
  hazard := h.hazard.frame (by rw [hvsc]) hhazard

/-! ## Scans (02 R23 to R27) -/

/-- R25: a scan that starts waits for nothing and is at slot 1. -/
theorem slotsOk_begin (n : Scn) (hwait : n.wait = none) (hscan : n.scan = none ∨ ∃ m, n.scan = some (Scan.begin m)) :
    SlotsOk n where
  wait := fun b hb => by simp [hwait] at hb
  watch := fun c hc _ => by
    obtain hno | ⟨m, hm⟩ := hscan
    · rw [hno] at hc
      contradiction
    · rw [hm] at hc
      cases hc
      exact .inl (Nat.zero_lt_succ 3)

/-- R26: no wait stands. -/
theorem waitDriven_none (h : s.scn.wait = none) : WaitDriven s := fun b hb => by simp [h] at hb

/-- R26: a wait that ends leaves the scan where it is. -/
theorem SlotsOk.waitEnds {n m : Scn} (h : SlotsOk n) (hrest : { m with wait := none } = { n with wait := none })
    (hwait : ∀ b, m.wait = some b → n.wait = some b) : SlotsOk m := by
  have hscan : m.scan = n.scan := (congrArg Scn.scan hrest :)
  exact ⟨fun b hb => hscan ▸ h.wait b (hwait b hb), fun c hc => h.watch c (hscan ▸ hc)⟩

/-- R26: after the test on the duties a wait stands only for a driven bridge. -/
theorem endWaitOnZero_waits (s : State) : WaitDriven (endWaitOnZero s) ∧ (SlotsOk s.scn → SlotsOk (endWaitOnZero s).scn) := by
  obtain ⟨hrest, hwait⟩ := endWaitOnZero_scn s
  refine ⟨fun b hb => ?_, fun h => h.waitEnds hrest fun b hb => ((hwait b).mp hb).1⟩
  rw [duty_endWaitOnZero]
  exact ((hwait b).mp hb).2

/-! ## Publication (04 R78) -/

theorem publishDuties_scn (s : State) : (publishDuties s).scn = (endWaitOnZero s).scn := by
  simp [publishDuties]

/-- R26, R78: a published state. -/
theorem VehicleRest.publishDuties (h : VehicleRest s) :
    VehicleRest (publishDuties s) ∧ WaitDriven (publishDuties s) := by
  obtain ⟨hdriven, hslots⟩ := endWaitOnZero_waits s
  refine ⟨h.frame (by simp) (by simp) ?_, hdriven.frame (fun b hb => ?_) (duty_of_eq (by simp) (by simp))⟩
  · rw [publishDuties_scn]
    exact hslots h.slots
  · rw [publishDuties_scn] at hb
    exact hb

/-- The hazard runs on through a publication. -/
theorem publishDuties_hazard (s : State) : (publishDuties s).ltc.hazard = s.ltc.hazard := by
  simp [publishDuties, overlayTests]

/-- R154: where the hazard stops, the part is neither in FAILSAFE nor TRIPPED. -/
theorem vehicleTied_hazardStop (h : VehicleRest s) (hw : WaitDriven s) (hop : s.vsc.op ≠ .failsafe ∧ s.vsc.op ≠ .tripped) :
    VehicleTied (hazardStop s) where
  rest := h.frame (by simp) (by simp) (by simpa using h.slots)
  wait := hw.frame (fun b hb => by simpa using hb) (duty_of_eq (by simp) (by simp))
  hazard := by
    unfold HazardRuns
    simp [hazardStop, overlayTests, hop.1, hop.2]

/-- R154: where the hazard starts, the part is in FAILSAFE or TRIPPED. -/
theorem vehicleTied_hazardStart (h : VehicleRest s) (hw : WaitDriven s) (hop : s.vsc.op = .failsafe ∨ s.vsc.op = .tripped) :
    VehicleTied (hazardStart s) where
  rest := h.frame (by simp) (by simp) (by simpa using h.slots)
  wait := hw.frame (fun b hb => by simpa using hb) (duty_of_eq (by simp) (by simp))
  hazard := by
    unfold HazardRuns
    simp [hazardStart, overlayTests, hop]

/-! ## Bridges and the classification (04 R68, R76 to R78) -/

/-- R77, R78: what has just been classified. -/
theorem classified_classifyTraction (s : State) : Classified (classifyTraction s) := ⟨rfl, rfl⟩

/-- R77, R78: the classification changes its two results alone. -/
theorem vehicleRest_classifyTraction (hvsc : VscOk s.vsc) (hwinch : s.trc.winchOpen = true ↔ s.vsc.op = .tripped)
    (haxle : ∀ x, AxleOk s x) (hslots : SlotsOk s.scn) : VehicleRest (classifyTraction s) where
  vsc := hvsc
  winchOpen := hwinch
  classified := classified_classifyTraction s
  axle := fun x => ⟨(haxle x).drive, (haxle x).still⟩
  slots := hslots

/-- R76: a bridge at duty 0 does not drive. -/
theorem modeAtZero_ne_drive (op : OpState) (drag : Nat) (t : Trc) (x : Axle) : modeAtZero op drag t x ≠ .drive := by
  have hdig : ∀ m, digHold t.digInForce x = some m → m ≠ .drive := fun m hm => by
    cases hd : t.digInForce <;> cases x <;> simp [hd, digHold] at hm <;> subst hm <;> exact BridgeMode.noConfusion
  unfold modeAtZero
  split
  · exact BridgeMode.noConfusion
  · exact BridgeMode.noConfusion
  · exact BridgeMode.noConfusion
  · exact BridgeMode.noConfusion
  · split
    · exact hdig _ ‹_›
    · split <;> exact BridgeMode.noConfusion

/-- R68: a bridge drives exactly while its duty is not 0. -/
theorem modeOf_eq_drive_iff (op : OpState) (drag : Nat) (t : Trc) (x : Axle) :
    modeOf op drag t x = .drive ↔ t.applied.get x ≠ 0 := by
  unfold modeOf
  split
  · exact ⟨fun _ => ‹_›, fun _ => rfl⟩
  · exact ⟨fun h => absurd h (modeAtZero_ne_drive _ _ _ _), fun h => absurd h ‹_›⟩

/-- R76: the modes chosen anew while the part may move. -/
theorem axleOk_chooseModes (hop : s.vsc.op ≠ .parked ∧ s.vsc.op ≠ .tripped) (x : Axle) : AxleOk (chooseModes s) x where
  drive := by
    simp only [chooseModes, State.modTrc_trc, PerAxle.get_of]
    exact modeOf_eq_drive_iff ..
  still := fun h => absurd h (not_or.mpr hop)

/-- R83, R84: both axle bridges open, in PARKED or TRIPPED. -/
theorem vehicleRest_open (hop : s.vsc.op = .parked ∨ s.vsc.op = .tripped) (hstate : s.trc.state = .off)
    (hbraking : s.trc.braking = false) (happlied : s.trc.applied = .both 0) (hmode : s.trc.mode = .both .bridgeOpen)
    (hvsc : VscOk s.vsc) (hwinch : s.trc.winchOpen = true ↔ s.vsc.op = .tripped) (hslots : SlotsOk s.scn) :
    VehicleRest s := by
  refine ⟨hvsc, hwinch, ⟨?_, ?_⟩, fun x => ⟨?_, fun _ => ?_⟩, hslots⟩
  · rw [hstate]
    exact (if_pos hop).symm
  · rw [brakingFlag, hstate, hbraking]
  · simp [happlied, hmode]
  · rw [hmode, PerAxle.get_both]

/-- R79: a cut axle takes its mode by R76; in PARKED and TRIPPED no axle is above a cap. -/
theorem VehicleRest.axleOk_cutAxle (y : Axle) (cap : Nat) (why : Limiter) (h : ∀ x, AxleOk s x) (x : Axle) :
    AxleOk (cutAxle y cap why s) x := by
  unfold cutAxle
  split
  · rename_i hcap
    have hdrives : s.trc.mode.get y = .drive := (h y).drive.mpr fun hzero => by
      rw [hzero] at hcap
      exact absurd hcap (Nat.not_lt_zero cap)
    have hop : ¬ (s.vsc.op = .parked ∨ s.vsc.op = .tripped) := fun hop => by
      rw [(h y).still hop] at hdrives
      contradiction
    refine ⟨?_, fun hop' => absurd hop' hop⟩
    simp only [State.modTrc_trc, PerAxle.get_put]
    by_cases hx : x = y
    · subst hx
      simp only [if_true, modeOf_eq_drive_iff, PerAxle.get_put]
    · simp only [if_neg hx]
      exact (h x).drive
  · exact h x

theorem cutAxle_winchOpen (y : Axle) (cap : Nat) (why : Limiter) (s : State) :
    (cutAxle y cap why s).trc.winchOpen = s.trc.winchOpen := by
  unfold cutAxle
  split <;> rfl

theorem VehicleTied.cutAxles (capFront capRear : Nat) (why : Limiter) (h : VehicleTied s) :
    VehicleTied (cutAxles capFront capRear why s) := by
  unfold Machine.cutAxles
  split
  · have hcut := vehicleRest_classifyTraction (s := cutAxle .rear capRear why (cutAxle .front capFront why s))
      (by simpa using h.rest.vsc) (by simpa [cutAxle_winchOpen] using h.rest.winchOpen)
      (VehicleRest.axleOk_cutAxle _ _ _ (VehicleRest.axleOk_cutAxle _ _ _ h.rest.axle)) (by simpa using h.rest.slots)
    obtain ⟨hrest, hwait⟩ := hcut.publishDuties
    refine ⟨hrest, hwait, h.hazard.frame (by simp) ?_⟩
    rw [publishDuties_hazard]
    simp [classifyTraction]
  · exact h

/-! ## The winch -/

/-- R125, R26: the winch's duty is set. -/
theorem VehicleTied.setWinchDuty (d : Nat) (h : VehicleTied s) : VehicleTied (setWinchDuty d s) := by
  obtain ⟨hdriven, hslots⟩ := endWaitOnZero_waits (s.modWch fun w => { w with applied := d })
  exact ⟨h.rest.frame (by simp) (by simp) (hslots h.rest.slots), hdriven, h.hazard.frame (by simp) (by simp)⟩

theorem VehicleTied.assistOff (h : VehicleTied s) : VehicleTied (assistOff s) where
  rest := ⟨h.rest.vsc, h.rest.winchOpen, ⟨h.rest.classified.state, h.rest.classified.braking⟩,
    fun x => ⟨(h.rest.axle x).drive, (h.rest.axle x).still⟩, h.rest.slots⟩
  wait := h.wait.frame (fun _ hb => hb) (duty_of_eq rfl rfl)
  hazard := h.hazard

theorem VehicleTied.winchEnd (cause : EndCause) (h : VehicleTied s) : VehicleTied (winchEnd cause s) := by
  have hended : ∀ residual finalPos, VehicleTied (endUnit 0 cause residual finalPos s) := fun residual finalPos =>
    h.frame (by simp) (by simp) (by simp) (by simp) (by simp)
  have hidle (u : State) (hu : VehicleTied u) : VehicleTied (u.modWch fun w => { w with state := .idle, stall := none, step := none }) :=
    hu.frame rfl rfl rfl rfl rfl
  exact (hidle _ (hended _ _)).assistOff.setWinchDuty 0

theorem VehicleTied.haltWinch (cause : EndCause) (h : VehicleTied s) : VehicleTied (haltWinch cause s) := by
  obtain ⟨-, -, ht⟩ | ⟨-, -, ht⟩ | ⟨-, ht⟩ := haltWinch_cases cause s <;> rw [ht]
  · exact h.winchEnd cause
  · exact h.frame rfl rfl rfl rfl rfl
  · exact h

theorem VehicleTied.winchKill (cause : EndCause) (h : VehicleTied s) : VehicleTied (winchKill cause s) := by
  obtain ⟨-, ht⟩ | ⟨-, ht⟩ := winchKill_cases cause s <;> rw [ht]
  · exact h.winchEnd cause
  · exact h

/-- R133: while the winch works on its program. -/
theorem VehicleTied.moves (hm : WinchMoves s t) (h : VehicleTied s) : VehicleTied t := by
  have hstate : t.trc.state = s.trc.state := (congrArg Trc.state hm.trc :)
  have hwinch : t.trc.winchOpen = s.trc.winchOpen := (congrArg Trc.winchOpen hm.trc :)
  have hmode : t.trc.mode = s.trc.mode := (congrArg Trc.mode hm.trc :)
  have hbraking : t.trc.braking = s.trc.braking := (congrArg Trc.braking hm.trc :)
  have hclassify : classify s.vsc.op t.trc = classify s.vsc.op s.trc :=
    (congrArg (classify s.vsc.op) hm.trc : classify s.vsc.op { t.trc with assist := none } = _)
  have hflag : brakingFlag s.vsc.op t.trc = brakingFlag s.vsc.op s.trc :=
    (congrArg (brakingFlag s.vsc.op) hm.trc : brakingFlag s.vsc.op { t.trc with assist := none } = _)
  refine ⟨⟨hm.vsc ▸ h.rest.vsc, ?_, ⟨?_, ?_⟩, fun x => ⟨?_, ?_⟩, h.rest.slots.waitEnds hm.scn fun b hb => (hm.wait b hb).1⟩,
    fun b hb => (hm.wait b hb).2 (h.wait b (hm.wait b hb).1), h.hazard.frame (by rw [hm.vsc]) (by rw [hm.ltc])⟩
  · rw [hwinch, hm.vsc]
    exact h.rest.winchOpen
  · rw [hm.vsc, hstate, hclassify]
    exact h.rest.classified.state
  · rw [hm.vsc, hbraking, hflag]
    exact h.rest.classified.braking
  · rw [hmode, hm.axle]
    exact (h.rest.axle x).drive
  · rw [hm.vsc, hmode]
    exact (h.rest.axle x).still

end

end Sys2Proof.Machine

/-! What the operating state fixes: the parts of an act, and O23. -/

namespace Sys2Proof.Machine

section
variable {s : State}

/-! ## What an operating state excludes -/

theorem VscOk.first_none {v : Vsc} (h : VscOk v) (hop : v.op ≠ .tripped) : v.firstCause = none :=
  Option.not_isSome_iff_eq_none.mp fun hsome => hop (h.first.mp hsome)

theorem VscOk.grace_none {v : Vsc} (h : VscOk v) (hop : v.op ≠ .shuttingDown) : v.grace = none :=
  Option.not_isSome_iff_eq_none.mp fun hsome => hop (h.grace.mp hsome)

theorem VscOk.origin_none {v : Vsc} (h : VscOk v) (hop : v.op ≠ .shuttingDown) : v.origin = .none :=
  by_contra fun horigin => hop (h.origin.mp horigin)

theorem VehicleRest.winch_closed (h : VehicleRest s) (hop : s.vsc.op ≠ .tripped) : s.trc.winchOpen = false :=
  Bool.eq_false_iff.mpr fun hw => hop (h.winchOpen.mp hw)

/-- R77: an axle bridge is at 0 and open in PARKED and TRIPPED alone. -/
theorem VehicleRest.moves_of_drives (h : VehicleRest s) (hdrives : s.trc.state ≠ .off) :
    s.vsc.op ≠ .parked ∧ s.vsc.op ≠ .tripped := not_or.mp fun hop => hdrives (h.classified.off_iff.mpr hop)

/-! ## TRC's parts of the entries (04 R80 to R84) -/

/-- R82: SHUTTING_DOWN. -/
theorem vehicleRest_tractionShutdown (hop : s.vsc.op = .shuttingDown) (hvsc : VscOk s.vsc)
    (hwinch : s.trc.winchOpen = false) (hslots : SlotsOk s.scn) :
    VehicleRest (tractionShutdown s) ∧ WaitDriven (tractionShutdown s) := by
  unfold tractionShutdown
  refine VehicleRest.publishDuties (vehicleRest_classifyTraction hvsc ?_ (axleOk_chooseModes ?_) hslots)
  · simp [chooseModes, hwinch, hop]
  · simp [hop]

/-- R81: FAILSAFE. -/
theorem vehicleRest_tractionFailsafe (hop : s.vsc.op = .failsafe) (hvsc : VscOk s.vsc)
    (hwinch : s.trc.winchOpen = false) (hslots : SlotsOk s.scn) :
    VehicleRest (tractionFailsafe s) ∧ WaitDriven (tractionFailsafe s) := by
  unfold tractionFailsafe
  refine VehicleRest.publishDuties (vehicleRest_classifyTraction hvsc ?_ (fun x => ⟨?_, fun h => ?_⟩) hslots)
  · simp [hwinch, hop]
  · simp
  · simp [hop] at h

/-- R80: ARMED. -/
theorem vehicleRest_tractionArmed (hop : s.vsc.op = .armed) (hvsc : VscOk s.vsc) (hwinch : s.trc.winchOpen = false)
    (hslots : SlotsOk s.scn) : VehicleRest (tractionArmed s) ∧ WaitDriven (tractionArmed s) := by
  unfold tractionArmed
  refine VehicleRest.publishDuties (vehicleRest_classifyTraction hvsc ?_ (axleOk_chooseModes ?_) hslots)
  · simp [chooseModes, formTargets, takeDig, hwinch, hop]
  · simp [hop]

/-- R83: PARKED. -/
theorem vehicleRest_tractionParked (hop : s.vsc.op = .parked) (hvsc : VscOk s.vsc) (hslots : SlotsOk s.scn) :
    VehicleRest (tractionParked s) ∧ WaitDriven (tractionParked s) := by
  unfold tractionParked
  exact VehicleRest.publishDuties (vehicleRest_open (.inl hop) rfl rfl rfl rfl hvsc (by simp [hop]) hslots)

/-- R84: TRIPPED. -/
theorem vehicleRest_tractionTripped (hop : s.vsc.op = .tripped) (hvsc : VscOk s.vsc) (hslots : SlotsOk s.scn) :
    VehicleRest (tractionTripped s) ∧ WaitDriven (tractionTripped s) := by
  unfold tractionTripped
  exact VehicleRest.publishDuties (vehicleRest_open (.inr hop) rfl rfl rfl rfl hvsc (by simp [hop]) hslots)

/-! ## Entries (01 R4, R9, R12, R16, R19) -/

/-- R12: the shutdown that begins, up to the halt of the winch unit. -/
theorem vehicleTied_shutdownAsked {origin : Origin} (cause : OpCause) (horigin : origin ≠ .none)
    (hfirst : s.vsc.firstCause = none) (hwinch : s.trc.winchOpen = false) (hslots : SlotsOk s.scn) :
    VehicleTied (shutdownAsked origin cause s) := by
  have hvsc : VscOk { s.vsc with
      op := .shuttingDown, origin := origin, hold := none, grace := some s.cfg.vsc.grace } := by
    constructor <;> simp [horigin, hfirst]
  obtain ⟨hrest, hwait⟩ := vehicleRest_tractionShutdown (s := steerShutdown (changeOp .shuttingDown cause
      (s.modVsc fun v => { v with origin := origin, hold := none, grace := some s.cfg.vsc.grace })))
    (by simp [changeOp_vsc]) (by simpa [changeOp_vsc] using hvsc) (by simpa using hwinch) (by simpa using hslots)
  exact vehicleTied_hazardStop hrest hwait (by simp [changeOp_vsc])

/-- R9: the entry to FAILSAFE, up to the halt of the winch unit. -/
theorem vehicleTied_failsafeAsked (h : VehicleTied s) (hop : s.vsc.op = .armed) : VehicleTied (failsafeAsked s) := by
  have hfirst := h.rest.vsc.first_none (by simp [hop])
  have hgrace := h.rest.vsc.grace_none (by simp [hop])
  have horigin := h.rest.vsc.origin_none (by simp [hop])
  have hvsc : VscOk { s.vsc with op := .failsafe, expiryCount := 1, hold := some s.cfg.vsc.holdTime } := by
    constructor <;> simp [hfirst, hgrace, horigin]
  obtain ⟨hrest, hwait⟩ := vehicleRest_tractionFailsafe (s := steerFailsafe (changeOp .failsafe .linkLost
      (offer (.failsafe 1 s.vsc.op) (s.modVsc fun v => { v with expiryCount := 1, hold := some s.cfg.vsc.holdTime }))))
    (by simp [changeOp_vsc]) (by simpa [changeOp_vsc] using hvsc)
    (by simpa using h.rest.winch_closed (by simp [hop])) (by simpa using h.rest.slots)
  exact vehicleTied_hazardStart hrest hwait (.inl (by simp [changeOp_vsc]))

theorem VehicleTied.overlayTests (h : VehicleTied s) : VehicleTied (overlayTests s) := h.frame rfl rfl rfl rfl rfl

/-- R128: the clutch at the entry to ARMED. -/
theorem VehicleTied.clutchArmed (h : VehicleTied s) : VehicleTied (clutchArmed s) := by
  have hwch : (Machine.clutchArmed s).wch.applied = s.wch.applied := by
    unfold Machine.clutchArmed startClutch
    split
    · split <;> rfl
    · rfl
  exact h.frame (by simp) (by simp) (by simp) hwch (by simp)

theorem tractionArmed_hazard (s : State) : (tractionArmed s).ltc.hazard = s.ltc.hazard := by
  rw [tractionArmed, publishDuties_hazard]
  rfl

/-- R4: the entry to ARMED. -/
theorem vehicleTied_enterArmed (h : VehicleTied s) (hop : s.vsc.op = .parked) : VehicleTied (enterArmed s) := by
  have hfirst := h.rest.vsc.first_none (by simp [hop])
  have hgrace := h.rest.vsc.grace_none (by simp [hop])
  have horigin := h.rest.vsc.origin_none (by simp [hop])
  have hvsc : VscOk { s.vsc with
      op := .armed, expiryCount := 0, latch := true, hold := some s.cfg.vsc.holdTime } := by
    constructor <;> simp [hfirst, hgrace, horigin]
  have hhazard : s.ltc.hazard = none := Option.not_isSome_iff_eq_none.mp fun hsome => by
    obtain hf | ht := h.hazard.mp hsome
    · rw [hop] at hf
      contradiction
    · rw [hop] at ht
      contradiction
  obtain ⟨hrest, hwait⟩ := vehicleRest_tractionArmed (s := steerArmed (scanContinuous (changeOp .armed .arm
      (s.modVsc fun v => { v with expiryCount := 0, latch := true, hold := some s.cfg.vsc.holdTime }))))
    (by simp [changeOp_vsc]) (by simpa [changeOp_vsc] using hvsc)
    (by simpa using h.rest.winch_closed (by simp [hop]))
    (slotsOk_begin _ (by simp [scanContinuous, startScan]) (.inr ⟨_, by simp [scanContinuous, startScan]; rfl⟩))
  refine VehicleTied.overlayTests (VehicleTied.clutchArmed ⟨hrest, hwait, ?_⟩)
  unfold HazardRuns
  simp [tractionArmed_hazard, hhazard, changeOp_vsc]

/-- R16: the entry to PARKED. -/
theorem vehicleTied_enterParked (cause : OpCause) (hfirst : s.vsc.firstCause = none) :
    VehicleTied (enterParked cause s) := by
  have hvsc : VscOk { s.vsc with op := .parked, latch := true, hold := none, grace := none, origin := .none } := by
    constructor <;> simp [hfirst]
  obtain ⟨hrest, hwait⟩ := vehicleRest_tractionParked (s := steerParked (scanWatch (changeOp .parked cause
      (s.modVsc fun v => { v with latch := true, hold := none, grace := none, origin := .none }))))
    (by simp [changeOp_vsc]) (by simpa [changeOp_vsc] using hvsc)
    (slotsOk_begin _ (by simp [scanWatch, startWatchExpired, startScan])
      (.inr ⟨_, by simp [scanWatch, startWatchExpired, startScan]; rfl⟩))
  have hclutch (u : State) : (parkClutch u).wch.applied = u.wch.applied := by
    simp only [parkClutch, State.modWch_wch]
    split <;> rfl
  refine vehicleTied_hazardStop (hrest.frame (by simp) (by simp) (by simpa using hrest.slots))
    (hwait.frame (fun b hb => by simpa using hb) (duty_of_eq (by simp) (hclutch _))) (by simp [changeOp_vsc])

/-- R19: the entry to TRIPPED. -/
theorem vehicleTied_enterTripped (added : List TripCause) (first : TripCause) (h : VehicleTied s) :
    VehicleTied (enterTripped added first s) := by
  have hvsc : VscOk { s.vsc with
      op := .tripped, causes := s.vsc.causes.addAll added, firstCause := some first, hold := none, grace := none,
      origin := .none } := by
    constructor <;> simp
  obtain ⟨hrest, hwait⟩ := vehicleRest_tractionTripped (s := steerTripped (changeOp .tripped .trip
      (offer (.tripEntered (s.vsc.causes.addAll added) first) (s.modVsc fun v =>
        { v with causes := v.causes.addAll added, firstCause := some first, hold := none, grace := none,
                 origin := .none }))))
    (by simp [changeOp_vsc]) (by simpa [changeOp_vsc] using hvsc) (by simpa using h.rest.slots)
  exact (vehicleTied_hazardStart hrest hwait (.inr (by simp [changeOp_vsc]))).winchKill .tripped

/-- R14: a forced shutdown. -/
theorem vehicleTied_forceShutdown (h : VehicleTied s) (hop : s.vsc.op = .shuttingDown) :
    VehicleTied (forceShutdown s) :=
  vehicleTied_enterParked .shutdownForced (by simpa using h.rest.vsc.first_none (by simp [hop]))

theorem OpState.driven_iff (op : OpState) : op.driven = true ↔ op = .armed ∨ op = .failsafe := by
  cases op <;> decide

/-- R8: a DRIVE in FAILSAFE restores the link. -/
theorem vehicleTied_driveReturns (h : VehicleTied s) : VehicleTied (driveReturns s) := by
  unfold driveReturns
  split
  · rename_i hop
    have hfirst := h.rest.vsc.first_none (by simp [hop])
    have hgrace := h.rest.vsc.grace_none (by simp [hop])
    have horigin := h.rest.vsc.origin_none (by simp [hop])
    have hvsc : VscOk { s.vsc with
        op := .armed, expiryCount := 0, latch := true, hold := some s.cfg.vsc.holdTime } := by
      constructor <;> simp [hfirst, hgrace, horigin]
    have hchanged : VehicleRest (tractionRestored (changeOp .armed .linkRestored (s.modVsc fun v =>
        { v with expiryCount := 0, latch := true, hold := some s.cfg.vsc.holdTime }))) := by
      unfold tractionRestored
      refine vehicleRest_classifyTraction (by simpa [changeOp_vsc] using hvsc) ?_ (fun x => ⟨?_, fun hstill => ?_⟩)
        (by simpa using h.rest.slots)
      · simpa [changeOp_vsc] using h.rest.winch_closed (by simp [hop])
      · simpa using (h.rest.axle x).drive
      · simp [changeOp_vsc] at hstill
    refine vehicleTied_hazardStop (hchanged.frame (by simp) (by simp) (by simpa using hchanged.slots))
      (h.wait.frame (fun b hb => by simpa using hb) (duty_of_eq ?_ (by simp))) (by simp [changeOp_vsc])
    simp [tractionRestored, classifyTraction]
  · exact h

/-- R69, R8: a DRIVE that is taken. -/
theorem vehicleTied_driveTaken (throttle steer : Int) (dig : Dig) (h : VehicleTied s) (hop : s.vsc.op.driven = true) :
    VehicleTied (driveTaken throttle steer dig s) := by
  have hreturned := vehicleTied_driveReturns h
  have hop' : (driveReturns s).vsc.op = .armed := by
    unfold driveReturns
    split
    · simp [linkRestored, changeOp_vsc]
    · rename_i hno
      exact (OpState.driven_iff _).mp hop |>.resolve_right hno
  have hkept : VehicleTied (driveKeepsAlive throttle (driveReturns s)) := by
    refine ⟨⟨?_, hreturned.rest.winchOpen, ⟨hreturned.rest.classified.state, hreturned.rest.classified.braking⟩,
      fun x => ⟨(hreturned.rest.axle x).drive, (hreturned.rest.axle x).still⟩, hreturned.rest.slots⟩,
      hreturned.wait.frame (fun _ hb => hb) (duty_of_eq rfl rfl), hreturned.hazard⟩
    have hvsc := hreturned.rest.vsc
    exact ⟨by simp [driveKeepsAlive, hop'], hvsc.grace, hvsc.origin, hvsc.first, hvsc.count⟩
  have htraction : VehicleTied (driveTraction throttle dig (driveKeepsAlive throttle (driveReturns s))) :=
    ⟨vehicleRest_classifyTraction hkept.rest.vsc hkept.rest.winchOpen
      (fun x => ⟨(hkept.rest.axle x).drive, (hkept.rest.axle x).still⟩) hkept.rest.slots,
      hkept.wait.frame (fun _ hb => hb) (duty_of_eq rfl rfl), hkept.hazard⟩
  exact VehicleTied.overlayTests (htraction.frame (by simp) (by simp) (by simp) (by simp) (by simp))

/-- R73: a drive frame. -/
theorem vehicleTied_driveFrame (h : VehicleTied s) (hdrives : s.trc.state ≠ .off) : VehicleTied (driveFrame s) := by
  have hop := h.rest.moves_of_drives hdrives
  have hkept : (chooseModes (slewAxle .rear (slewAxle .front (formTargets (takeRatio (takeDig s)))))).trc.winchOpen =
      s.trc.winchOpen := rfl
  obtain ⟨hrest, hwait⟩ := (vehicleRest_classifyTraction
    (s := chooseModes (slewAxle .rear (slewAxle .front (formTargets (takeRatio (takeDig s))))))
    (by simpa [chooseModes] using h.rest.vsc) (by rw [hkept]; simpa [chooseModes] using h.rest.winchOpen)
    (axleOk_chooseModes (by simpa using hop)) (by simpa [chooseModes] using h.rest.slots)).publishDuties
  have hhazard : (driveFrame s).ltc.hazard = s.ltc.hazard := by
    rw [driveFrame, publishDuties_hazard]
    rfl
  exact ⟨hrest, hwait, h.hazard.frame (by simp) (by rw [hhazard])⟩

/-- R1: after a reset. -/
theorem vehicleTied_resetTo (cfg : Settings) (store : Vector StepRec 128) (fns : Vector LineFn 4) (position : Nat)
    (old : OpState) : VehicleTied (resetTo cfg store fns position old s) where
  rest := vehicleRest_open (.inl rfl) rfl rfl rfl rfl (by constructor <;> simp [resetTo, Vsc.atReset])
    (by simp [resetTo, Trc.atReset, Vsc.atReset]) (slotsOk_begin _ rfl (.inr ⟨_, rfl⟩))
  wait := waitDriven_none rfl
  hazard := by
    unfold HazardRuns
    simp [resetTo, Ltc.atReset, Vsc.atReset]

end

end Sys2Proof.Machine

/-! What the operating state fixes is kept: O23. -/

namespace Sys2Proof.Machine

section
variable {s : State}

/-! ## The parts of an act -/

/-- R178: a SET keeps what the operating state fixes. -/
theorem VehicleTied.storeSetting (k : Key) (v : Nat) (h : VehicleTied s) : VehicleTied (storeSetting k v s) := by
  have hput : VehicleTied (s.modCfg fun c => c.put k v) := h.frame rfl rfl rfl rfl rfl
  unfold Machine.storeSetting
  split
  · exact h
  · cases k with
    | plain p =>
      cases p with
      | cellCount =>
        exact
          { rest := hput.rest.frame rfl rfl (slotsOk_begin _ rfl (.inl rfl))
            wait := waitDriven_none rfl
            hazard := hput.hazard }
      | lineMax => exact hput.frame rfl rfl rfl rfl rfl
      | turnThreshold => exact hput.overlayTests
      | slowThreshold => exact hput.overlayTests
      | _ =>
        exact hput.frame (by simp [settingChanged, plainChanged]) (by simp [settingChanged, plainChanged])
          (by simp [settingChanged, plainChanged]) (by simp [settingChanged, plainChanged])
          (by simp [settingChanged, plainChanged])
    | axle a x =>
      exact hput.frame (by simp [settingChanged]) (by simp [settingChanged]) (by simp [settingChanged])
        (by simp [settingChanged]) (by simp [settingChanged])
    | chan j c =>
      refine hput.frame (by simp [settingChanged]) (by simp [settingChanged]) (by simp [settingChanged])
        (by simp [settingChanged]) ?_
      cases j <;> rfl

/-- R25: a scan that starts. -/
theorem VehicleTied.startScan (h : VehicleTied s) : VehicleTied (startScan s) where
  rest := h.rest.frame rfl rfl (slotsOk_begin _ rfl (.inr ⟨_, rfl⟩))
  wait := waitDriven_none rfl
  hazard := h.hazard

/-- A change of SCN's record that leaves the scan and the wait. -/
theorem VehicleTied.modScn {f : Scn → Scn} (hscan : (f s.scn).scan = s.scn.scan) (hwait : (f s.scn).wait = s.scn.wait)
    (h : VehicleTied s) : VehicleTied (s.modScn f) where
  rest := h.rest.frame rfl rfl ⟨fun b hb => by
    rw [State.modScn_scn, hwait] at hb
    rw [State.modScn_scn, hscan]
    exact h.rest.slots.wait b hb, fun c hc => h.rest.slots.watch c (hscan ▸ hc)⟩
  wait := h.wait.frame (fun b hb => hwait ▸ hb) (duty_of_eq rfl rfl)
  hazard := h.hazard

/-- R23: the slot after a slot: a WATCH scan passes over the triggered ones. -/
theorem nextSlot_watch {k l : Fin 12} (h : nextSlot .watch k = some l) (hk : k.val < 4 ∨ 8 ≤ k.val) :
    l.val < 4 ∨ 8 ≤ l.val := by
  unfold nextSlot at h
  dsimp only at h
  split at h
  · cases h
    exact .inr (by decide)
  · split at h
    · cases h
      rename_i hne _
      have : k.val ≠ 3 := fun hv => hne (Fin.ext hv)
      dsimp only
      omega
    · contradiction

/-- R26: the wait that a slot records. -/
theorem waitAt_some {k : Fin 12} {b : Bridge} (h : waitAt s k = some b) : s.duty b ≠ 0 ∧ k = slotOf b := by
  unfold waitAt at h
  split at h
  · rename_i b' hb'
    split at h
    · contradiction
    · rename_i hduty
      cases h
      refine ⟨hduty, ?_⟩
      unfold slotBridge at hb'
      split at hb'
      · cases hb'
        assumption
      · split at hb'
        · cases hb'
          assumption
        · split at hb'
          · cases hb'
            assumption
          · contradiction
  · contradiction

/-- R23, R26: the next slot is reached. -/
theorem VehicleTied.convert (h : VehicleTied s) {c : Scan} {k : Fin 12} (codes : Vector (Option Code) 12)
    (hscan : s.scn.scan = some c) (hnext : nextSlot c.kind c.slot = some k) :
    VehicleTied (s.modScn fun n => { n with scan := some { c with slot := k, codes := codes }, wait := waitAt s k }) where
  rest := h.rest.frame rfl rfl
    { wait := fun b hb => by
        obtain ⟨-, hk⟩ := waitAt_some hb
        refine ⟨_, rfl, ?_, hk⟩
        cases hkind : c.kind with
        | continuous => rfl
        | watch =>
          rw [hkind] at hnext
          have hslot := nextSlot_watch hnext (h.rest.slots.watch c hscan hkind)
          rw [hk] at hslot
          cases b <;> simp [slotOf] at hslot
      watch := fun d hd hkind => by
        cases hd
        dsimp only at hkind
        rw [hkind] at hnext
        exact nextSlot_watch hnext (h.rest.slots.watch c hscan hkind) }
  wait := fun b hb => (waitAt_some hb).1
  hazard := h.hazard

theorem VehicleTied.offer (o : Offer) (h : VehicleTied s) : VehicleTied (offer o s) :=
  h.frame (by simp) (by simp) (by simp) (by simp) (by simp)

/-- R41, R43: SCN's part of a completion. -/
theorem VehicleTied.scanComplete (c : Scan) (h : VehicleTied s) : VehicleTied (scanComplete c s) := by
  have hpublished : VehicleTied (publishScan c s) :=
    { rest := h.rest.frame rfl rfl (slotsOk_begin _ rfl (.inl rfl))
      wait := waitDriven_none rfl
      hazard := h.hazard }
  have hwatched : VehicleTied (watchCheck (publishScan c s)) := by
    unfold watchCheck
    dsimp only
    split
    · split
      · exact hpublished
      · exact hpublished.modScn rfl rfl
    · split
      · exact VehicleTied.offer _ (hpublished.modScn rfl rfl)
      · exact hpublished
  unfold Machine.scanComplete afterScan
  split
  · exact hpublished.startScan
  · split
    · exact hwatched
    · exact hpublished

/-- R17: a comparator's level, and R1's flag, are no part of it. -/
theorem VehicleTied.modVsc {f : Vsc → Vsc} (hf : VscOk (f s.vsc)) (hop : (f s.vsc).op = s.vsc.op) (h : VehicleTied s) :
    VehicleTied (s.modVsc f) where
  rest := ⟨hf, by rw [State.modVsc_vsc, hop]; exact h.rest.winchOpen,
    ⟨by rw [State.modVsc_vsc, hop]; exact h.rest.classified.state, by
      rw [State.modVsc_vsc, hop]; exact h.rest.classified.braking⟩,
    fun x => ⟨(h.rest.axle x).drive, by rw [State.modVsc_vsc, hop]; exact (h.rest.axle x).still⟩, h.rest.slots⟩
  wait := h.wait
  hazard := h.hazard.frame hop rfl

/-- A change of VSC's record that touches none of its fields that the operating state fixes. -/
theorem VscOk.of_eq {v w : Vsc} (h : VscOk v) (hop : w.op = v.op) (hhold : w.hold = v.hold) (hgrace : w.grace = v.grace)
    (horigin : w.origin = v.origin) (hfirst : w.firstCause = v.firstCause) (hcount : w.expiryCount = v.expiryCount) :
    VscOk w := by
  constructor
  · rw [hop, hhold]; exact h.hold
  · rw [hop, hgrace]; exact h.grace
  · rw [hop, horigin]; exact h.origin
  · rw [hop, hfirst]; exact h.first
  · rw [hop, hcount]; exact h.count

/-- R20: further causes change VSC's set alone. -/
theorem VehicleTied.addCauses (added : List TripCause) (h : VehicleTied s) : VehicleTied (addCauses added s) := by
  unfold Machine.addCauses
  split
  · exact h
  · exact VehicleTied.offer _ (h.modVsc (h.rest.vsc.of_eq rfl rfl rfl rfl rfl rfl) rfl)

/-! ## Completions -/

theorem VehicleTied.supplyCut (h : VehicleTied s) : VehicleTied (supplyCut s) := by
  have hcut : ∀ t : State, VehicleTied t → ∀ capFront capRear,
      VehicleTied (Machine.cutAxles capFront capRear .cap (cutLights (cutWinch t))) := fun t ht capFront capRear => by
    have hwinch : VehicleTied (cutWinch t) := by
      unfold cutWinch
      split
      · exact ht.setWinchDuty _
      · exact ht
    exact (hwinch.frame (t := cutLights (cutWinch t)) rfl rfl rfl rfl rfl).cutAxles _ _ _
  have hnotice : VehicleTied (stageNotice s.sup.stage (s.modSup fun _ => supNext s)) :=
    h.frame (by simp) (by simp) (by simp) (by simp) (by simp)
  unfold Machine.supplyCut
  dsimp only
  split
  · exact hcut _ (hnotice.frame (by simp) (by simp) (by simp) (by simp) (sameOverlays_cutoffLights _).hazard) _ _
  · exact hcut _ hnotice _ _

theorem VehicleTied.modAssist (a : Option Nat) (h : VehicleTied s) : VehicleTied (s.modTrc fun t => { t with assist := a }) where
  rest := ⟨h.rest.vsc, h.rest.winchOpen, ⟨h.rest.classified.state, h.rest.classified.braking⟩,
    fun x => ⟨(h.rest.axle x).drive, (h.rest.axle x).still⟩, h.rest.slots⟩
  wait := h.wait.frame (fun _ hb => hb) (duty_of_eq rfl rfl)
  hazard := h.hazard

theorem VehicleTied.assistCut (h : VehicleTied s) : VehicleTied (assistCut s) := by
  unfold Machine.assistCut
  split
  · split
    · split
      · exact (h.modAssist _).cutAxles _ _ _
      · exact h.modAssist _
    · exact h
  · exact h

theorem assignLine_applied (i : Fin 4) (fn : LineFn) (s : State) : (assignLine i fn s).wch.applied = s.wch.applied := by
  unfold assignLine
  dsimp only
  split
  · rfl
  · split <;> rfl

/-- R27: a trigger ends a wait. -/
theorem VehicleTied.bridgeTrigger (b : Bridge) (h : VehicleTied s) : VehicleTied (bridgeTrigger b s) := by
  unfold Machine.bridgeTrigger
  split
  · exact
      { rest := h.rest.frame rfl rfl (h.rest.slots.waitEnds rfl fun b hb => by simp at hb)
        wait := waitDriven_none rfl
        hazard := h.hazard }
  · exact h

/-- R35: a watch interval expiry may start a scan. -/
theorem VehicleTied.watchExpiry (h : VehicleTied s) : VehicleTied (watchExpiry s) := by
  unfold Machine.watchExpiry
  split
  · exact h
  · dsimp only
    split
    · exact VehicleTied.startScan (h.modScn rfl rfl)
    · exact h.modScn rfl rfl

/-- Every part of an act keeps what the operating state fixes. -/
theorem steady_vehicleTied : Steady VehicleTied := by
  refine SteadyParts.steady ?_ (fun _ c _ h => h.scanComplete c) (fun _ h => h.supplyCut)
    (fun s h => h.modVsc (h.rest.vsc.of_eq rfl rfl rfl rfl rfl rfl) rfl) (fun _ h => h.assistCut)
  exact
    { link := fun s f h => h.frame rfl rfl rfl rfl rfl
      choice := fun s h => h.frame rfl rfl rfl rfl rfl
      fresh := fun s => vehicleTied_resetTo _ _ _ _ _
      kept := fun s _ => vehicleTied_resetTo _ _ _ _ _
      set := fun s k w v _ h => h.storeSetting k v
      arm := fun s hop _ h => vehicleTied_enterArmed h hop
      shutdown := fun origin cause s horigin hop h => by
        have hno : s.vsc.op ≠ .tripped := fun ht => by simp [ht, OpState.driven] at hop
        exact (vehicleTied_shutdownAsked cause horigin (h.rest.vsc.first_none hno) (h.rest.winch_closed hno)
          h.rest.slots).haltWinch _
      expires := fun s hop h => by
        refine (vehicleTied_shutdownAsked .linkLost (by decide) ?_ ?_ ?_).haltWinch _
        · simpa [expired] using h.rest.vsc.first_none (by simp [hop])
        · simpa [expired] using h.rest.winch_closed (by simp [hop])
        · simpa [expired] using h.rest.slots
      parks := fun s hop _ h => vehicleTied_enterParked _ (h.rest.vsc.first_none (by simp [hop]))
      forces := fun s hop h => vehicleTied_forceShutdown h hop
      leaves := fun s _ _ => vehicleTied_enterParked _ rfl
      failsafe := fun s hop h => (vehicleTied_failsafeAsked h hop).haltWinch _
      trips := fun added first s _ h => vehicleTied_enterTripped added first h
      adds := fun added s _ h => h.addCauses added
      comparator := fun s c h => h.modVsc (h.rest.vsc.of_eq rfl rfl rfl rfl rfl rfl) rfl
      drive := fun throttle steer dig s hop _ h => vehicleTied_driveTaken throttle steer dig h hop
      steerMode := fun m s h => h.frame (by simp) (by simp) (by simp) (by simp) (by simp)
      setManual := fun c level s h => h.frame (by simp) (by simp) (by simp) (by simp)
        ((SameOverlays.refl s).setManual c level).hazard
      writeSteps := fun first records s h => h.frame (by simp) (by simp) (by simp) (by simp) (by simp)
      startsWinch := fun first slots tag s _ _ _ _ h => h.frame (by simp) (by simp) (by simp) (by simp) (by simp)
      startsLight := fun c first slots tag s _ _ _ h => h.frame (by simp) (by simp) (by simp) (by simp)
        ((SameOverlays.refl s).startLight c first slots tag).hazard
      takesStatus := fun u s h => h.frame (by simp) (by simp) (by simp) (by simp) (by simp)
      haltsWinch := fun s _ h => h.haltWinch _
      haltsLight := fun c s _ h => h.frame (by simp [haltChannel]) (by simp [haltChannel]) (by simp [haltChannel])
        (by simp [haltChannel])
        (SameOverlays.endLightWith (s := s) (t := s.nextChoice) (.of_eq rfl rfl ⟨rfl, rfl⟩ rfl rfl) c _ _).hazard
      lineSet := fun p s _ h => h.frame rfl rfl rfl rfl rfl
      assignLine := fun i fn s _ _ h => h.frame (by simp) (by simp) (by simp) (assignLine_applied i fn s) (by simp)
      fetch := fun n rest s _ h => h.frame (by simp) (by simp) (by simp) (by simp) (by simp)
      unstack := fun u s h => h.frame rfl rfl rfl rfl rfl
      convert := fun s c k codes hscan _ hnext h => h.convert codes hscan hnext
      trigger := fun b s h => h.bridgeTrigger b
      watch := fun s h => h.watchExpiry
      driveFrame := fun s hdrives h => vehicleTied_driveFrame h hdrives
      servoFrame := fun s h => h.frame (by simp [servoFrameExpiry]) (by simp [servoFrameExpiry])
        (by simp [servoFrameExpiry]) (by simp [servoFrameExpiry]) (by simp [servoFrameExpiry])
      relax := fun s h => h.frame (by simp) (by simp) (by simp) (by simp) (by simp)
      arrives := fun s h => h.frame rfl rfl rfl rfl rfl
      lights := fun s h => h.frame (by simp) (by simp) (by simp) (by simp) (sameOverlays_lightsFrame s).hazard
      samples := fun pins s h => h.frame (by simp) (by simp) (by simp) (by simp) (by simp)
      general := fun i s h => h.frame (by simp) (by simp) (by simp) (by simp) (by simp)
      moves := fun s t hm _ h => h.moves hm
      ends := fun cause s t hm _ h => (h.moves hm).winchEnd cause }

end

end Sys2Proof.Machine

/-! In CUTOFF the part is not driven (01 R15), and O23. -/

namespace Sys2Proof.Machine

section
variable {s t : State}

theorem CutoffOk.of_eq (h : CutoffOk s) (hsup : t.sup = s.sup) (hop : t.vsc.op = s.vsc.op) : CutoffOk t := fun hcut => by
  rw [hop]
  exact h (hsup ▸ hcut)

/-- R15: outside ARMED and FAILSAFE any stage may stand. -/
theorem cutoffOk_of_still (h : t.vsc.op.driven = false) : CutoffOk t := fun _ => h

/-- R15: ARMED and FAILSAFE stand for each other. -/
theorem CutoffOk.of_driven (h : CutoffOk s) (hsup : t.sup = s.sup) (hop : s.vsc.op.driven = true) : CutoffOk t :=
  fun hcut => by
    have := h (hsup ▸ hcut)
    rw [hop] at this
    contradiction

/-- R3: ARM is refused in CUTOFF. -/
theorem stage_of_armRefusal (h : armRefusal s = none) : s.sup.stage ≠ .cutoff := fun hcut => by
  unfold armRefusal at h
  split at h
  · contradiction
  · contradiction

/-- R44: SUP's publication leaves the operating state. -/
theorem supplyCut_op (s : State) : (supplyCut s).vsc.op = s.vsc.op := by
  unfold supplyCut
  dsimp only
  split <;> simp

theorem assistCut_same (s : State) : (assistCut s).sup = s.sup ∧ (assistCut s).vsc = s.vsc := by
  unfold assistCut
  split
  · split
    · split <;> simp
    · exact ⟨rfl, rfl⟩
  · exact ⟨rfl, rfl⟩

theorem enterTripped_op (added : List TripCause) (first : TripCause) (s : State) :
    (enterTripped added first s).vsc.op = .tripped := by
  simp [enterTripped, changeOp_vsc]

theorem steadyParts_cutoffOk : SteadyParts CutoffOk where
  link := fun s f h => h.of_eq rfl rfl
  choice := fun s h => h.of_eq rfl rfl
  fresh := fun s => cutoffOk_of_still rfl
  kept := fun s _ => cutoffOk_of_still rfl
  set := fun s k w v _ h => h.of_eq (by simp) (by simp)
  arm := fun s _ hchecks _ hcut => absurd (by simpa [enterArmed] using hcut) (stage_of_armRefusal hchecks)
  shutdown := fun origin cause s _ _ _ => cutoffOk_of_still (by rw [haltWinch_vsc, shutdownAsked_op]; rfl)
  expires := fun s _ _ => cutoffOk_of_still (by rw [haltWinch_vsc, shutdownAsked_op]; rfl)
  parks := fun s _ _ _ => cutoffOk_of_still (by rw [enterParked_op]; rfl)
  forces := fun s _ _ => cutoffOk_of_still (by rw [forceShutdown, enterParked_op]; rfl)
  leaves := fun s _ _ => cutoffOk_of_still (by rw [leaveTripped, enterParked_op]; rfl)
  failsafe := fun s hop h => h.of_driven (by
    have hasked : (failsafeAsked s).sup = s.sup := by simp [failsafeAsked]
    obtain ⟨-, -, ht⟩ | ⟨-, -, ht⟩ | ⟨-, ht⟩ := haltWinch_cases .failsafe (failsafeAsked s) <;> rw [ht]
    · simp [hasked]
    · exact hasked
    · exact hasked) (by rw [hop]; rfl)
  trips := fun added first s _ _ => cutoffOk_of_still (by rw [enterTripped_op]; rfl)
  adds := fun added s _ h => h.of_eq (by simp) (addCauses_op added s)
  comparator := fun s c h => h.of_eq rfl rfl
  drive := fun throttle steer dig s hop _ h => h.of_driven (by simp) hop
  steerMode := fun m s h => h.of_eq (by simp) (by simp)
  setManual := fun c level s h => h.of_eq (by simp) (by simp)
  writeSteps := fun first records s h => h.of_eq (by simp) (by simp)
  startsWinch := fun first slots tag s _ _ _ _ h => h.of_eq (by simp) (by simp)
  startsLight := fun c first slots tag s _ _ _ h => h.of_eq (by simp) (by simp)
  takesStatus := fun u s h => h.of_eq (by simp) (by simp)
  haltsWinch := fun s _ h => h.of_eq (by
    obtain ⟨-, -, ht⟩ | ⟨-, -, ht⟩ | ⟨-, ht⟩ := haltWinch_cases .halted s <;> rw [ht]
    · simp
    · rfl) (by rw [haltWinch_vsc])
  haltsLight := fun c s _ h => h.of_eq (by simp [haltChannel]) (by simp [haltChannel])
  lineSet := fun p s _ h => h.of_eq rfl rfl
  assignLine := fun i fn s _ _ h => h.of_eq (by simp) (by simp)
  fetch := fun n rest s _ h => h.of_eq (by simp) (by simp)
  unstack := fun u s h => h.of_eq rfl rfl
  convert := fun s c k codes _ _ _ h => h.of_eq rfl rfl
  trigger := fun b s h => h.of_eq (by simp) (by simp)
  watch := fun s h => h.of_eq (by simp) (by simp)
  driveFrame := fun s _ h => h.of_eq (by simp) (by simp)
  servoFrame := fun s h => h.of_eq (by simp [servoFrameExpiry]) (by simp [servoFrameExpiry])
  relax := fun s h => h.of_eq (by simp) (by simp)
  arrives := fun s h => h.of_eq rfl rfl
  lights := fun s h => h.of_eq (by simp) (by simp)
  samples := fun pins s h => h.of_eq (by simp) (by simp)
  general := fun i s h => h.of_eq (by simp) (by simp)
  moves := fun s t hm _ h => h.of_eq hm.sup (by rw [hm.vsc])
  ends := fun cause s t hm _ h => h.of_eq (by simp [hm.sup]) (by simp [hm.vsc])

/-- R12: a shutdown that begins leaves the part undriven. -/
theorem beginShutdown_still (origin : Origin) (cause : OpCause) (s : State) :
    (beginShutdown origin cause s).vsc.op.driven = false := by
  have htest : ∀ u : State, u.vsc.op.driven = false → (completionTest u).vsc.op.driven = false := fun u hu => by
    obtain ⟨-, -, ht⟩ | ⟨-, ht⟩ := completionTest_cases u <;> rw [ht]
    · rw [enterParked_op]
      rfl
    · exact hu
  have hhalted : ∀ why, (haltWinch why (shutdownAsked origin cause s)).vsc.op.driven = false := fun why => by
    rw [haltWinch_vsc, shutdownAsked_op]
    rfl
  rw [beginShutdown_eq]
  refine htest _ ?_
  obtain ht | ht := winchHalt_eq origin.endCause (shutdownAsked origin cause s) <;> rw [ht]
  · exact hhalted _
  · exact htest _ (hhalted _)

/-- R15: a stage that becomes CUTOFF at a completion begins a shutdown, or a trip stands. -/
theorem cutoffOk_supplyAndVehicle (h : CutoffOk s) : CutoffOk (supplyAndVehicle s) := by
  have hop : (supplyCompletion s).vsc.op = s.vsc.op ∨ (supplyCompletion s).vsc.op = .parked := by
    obtain ht | ht := supplyCompletion_eq s <;> rw [ht]
    · exact .inl (supplyCut_op s)
    · obtain ⟨-, -, ht⟩ | ⟨-, ht⟩ := completionTest_cases (supplyCut s) <;> rw [ht]
      · exact .inr (enterParked_op ..)
      · exact .inl (supplyCut_op s)
  unfold supplyAndVehicle vehicleCompletion
  dsimp only
  split
  · unfold cutoffTest
    split
    · exact cutoffOk_of_still (beginShutdown_still ..)
    · rename_i hno
      intro hcut
      by_contra hdriven
      refine hno ?_
      rw [Bool.not_eq_false] at hdriven
      rw [Bool.and_eq_true]
      refine ⟨?_, hdriven⟩
      have hold : s.sup.stage ≠ .cutoff := fun hold => by
        have hstill := h hold
        obtain hsame | hparked := hop
        · rw [State.modVsc_vsc, hsame, hstill] at hdriven
          contradiction
        · rw [State.modVsc_vsc, hparked] at hdriven
          contradiction
      simp only [becameCutoff, Bool.and_eq_true, decide_eq_true_eq, Bool.not_eq_true', decide_eq_false_iff_not]
      exact ⟨hcut, hold⟩
  · refine cutoffOk_of_still ?_
    unfold tripWith
    split
    · contradiction
    · split
      · rename_i htripped
        rw [addCauses_op, htripped]
        rfl
      · rw [enterTripped_op]
        rfl

/-- Every part of an act keeps it. -/
theorem steady_cutoffOk : Steady CutoffOk where
  toSteadyParts := steadyParts_cutoffOk
  completes := fun s c _ h => by
    unfold completeScan completionEvent
    refine runOrder_preserves (P := CutoffOk) (fun s h => cutoffOk_supplyAndVehicle h)
      (fun s h => steadyParts_cutoffOk.assist (h.of_eq (assistCut_same s).1 (by rw [(assistCut_same s).2])))
      (fun s h => steadyParts_cutoffOk.reacts (winchCompletion_reacts s) h) _ _ ?_
    exact h.of_eq (by simp) (by simp)

end

/-- Settles O23: every part of an act keeps what the operating state fixes, and a stage that becomes CUTOFF leaves the
part undriven. -/
theorem vehicleStaysConsistent : Obligations.VehicleStaysConsistent := fun _ s t hvehicle haxle htraction hscan he => by
  obtain ⟨htied, hcutoff⟩ := (vehicle_iff s).mp ⟨hvehicle, haxle, htraction, hscan⟩
  exact (vehicle_iff t).mpr ⟨steady_vehicleTied.exec htied he, steady_cutoffOk.exec hcutoff he⟩

end Sys2Proof.Machine

/-! The requests that refuse or that change one record: SET's and ARM's refusals, STEER_MODE, LINE_SET and SET_LIGHT
(10 section 10.4, 01 section 1.3, 05 section 5.4, 07 section 7.4, 08 section 8.3). -/

namespace Sys2Proof.Machine

/-! ## Replies (10 R173) -/

theorem answeredBy_replied (s t : State) (kind tag : Byte) (p : List Byte) (o : ReplyOutcome) (fields : List Byte) :
    AnsweredBy s (replied s t kind tag p o fields) kind tag p o fields := rfl

/-- R173: a reply leaves the channels. -/
theorem replied_chan (s t : State) (kind tag : Byte) (p : List Byte) (o : ReplyOutcome) (fields : List Byte) (c : Chan) :
    (replied s t kind tag p o fields).chan c = t.chan c := rfl

/-! ## SET's refusals (10 R178) -/

/-- R178: a SET of a setting or an index that names nothing. -/
theorem onSet_unknown {s : State} {setting index low high : Byte} (h : namedKey setting index = none) :
    onSet s [setting, index, low, high] = (s, refusedWith .badValue (setFields setting index.toNat 0)) := by
  simp [onSet, h]

/-- R178: a SET that a check refuses. -/
theorem onSet_refused {s : State} {setting index low high : Byte} {k : Key} {r : Reason}
    (h : namedKey setting index = some k) (hcheck : setCheck s k (read16 low high) = .error r) :
    onSet s [setting, index, low, high] = (s, refusedWith r (setFields setting k.index (s.cfg.value k))) := by
  simp [onSet, h, hcheck]

/-- R178: a SET that passes its checks. -/
theorem onSet_done {s : State} {setting index low high : Byte} {k : Key} {v : Nat}
    (h : namedKey setting index = some k) (hcheck : setCheck s k (read16 low high) = .ok v) :
    onSet s [setting, index, low, high] = (storeSetting k v s, doneWith .none (setFields setting k.index v)) := by
  simp [onSet, h, hcheck]

/-- R178, check 2. -/
theorem setCheck_notParked {s : State} {k : Key} (v : Nat) (hk : k.parkedOnly = true) (hop : s.vsc.op ≠ .parked) :
    setCheck s k v = .error .notParked := if_pos ⟨hk, hop⟩

/-- R178, check 3. -/
theorem setCheck_badCode {s : State} {k : Key} {v : Nat} (hop : k.parkedOnly = true → s.vsc.op = .parked)
    (hk : k.named = true) (hv : k.high < v) : setCheck s k v = .error .badValue := by
  rw [setCheck, if_neg fun h => h.2 (hop h.1), if_pos ⟨hk, hv⟩]

/-- R43: no named setting is a stage level. -/
theorem levelOrder_iff (c : SupCfg) (k : Key) (v : Nat) : levelOrder c k v = true ↔ levelsOrdered c k v := by
  unfold levelOrder
  split <;> simp_all [levelsOrdered]

/-- R178, check 5: a stage level is neither parked-only nor named. -/
theorem setCheck_disordered {s : State} {k : Key} {v : Nat} (h : ¬ levelsOrdered s.cfg.sup k (max k.low (min k.high v))) :
    setCheck s k v = .error .badValue := by
  rw [← levelOrder_iff] at h
  have hlevel : k = .plain .cautionLevel ∨ k = .plain .reserveLevel ∨ k = .plain .cutoffLevel := by
    unfold levelOrder at h
    split at h
    · exact .inl rfl
    · exact .inr (.inl rfl)
    · exact .inr (.inr rfl)
    · contradiction
  have hplain : k.parkedOnly = false ∧ k.named = false := by
    obtain rfl | rfl | rfl := hlevel <;> exact ⟨rfl, rfl⟩
  rw [setCheck, if_neg (by simp [hplain.1]), if_neg (by simp [hplain.2])]
  exact if_neg h

/-- Settles O13: each check of SET in its order. -/
theorem setRefusals : Obligations.SetRefusals := by
  intro tag setting index low high s hfree p v refused
  refine ⟨fun h => ?_, ?_⟩
  · have hfields : setFields setting index.toNat 0 = [setting, index, 0, 0] := by
      rw [setFields, u8_toNat, u8_toNat]
      rfl
    rw [← hfields]
    exact congrArg _ (frameArrives_unchanged .set tag p s _ hfree (onSet_unknown (s := s.modLnk _) h))
  · intro k hk held
    have hrefused (r : Reason) (hcheck : setCheck s k (read16 low high) = .error r) : refused r held := by
      have hfields : setFields setting k.index (s.cfg.value k) = held := by
        rw [setFields, u8_toNat]
      rw [← hfields]
      exact congrArg _ (frameArrives_unchanged .set tag p s _ hfree (onSet_refused (s := s.modLnk _) hk hcheck))
    exact ⟨fun hparked hop => hrefused _ (setCheck_notParked _ hparked hop),
      fun hop hnamed hv => hrefused _ (setCheck_badCode hop hnamed hv), fun h => hrefused _ (setCheck_disordered h)⟩

/-! ## ARM's refusals (01 R3) -/

/-- The first member of a rising list with a property is the lowest one. -/
theorem find_lowest {n : Nat} {l : List (Fin n)} (hsorted : l.Pairwise (· < ·)) {p : Fin n → Bool} {i : Fin n}
    (hmem : i ∈ l) (hi : p i = true) (hbefore : ∀ j < i, p j = false) : l.find? p = some i := by
  obtain ⟨before, after, rfl⟩ := List.append_of_mem hmem
  rw [List.find?_eq_some_iff_append]
  refine ⟨hi, before, after, rfl, fun j hj => ?_⟩
  rw [hbefore j ((List.pairwise_append.mp hsorted).2.2 j hj i List.mem_cons_self)]
  rfl

/-- 02 section 2.1.1: the four taps are listed in rising order. -/
theorem allTaps_sorted : allTaps.Pairwise (· < ·) := by decide

theorem mem_allTaps (i : Fin 4) : i ∈ allTaps := by
  revert i
  decide

/-- R3, check 3: the lowest spare tap that reads too high. -/
theorem tapTooHigh_eq {s : State} {i : Fin 4} (hi : s.cfg.scn.cellCount < i.val + 1 ∧ 1000 < s.scn.results.taps[i])
    (hbefore : ∀ j < i, ¬ (s.cfg.scn.cellCount < j.val + 1 ∧ 1000 < s.scn.results.taps[j])) :
    tapTooHigh s = some i := by
  refine find_lowest allTaps_sorted (mem_allTaps i) ?_ fun j hj => ?_
  · simp only [Bool.and_eq_true, decide_eq_true_eq]
    exact ⟨Nat.lt_succ_iff.mp hi.1, hi.2⟩
  · rw [Bool.eq_false_iff, ne_eq, Bool.and_eq_true, decide_eq_true_eq, decide_eq_true_eq]
    exact fun h => hbefore j hj ⟨Nat.lt_succ_of_le h.1, h.2⟩

theorem tapTooHigh_eq_none {s : State} (h : ∀ j : Fin 4, ¬ (s.cfg.scn.cellCount < j.val + 1 ∧ 1000 < s.scn.results.taps[j])) :
    tapTooHigh s = none := by
  rw [tapTooHigh, List.find?_eq_none]
  intro j _
  rw [Bool.and_eq_true, decide_eq_true_eq, decide_eq_true_eq]
  exact fun hj => h j ⟨Nat.lt_succ_of_le hj.1, hj.2⟩

/-- R3, check 3: the lowest cell that reads too low. -/
theorem cellTooLow_eq {s : State} {i : Fin 4} (hi : i.val + 1 ≤ s.cfg.scn.cellCount ∧ s.scn.results.raw[i] < 2500)
    (hbefore : ∀ j < i, ¬ (j.val + 1 ≤ s.cfg.scn.cellCount ∧ s.scn.results.raw[j] < 2500)) : cellTooLow s = some i := by
  refine find_lowest allTaps_sorted (mem_allTaps i) ?_ fun j hj => ?_
  · simp only [Bool.and_eq_true, decide_eq_true_eq]
    exact ⟨hi.1, hi.2⟩
  · rw [Bool.eq_false_iff, ne_eq, Bool.and_eq_true, decide_eq_true_eq, decide_eq_true_eq]
    exact fun h => hbefore j hj ⟨h.1, h.2⟩

theorem cellTooLow_eq_none {s : State} (h : ∀ j : Fin 4, ¬ (j.val + 1 ≤ s.cfg.scn.cellCount ∧ s.scn.results.raw[j] < 2500)) :
    cellTooLow s = none := by
  rw [cellTooLow, List.find?_eq_none]
  intro j _
  rw [Bool.and_eq_true, decide_eq_true_eq, decide_eq_true_eq]
  exact fun hj => h j ⟨hj.1, hj.2⟩

/-- R3: an ARM in PARKED that a check refuses. -/
theorem onArm_refused {s : State} {a : Answer} (hop : s.vsc.op = .parked) (h : armRefusal s = some a) :
    onArm s [] = (s, a) := by
  simp [onArm, hop, armParked, h]

/-- R3: an ARM in PARKED that passes its checks. -/
theorem onArm_accepted {s : State} (hop : s.vsc.op = .parked) (h : armRefusal s = none) :
    onArm s [] = (enterArmed s, doneWith .none []) := by
  simp [onArm, hop, armParked, h]

/-- Settles O15: the checks of an ARM in PARKED, in their order. -/
theorem armRefusals : Obligations.ArmRefusals := by
  intro tag s hfree hop refused tapHigh cellLow
  have hrefused (r : Reason) (fields : List Byte) (h : armRefusal s = some (refusedWith r fields)) : refused r fields :=
    congrArg _ (frameArrives_unchanged .arm tag [] s _ hfree (onArm_refused (s := s.modLnk _) hop h))
  refine ⟨fun hm => hrefused _ _ ?_, fun hm hstage => hrefused _ _ ?_, fun hm hstage =>
    ⟨fun i hi hbefore => hrefused _ _ ?_, fun hnone i hi hbefore => hrefused _ _ ?_⟩⟩
  · simp [armRefusal, hm]
  · simp [armRefusal, hm, hstage]
  · simp [armRefusal, hm, hstage, tapTooHigh_eq hi hbefore]
  · simp [armRefusal, hm, hstage, tapTooHigh_eq_none hnone, cellTooLow_eq hi hbefore]

/-! ## STEER_MODE (05 R94) -/

theorem steerModeOf_code {b : Byte} {m : SteerMode} (h : b.toNat = m.code) : steerModeOf b = some m := by
  unfold steerModeOf
  rw [h]
  cases m <;> rfl

theorem steerModeOf_eq_none {b : Byte} (h : 4 < b.toNat) : steerModeOf b = none := by
  unfold steerModeOf
  split
  case h_6 => rfl
  all_goals omega

/-- R94: when a mode is applied at once. -/
theorem steerModeAtOnce_iff (s : State) (m : SteerMode) : steerModeAtOnce s m = true ↔
    s.vsc.op = .parked ∨ s.vsc.op = .tripped ∨ m = s.stc.mode ∨ s.stc.steer.natAbs ≤ s.cfg.stc.centreBand := by
  unfold steerModeAtOnce
  cases s.vsc.op <;> simp [withinCentre]

/-- Settles O34: R94's table. -/
theorem steerModeDecided : Obligations.SteerModeDecided := by
  intro tag b s hfree
  refine ⟨fun hb => ?_, fun m hm => ?_⟩
  · have hrefused (q : State) : onSteerMode q [b] = (q, refusedWith .badValue []) := by
      simp [onSteerMode, steerModeOf_eq_none hb]
    exact congrArg _ (frameArrives_unchanged .steerMode tag [b] s _ hfree (hrefused _))
  · dsimp only
    rw [← steerModeAtOnce_iff]
    refine ⟨fun honce => ?_, fun honce => ?_⟩
    · have hdoes (q : State) (hq : steerModeAtOnce q m = true) : onSteerMode q [b] =
          (q.modStc fun t => { t with mode := m, pendingMode := none }, doneWith .applied [b, 0xFF]) := by
        have hnone : u8 255 = [0xFF] := rfl
        simp [onSteerMode, steerModeOf_code hm, steerMode, hq, optCode, u8_of_toNat hm, hnone]
      exact congrArg _ (frameArrives_replied .steerMode tag [b] s hfree (hdoes (s.modLnk _) honce))
    · have hdoes (q : State) (hq : ¬ steerModeAtOnce q m = true) : onSteerMode q [b] =
          (q.modStc fun t => { t with pendingMode := some m }, doneWith .modePending (u8 q.stc.mode.code ++ [b])) := by
        simp [onSteerMode, steerModeOf_code hm, steerMode, hq, optCode, u8_of_toNat hm]
      exact congrArg _ (frameArrives_replied .steerMode tag [b] s hfree (hdoes (s.modLnk _) honce))

/-! ## LINE_SET (07 R131) -/

/-- Settles O44: LINE_SET by the winch unit's state. -/
theorem lineSetSetsPosition : Obligations.LineSetSetsPosition := by
  intro tag low high s hfree mm
  refine ⟨fun hidle => ?_, fun hactive => ?_, fun p hp => ?_⟩
  · have hdoes (q : State) (hq : (q.unit 0).state = .idle) : onLineSet q [low, high] =
        (q.modWch fun w => { w with position := min q.cfg.wch.lineMax (low.toNat + 256 * high.toNat) * 10 },
          doneWith .none (u16 (min q.cfg.wch.lineMax (low.toNat + 256 * high.toNat)))) := by
      simp [onLineSet, hq, clampNat, read16]
    exact congrArg _ (frameArrives_replied .lineSet tag [low, high] s hfree (hdoes (s.modLnk _) hidle))
  · have hdoes (q : State) (hq : (q.unit 0).state ≠ .idle) : onLineSet q [low, high] =
        (q, ⟨.busy, u16 (q.wch.position / 10) ++ progressBytes q 0⟩) := by
      simp only [onLineSet, if_neg hq, busyWith, if_true, positionField]
      rfl
    exact congrArg _ (frameArrives_unchanged .lineSet tag [low, high] s _ hfree (hdoes (s.modLnk _) hactive))
  · have hrefused (q : State) : onLineSet q p = (q, badLength) := by
      unfold onLineSet
      split
      · simp at hp
      · rfl
    exact congrArg _ (frameArrives_unchanged .lineSet tag p s _ hfree (hrefused _))

/-! ## SET_LIGHT (08 R148) -/

/-- R155: the level formed anew is that of the channel's source and overlay. -/
theorem levelFormed_formLevel (cfg : ChanCfg) (hazard : Option Nat) (ch : Channel) :
    LevelFormed cfg hazard (formLevel cfg hazard ch) := by
  refine ⟨?_, rfl⟩
  cases h : ch.source <;> simp [formLevel, desiredLevel, Channel.sourceLevel, h]

/-- R148: the channel after a SET_LIGHT. -/
theorem chan_setManual (c d : Chan) (level : Nat) (s : State) : (setManual c level s).chan d =
    if d = c then
      if (s.chan c).source = .manual then
        formLevel s.cfg.ltc.chan[c] s.ltc.hazard { s.chan c with manual := level }
      else { s.chan c with manual := level }
    else s.chan d := by
  unfold setManual
  dsimp only
  rw [State.chan_modChan_self]
  by_cases hd : d = c
  · subst hd
    cases h : (s.chan d).source <;> simp [chan_formDesired, h]
  · cases (s.chan c).source <;> simp [chan_formDesired, hd]

theorem setManual_hazard (c : Chan) (level : Nat) (s : State) : (setManual c level s).ltc.hazard = s.ltc.hazard := by
  unfold setManual
  dsimp only
  split <;> rfl

/-- R148: SET_LIGHT changes LTC's record alone. -/
theorem setManual_eq (c : Chan) (level : Nat) (s : State) :
    setManual c level s = { s with ltc := (setManual c level s).ltc } := by
  unfold setManual
  dsimp only
  split <;> rfl

/-- R148: the answer of a SET_LIGHT. -/
theorem onSetLight_done {s : State} {b level : Byte} {c : Chan} (h : b.toNat = c.val) :
    onSetLight s [b, level] = (setManual c level.toNat s,
      doneWith (if (s.chan c).source = .manual then .applied else .deferred)
        ([b, level] ++ u8 (s.chan c).source.code ++ u8 (s.chan c).applied ++ u8 s.sup.alloc.budgetCap[c] ++
          u8 s.sup.alloc.stageCap[c])) := by
  have hchan : ((setManual c level.toNat s).chan c).source = (s.chan c).source ∧
      ((setManual c level.toNat s).chan c).applied = (s.chan c).applied ∧
      ((setManual c level.toNat s).chan c).manual = level.toNat := by
    rw [chan_setManual, if_pos rfl]
    split <;> exact ⟨rfl, rfl, rfl⟩
  obtain ⟨hsource, happlied, hmanual⟩ := hchan
  simp only [onSetLight, chanNo_eq h, hsource, happlied, hmanual, setManual_frame, u8_of_toNat h, u8_toNat]
  cases (s.chan c).source <;> rfl

/-- Settles O49: SET_LIGHT stores the manual level, and forms the level anew where the source is MANUAL. -/
theorem setLightStoresLevel : Obligations.SetLightStoresLevel := by
  intro tag b level s hfree
  refine ⟨fun hb => ?_, fun p hp => ?_, fun c hc => ?_⟩
  · have hrefused (q : State) : onSetLight q [b, level] = (q, refusedWith .badValue []) := by
      simp [onSetLight, chanNo_eq_none hb]
    exact congrArg _ (frameArrives_unchanged .setLight tag [b, level] s _ hfree (hrefused _))
  · have hrefused (q : State) : onSetLight q p = (q, badLength) := by
      unfold onSetLight
      split
      · simp at hp
      · rfl
    exact congrArg _ (frameArrives_unchanged .setLight tag p s _ hfree (hrefused _))
  · refine ⟨_, congrArg Host.Outcome.next (frameArrives_replied .setLight tag [b, level] s hfree
      (onSetLight_done (s := s.modLnk (lnkOf ⟨0x14, tag, [b, level]⟩)) hc)), answeredBy_replied .., fun hsource => ?_,
      fun hsource => ?_, fun d hd => ?_, setManual_hazard c _ _, ?_⟩
    · refine (chan_setManual c c level.toNat (s.modLnk (lnkOf ⟨0x14, tag, [b, level]⟩))).trans ?_
      rw [if_pos rfl, State.chan_modLnk, if_neg (by rw [hsource]; decide)]
    · have hchan := chan_setManual c c level.toNat (s.modLnk (lnkOf ⟨0x14, tag, [b, level]⟩))
      rw [if_pos rfl, State.chan_modLnk, if_pos hsource] at hchan
      rw [replied_chan, hchan]
      exact ⟨rfl, levelFormed_formLevel ..⟩
    · refine (chan_setManual c d level.toNat (s.modLnk (lnkOf ⟨0x14, tag, [b, level]⟩))).trans ?_
      rw [if_neg hd, State.chan_modLnk]
    · rw [setManual_eq]
      rfl

end Sys2Proof.Machine

/-! Lines, servo frames, the relax timer, the scan list, the outputs and the orders of the blocks (09 section 9.4.2,
05 sections 5.3 and 5.5, 02 sections 2.1.1 and 2.2, 09 section 9.3.1). -/

namespace Sys2Proof.Machine

/-! ## ASSIGN_LINE (09 R166) -/

theorem lineNo_eq {b : Byte} {i : Fin 4} (h : b.toNat = i.val) : lineNo b = some i := by simp [lineNo, h]

theorem lineNo_eq_none {b : Byte} (h : 3 < b.toNat) : lineNo b = none := dif_neg (by omega)

theorem lineFnOf_code {b : Byte} {fn : LineFn} (h : b.toNat = fn.code) : lineFnOf b = some fn := by
  unfold lineFnOf
  rw [h]
  cases fn <;> rfl

theorem lineFnOf_eq_none {b : Byte} (h : 4 < b.toNat) : lineFnOf b = none := by
  unfold lineFnOf
  split
  case h_6 => rfl
  all_goals omega

theorem exists_lineFn {b : Byte} (h : b.toNat ≤ 4) : ∃ fn, lineFnOf b = some fn := by
  have hcode : b.toNat = 0 ∨ b.toNat = 1 ∨ b.toNat = 2 ∨ b.toNat = 3 ∨ b.toNat = 4 := by omega
  rcases hcode with h | h | h | h | h
  · exact ⟨.off, lineFnOf_code h⟩
  · exact ⟨.generalInput, lineFnOf_code h⟩
  · exact ⟨.drumPulse, lineFnOf_code h⟩
  · exact ⟨.fairlead, lineFnOf_code h⟩
  · exact ⟨.clutchServo, lineFnOf_code h⟩

theorem LineFn.single_iff (fn : LineFn) : fn.single = true ↔ fn = .drumPulse ∨ fn = .fairlead ∨ fn = .clutchServo := by
  cases fn <;> decide

/-- R166, check 6: the lowest other line that holds the function. -/
theorem holderOf_eq {s : State} {i k : Fin 4} {fn : LineFn} (hfn : fn.single = true) (hk : k ≠ i)
    (hheld : (s.lmx.lines[k]).fn = fn) (hlow : ∀ j < k, j ≠ i → (s.lmx.lines[j]).fn ≠ fn) : holderOf i fn s = some k := by
  have hsorted : allLines.Pairwise (· < ·) := by decide
  rw [holderOf, if_pos hfn]
  refine find_lowest hsorted (mem_allLines k) ?_ fun j hj => ?_
  · rw [Bool.and_eq_true, decide_eq_true_eq, decide_eq_true_eq]
    exact ⟨hk, hheld⟩
  · rw [Bool.eq_false_iff, ne_eq, Bool.and_eq_true, decide_eq_true_eq, decide_eq_true_eq]
    exact fun h => hlow j hj h.1 h.2

theorem holderOf_eq_none {s : State} {i : Fin 4} {fn : LineFn}
    (h : fn.single = true → ∀ k, k ≠ i → (s.lmx.lines[k]).fn ≠ fn) : holderOf i fn s = none := by
  unfold holderOf
  split
  · rw [List.find?_eq_none]
    intro k _
    rw [Bool.and_eq_true, decide_eq_true_eq, decide_eq_true_eq]
    exact fun hk => h ‹_› k hk.1 hk.2
  · rfl

/-- R166: the functions in a reply. -/
def fourFunctions (s : State) : List Byte := u8 (s.lmx.lines[0]).fn.code ++ u8 (s.lmx.lines[1]).fn.code ++
  u8 (s.lmx.lines[2]).fn.code ++ u8 (s.lmx.lines[3]).fn.code

/-- R166: an ASSIGN_LINE that a check refuses before its function is looked at. -/
theorem onAssignLine_refused {s : State} {b f : Byte} :
    (3 < b.toNat → onAssignLine s [b, f] = (s, refusedWith .noLine (fourFunctions s))) ∧
    (b.toNat ≤ 3 → 4 < f.toNat → onAssignLine s [b, f] = (s, refusedWith .badValue (fourFunctions s))) ∧
    (b.toNat ≤ 3 → f.toNat ≤ 4 → (s.unit 0).state ≠ .idle →
      onAssignLine s [b, f] = (s, refusedWith .inUse (fourFunctions s))) ∧
    (b.toNat ≤ 3 → f.toNat ≤ 4 → (s.unit 0).state = .idle → s.vsc.op ≠ .parked →
      onAssignLine s [b, f] = (s, refusedWith .notParked (fourFunctions s))) := by
  have hbytes : functionBytes s = fourFunctions s := functionBytes_eq s
  have hline (hb : b.toNat ≤ 3) : lineNo b = some ⟨b.toNat, by omega⟩ := dif_pos _
  refine ⟨fun hb => ?_, fun hb hf => ?_, fun hb hf hactive => ?_, fun hb hf hidle hop => ?_⟩
  · simp [onAssignLine, lineNo_eq_none hb, hbytes]
  · simp [onAssignLine, hline hb, lineFnOf_eq_none hf, hbytes]
  · obtain ⟨fn, hfn⟩ := exists_lineFn hf
    simp [onAssignLine, hline hb, hfn, assignKnown, hactive, hbytes]
  · obtain ⟨fn, hfn⟩ := exists_lineFn hf
    simp [onAssignLine, hline hb, hfn, assignKnown, hidle, hop, hbytes]

/-- R166, check 6: an ASSIGN_LINE of a known function, in PARKED with the winch unit idle. -/
theorem onAssignLine_known {s : State} {b f : Byte} {i : Fin 4} {fn : LineFn} (hi : b.toNat = i.val)
    (hfn : f.toNat = fn.code) (hidle : (s.unit 0).state = .idle) (hop : s.vsc.op = .parked) :
    onAssignLine s [b, f] = match holderOf i fn s with
      | some k => (s, refusedWith .badValue (u8 k.val))
      | none => (assignLine i fn s, doneWith .none (fourFunctions (assignLine i fn s))) := by
  have hbytes (q : State) : functionBytes q = fourFunctions q := functionBytes_eq q
  simp only [onAssignLine, lineNo_eq hi, lineFnOf_code hfn, assignKnown, hidle, hop, hbytes]
  rfl

/-- R166: what a new function makes of its line. -/
theorem assignLine_new {s : State} {i : Fin 4} {fn : LineFn} (h : (s.lmx.lines[i]).fn ≠ fn) :
    assignLine i fn s = { s with
      lmx := { s.lmx with lines := s.lmx.lines.set i ((s.lmx.lines[i]).given fn) }
      wch := { s.wch with clutch := if (s.lmx.lines[i]).fn = .clutchServo ∨ fn = .clutchServo then .unknown
        else s.wch.clutch } } := by
  unfold assignLine
  dsimp only
  rw [if_neg h]
  split <;> rfl

theorem getElem_set_fin {α : Type} {n : Nat} (v : Vector α n) (i k : Fin n) (x : α) :
    (v.set i x)[k] = if k = i then x else v[k] := by
  by_cases h : k = i
  · subst h
    simp
  · rw [if_neg h, Fin.getElem_fin, Vector.getElem_set_ne _ _ fun hv => h (Fin.ext hv.symm)]
    rfl

theorem Line.given_fn (l : Line) (fn : LineFn) : (l.given fn).fn = fn := by
  unfold Line.given
  split <;> rfl

theorem Line.given_input (l : Line) {fn : LineFn} (h : fn = .generalInput ∨ fn = .drumPulse ∨ fn = .fairlead) :
    (l.given fn).sample = none ∧ (l.given fn).accepted = .high := by
  rcases h with rfl | rfl | rfl <;> exact ⟨rfl, rfl⟩

theorem Line.given_output (l : Line) {fn : LineFn} (h : fn = .off ∨ fn = .clutchServo) :
    (l.given fn).accepted = l.accepted := by
  rcases h with rfl | rfl <;> rfl

/-- Settles O52: the checks in the table's order, and what a new function does. -/
theorem assignLineChecks : Obligations.AssignLineChecks := by
  intro tag b f s hfree p functions refused
  obtain ⟨hline, hvalue, huse, hparked⟩ := onAssignLine_refused (s := s.modLnk (lnkOf ⟨0x26, tag, p⟩)) (b := b) (f := f)
  have hrefused (r : Reason) (fields : List Byte) (h : onAssignLine (s.modLnk (lnkOf ⟨0x26, tag, p⟩)) p =
      (s.modLnk (lnkOf ⟨0x26, tag, p⟩), refusedWith r fields)) : refused r fields :=
    congrArg Host.Outcome.next (frameArrives_unchanged .assignLine tag p s _ hfree h)
  refine ⟨fun hb => hrefused _ _ (hline hb), fun hb hf => hrefused _ _ (hvalue hb hf),
    fun hb hf hactive => hrefused _ _ (huse hb hf hactive), fun hb hf hidle hop => hrefused _ _ (hparked hb hf hidle hop),
    fun i fn hi hfn hidle hop => ?_⟩
  intro single
  have hknown := onAssignLine_known (s := s.modLnk (lnkOf ⟨0x26, tag, p⟩)) hi hfn hidle hop
  refine ⟨fun hsingle k hk hheld hlow => ?_, fun hfreeLine => ⟨fun hsame => ?_, fun hnew => ?_⟩⟩
  · refine hrefused _ _ (hknown.trans ?_)
    rw [holderOf_eq (s := s.modLnk (lnkOf ⟨0x26, tag, p⟩)) ((LineFn.single_iff fn).mpr hsingle) hk hheld hlow]
  · rw [holderOf_eq_none (s := s.modLnk (lnkOf ⟨0x26, tag, p⟩)) fun hs => hfreeLine ((LineFn.single_iff fn).mp hs)] at hknown
    have hkept : assignLine i fn (s.modLnk (lnkOf ⟨0x26, tag, p⟩)) = s.modLnk (lnkOf ⟨0x26, tag, p⟩) := if_pos hsame
    rw [hkept] at hknown
    exact congrArg Host.Outcome.next (frameArrives_unchanged .assignLine tag p s _ hfree hknown)
  · rw [holderOf_eq_none (s := s.modLnk (lnkOf ⟨0x26, tag, p⟩)) fun hs => hfreeLine ((LineFn.single_iff fn).mp hs),
      assignLine_new (s := s.modLnk (lnkOf ⟨0x26, tag, p⟩)) hnew] at hknown
    have hat : (s.lmx.lines.set i ((s.lmx.lines[i]).given fn))[i] = (s.lmx.lines[i]).given fn := by
      rw [getElem_set_fin, if_pos rfl]
    refine ⟨_, congrArg Host.Outcome.next (frameArrives_replied .assignLine tag p s hfree hknown),
      answeredBy_replied .., ?_, fun hin => ?_, fun hout => ?_, fun k hk => ?_, rfl, rfl, rfl⟩
    · exact (congrArg Line.fn hat).trans (Line.given_fn ..)
    · obtain ⟨hsample, haccepted⟩ := Line.given_input (s.lmx.lines[i]) hin
      exact ⟨(congrArg Line.sample hat).trans hsample, (congrArg Line.accepted hat).trans haccepted⟩
    · exact (congrArg Line.accepted hat).trans (Line.given_output (s.lmx.lines[i]) hout)
    · exact (getElem_set_fin s.lmx.lines i k _).trans (if_neg hk)

/-! ## Servo frames and the relax timer (05 R91 to R93, R97) -/

/-- R91, R92. -/
theorem targetPulses_eq (s : State) :
    targetPulses s = steerPulses s.cfg.stc s.stc.mode s.stc.steer s.trc.applied.front := by
  unfold targetPulses steerPulses
  cases s.stc.mode <;> rfl

/-- R129: the width that the clutch servo emits. -/
theorem clutchPulse_eq (s : State) : clutchPulse s =
    if s.hasLine .clutchServo = false ∨ s.vsc.op = .parked ∨ s.wch.clutch = .unknown then none
    else if s.wch.clutch = .engaged ∨ s.wch.clutch = .movingToEngage then some s.cfg.wch.clutchEngaged
    else some s.cfg.wch.clutchFree := by
  unfold clutchPulse
  cases s.hasLine .clutchServo
  · simp
  · by_cases hop : s.vsc.op = .parked
    · simp [hop]
    · cases s.wch.clutch <;> simp [hop]

/-- Settles O35: the four output states, with frozen targets apart. -/
theorem servoFrameEmits : Obligations.ServoFrameEmits := by
  intro s g computed target slew output emits clutch
  have hclutch : clutch = clutchPulse s := (clutchPulse_eq s).symm
  have hcomputed : computed = targetPulses s := (targetPulses_eq s).symm
  rw [hclutch]
  show Host.Outcome.next (servoFrameExpiry s) = _
  refine congrArg Host.Outcome.next ?_
  simp only [output, target, emits, hcomputed]
  unfold servoFrameExpiry restartServoTimer steerFrame
  cases hout : s.stc.out with
  | stopped => simp [hout, State.modStc, State.modWch, servoPeriod, PerAxle.both, g]
  | pulsing =>
    cases hfrozen : s.stc.frozen with
    | false => simp [hout, hfrozen, State.modStc, State.modWch, servoPeriod, slewOutputs, approachNat, slew, g]
    | true => simp [hout, hfrozen, State.modStc, State.modWch, servoPeriod, slewOutputs, approachNat, slew, g]
  | relaxed => simp [hout, State.modStc, State.modWch, servoPeriod, PerAxle.both, g]
  | held => simp [hout, State.modStc, State.modWch, servoPeriod, g]

/-- Settles O36. -/
theorem relaxTimerRelaxes : Obligations.RelaxTimerRelaxes := by
  intro s
  show (_ → _ → _ → Host.Outcome.next (relaxExpiry s) = _) ∧ (_ → Host.Outcome.next (relaxExpiry s) = _)
  refine ⟨fun hrun hop hout => congrArg _ ?_, fun hnot => congrArg _ ?_⟩
  · obtain ⟨n, hn⟩ := Option.isSome_iff_exists.mp hrun
    simp [relaxExpiry, hn, hop, hout, State.modStc]
  · obtain heq | ⟨hrun, hop, hout, -⟩ := relaxExpiry_cases s
    · exact heq
    · obtain hnone | hother | hother := hnot
      · rw [hnone] at hrun
        contradiction
      · contradiction
      · contradiction

/-! ## The scan list, triggers and watch intervals (02 R23 to R27, R35) -/

/-- R23: the slot after slot k of a scan. -/
theorem nextSlot_eq_some {kind : ScanMode} {k l : Fin 12}
    (h : l.val = if kind = .watch ∧ k = 3 then 8 else k.val + 1) : nextSlot kind k = some l := by
  cases kind with
  | continuous =>
    have hl : l.val = k.val + 1 := h
    have hk : k.val + 1 < 12 := hl ▸ l.isLt
    exact (dif_pos hk).trans (congrArg some (Fin.ext hl.symm))
  | watch =>
    by_cases hk : k = 3
    · subst hk
      exact congrArg some (Fin.ext h.symm)
    · rw [if_neg fun hc => hk hc.2] at h
      have hlt : k.val + 1 < 12 := h ▸ l.isLt
      exact (if_neg hk).trans ((dif_pos hlt).trans (congrArg some (Fin.ext h.symm)))

/-- R26: a bridge whose slot is reached is waited for while it is driven. -/
theorem waitAt_eq (s : State) (k : Fin 12) : waitAt s k =
    if k = 5 ∧ s.trc.applied.front ≠ 0 then some .front
    else if k = 6 ∧ s.trc.applied.rear ≠ 0 then some .rear
    else if k = 7 ∧ s.wch.applied ≠ 0 then some .winch else none := by
  have hslot : slotBridge k = if k = 5 then some .front else if k = 6 then some .rear
      else if k = 7 then some .winch else none := by
    revert k
    decide
  unfold waitAt
  rw [hslot]
  by_cases h5 : k = 5
  · subst h5
    by_cases hd : s.trc.applied.front = 0 <;> simp [State.duty, hd]
  · by_cases h6 : k = 6
    · subst h6
      by_cases hd : s.trc.applied.rear = 0 <;> simp [State.duty, hd]
    · by_cases h7 : k = 7
      · subst h7
        by_cases hd : s.wch.applied = 0 <;> simp [State.duty, hd]
      · simp [h5, h6, h7]

/-- Settles O24. -/
theorem conversionsWalkTheScanList : Obligations.ConversionsWalkTheScanList := by
  refine ⟨fun code s => ⟨fun hidle => ?_, fun c hscan hwait k hk => ?_⟩, fun b s =>
    ⟨fun hb => congrArg Host.Outcome.next (if_pos hb), fun hb => congrArg Host.Outcome.next (if_neg hb),
      fun hstopped => congrArg Host.Outcome.next ?_, fun hruns hscan => congrArg Host.Outcome.next ?_,
      fun hruns hscan => congrArg Host.Outcome.next ?_⟩⟩
  · refine congrArg Host.Outcome.next ?_
    unfold conversionEnd
    split
    · rename_i c hscan hwait
      obtain h | h := hidle
      · rw [h] at hscan
        contradiction
      · contradiction
    · rfl
  · refine congrArg Host.Outcome.next ?_
    simp only [conversionEnd, hscan, hwait, nextSlot_eq_some hk, ← waitAt_eq]
    rfl
  · simp only [watchExpiry, hstopped]
  · obtain ⟨n, hn⟩ := Option.isSome_iff_exists.mp hruns
    obtain ⟨c, hc⟩ := Option.isSome_iff_exists.mp hscan
    simp [watchExpiry, hn, hc, State.modScn]
  · obtain ⟨n, hn⟩ := Option.isSome_iff_exists.mp hruns
    simp [watchExpiry, hn, hscan, startScan, Scan.begin, State.modScn]

end Sys2Proof.Machine

/-! The outputs formed from the state, the reset state, and the orders of the blocks (09 section 9.3.1, 07 R125,
00 section 0.4, 02 R32, 08 R146, 09 R167). -/

namespace Sys2Proof.Machine

/-! ## ATTN and PENDING (09 R164) -/

theorem pendingCount_ne_zero_iff (s : State) :
    s.pendingCount ≠ 0 ↔ s.nq ≠ [] ∨ ∃ u, (s.unit u).stacked.isSome = true := by
  have hstacked : (allUnits.countP fun u => (s.unit u).stacked.isSome) ≠ 0 ↔
      ∃ u, (s.unit u).stacked.isSome = true := by
    rw [← Nat.pos_iff_ne_zero, List.countP_pos_iff]
    exact ⟨fun ⟨u, _, hu⟩ => ⟨u, hu⟩, fun ⟨u, hu⟩ => ⟨u, mem_allUnits u, hu⟩⟩
  have hqueue : s.nq.length ≠ 0 ↔ s.nq ≠ [] := not_congr List.length_eq_zero_iff
  rw [← hstacked, ← hqueue, State.pendingCount]
  omega

theorem attn_iff (s : State) : s.attn = true ↔ s.pendingCount ≠ 0 := by
  rw [State.attn, decide_eq_true_eq, Nat.pos_iff_ne_zero]

/-- The six non-unit kinds. -/
def noticeKinds : List NoticeKind := [.opstate, .trip, .failsafe, .stage, .watch, .line]

theorem mem_noticeKinds (k : NoticeKind) : k ∈ noticeKinds := by cases k <;> decide

/-- R160: a list holds its non-unit notices and the endings of the eleven units. -/
theorem length_notices (q : List Notice) :
    q.length = (q.filterMap Notice.kind).length + (allUnits.map fun u => endings u q).sum := by
  have hone (n : Notice) : 1 = n.kind.toList.length + (allUnits.map fun u => endings u [n]).sum := by
    cases n with
    | unitEnded e =>
      have hunit : ∀ v : UnitNo, (allUnits.map fun u => if v = u then 1 else 0).sum = 1 := by decide
      simp only [endings_unitEnded]
      exact (hunit e.unit).symm.trans (Nat.zero_add _).symm
    | _ => rfl
  induction q with
  | nil => rfl
  | cons n q ih =>
    have hsplit : (allUnits.map fun u => endings u (n :: q)).sum =
        (allUnits.map fun u => endings u [n]).sum + (allUnits.map fun u => endings u q).sum := by
      rw [← List.sum_map_add]
      exact congrArg List.sum (List.map_congr_left fun u _ => endings_append (q := [n]) ..)
    have hkinds : ((n :: q).filterMap Notice.kind).length = n.kind.toList.length + (q.filterMap Notice.kind).length := by
      cases h : n.kind with
      | none => simp [h]
      | some k => simp [h, Nat.add_comm]
    rw [List.length_cons, hsplit, hkinds]
    have := hone n
    omega

theorem countP_eq_sum_toNat {α : Type} (p : α → Bool) (l : List α) : l.countP p = (l.map fun a => (p a).toNat).sum := by
  induction l with
  | nil => rfl
  | cons a l ih => cases h : p a <;> simp [h, ih, Nat.add_comm]

/-- R164: at most six non-unit notices and a status for each of the eleven units. -/
theorem pendingCount_le {s : State} (hq : QueueOk s.nq) (hu : UnitsOk s) : s.pendingCount ≤ 17 := by
  obtain ⟨-, hkinds⟩ := hq
  have hnotices : (s.nq.filterMap Notice.kind).length ≤ 6 :=
    (hkinds.subperm fun k _ => mem_noticeKinds k).length_le
  have hstatuses : (allUnits.map fun u => statuses s u).sum ≤ 11 :=
    calc (allUnits.map fun u => statuses s u).sum
      _ ≤ (allUnits.map fun _ => 1).sum := List.sum_le_sum fun u _ => (hu.outstanding u).1
      _ = 11 := rfl
  have hsplit : (allUnits.map fun u => statuses s u).sum = (allUnits.map fun u => endings u s.nq).sum +
      allUnits.countP fun u => (s.unit u).stacked.isSome := by
    rw [countP_eq_sum_toNat, ← List.sum_map_add]
    rfl
  have hlength := length_notices s.nq
  rw [State.pendingCount]
  omega

/-- Settles O54. -/
theorem outputsFollowState : Obligations.OutputsFollowState := by
  intro s
  refine ⟨(attn_iff s).trans (pendingCount_ne_zero_iff s), attn_iff s, pendingCount_le, fun hv hop => ?_, fun hv hop => ?_⟩
  · exact if_pos (hv.winchOpen.mpr hop)
  · have hclosed : s.trc.winchOpen = false := Bool.eq_false_iff.mpr fun h => hop (hv.winchOpen.mp h)
    refine ⟨fun hst => ?_, fun hst => ?_, fun hst hduty => ?_, fun h hst hduty hstep => ⟨fun ha => ?_, fun ha => ?_⟩⟩
    · rcases hst with hst | hst <;> simp [State.winchBridge, hclosed, hst]
    · rcases hst with hst | hst <;> simp [State.winchBridge, hclosed, hst]
    · simp [State.winchBridge, hclosed, hst, hduty]
    · rcases ha with ha | ha <;> simp [State.winchBridge, hclosed, hst, hduty, hstep, drivenBridge, ha, Action.drives]
    · simp [State.winchBridge, hclosed, hst, hduty, hstep, drivenBridge, ha, Action.drives]

/-! ## The reset state (00 section 0.4) -/

theorem storeOk_reset : StoreOk State.reset := fun slot => by
  have hempty : State.reset.pgc.store[slot] = .empty := by simp [State.reset, Pgc.atReset]
  rw [hempty]
  trivial

/-- Settles O60, from what each invariant's family says of a reset. -/
theorem resetMeetsInvariants : Obligations.ResetMeetsInvariants := by
  have htied : VehicleTied State.reset := vehicleTied_resetTo (s := State.reset) ..
  have hvehicle := (vehicle_iff State.reset).mpr ⟨htied, fun _ => rfl⟩
  obtain ⟨hv, haxle, htraction, hscan⟩ := hvehicle
  refine ⟨⟨by decide, by decide⟩, hv, haxle, htraction, hscan, (capsOk_iff _).mpr (capsWith_resetTo trivial _ _ _ _ _ State.reset),
    grantsOk_atReset _, (overlaysRight_iff _).mp (overlaysRight_resetTo _ _ _ _ _ State.reset), settingsOk_default,
    (steerOk_iff _).mpr ⟨settingsOk_default, stcOk_atReset settingsOk_default⟩, Nat.zero_le _, fun i j _ hfn => ?_,
    storeOk_reset, unitsOk_resetTo _ _ _ _ _ State.reset⟩
  have hoff : ∀ i : Fin 4, (State.reset.lmx.lines[i]).fn = .off := by decide
  rw [hoff] at hfn
  simp at hfn

/-! ## The orders of the blocks (02 R32, 08 R146, 09 R167) -/

/-- A fold none of whose elements moves the state. -/
theorem foldl_still {α : Type} {f : State → α → State} {l : List α} {q : State} (h : ∀ k ∈ l, f q k = q) :
    l.foldl f q = q := by
  induction l with
  | nil => rfl
  | cons a l ih =>
    rw [List.foldl_cons, h a List.mem_cons_self]
    exact ih fun k hk => h k (List.mem_cons_of_mem a hk)

/-- A fold over a list without repetition of which one element alone moves the state. -/
theorem foldl_only {α : Type} {f : State → α → State} {i : α} {l : List α} (hl : l.Nodup) (hi : i ∈ l)
    (hf : ∀ q k, k ≠ i → f q k = q) (q : State) : l.foldl f q = f q i := by
  induction l generalizing q with
  | nil => contradiction
  | cons a l ih =>
    obtain ⟨ha, hl⟩ := List.nodup_cons.mp hl
    rw [List.foldl_cons]
    by_cases h : a = i
    · subst h
      exact foldl_still fun k hk => hf _ k fun heq => ha (heq ▸ hk)
    · rw [hf q a h]
      exact ih hl ((List.mem_cons.mp hi).resolve_left fun heq => h heq.symm) q

/-- R167: an input line accepts a level that it has seen twice and did not hold. -/
theorem Line.accepts_iff (l : Line) (level : Level) (hin : l.fn.sampled = true) :
    l.accepts level = true ↔ l.sample = some level ∧ level ≠ l.accepted := by simp [Line.accepts, hin]

theorem Line.not_accepts {l : Line} {level : Level} (h : ¬ (l.sample = some level ∧ level ≠ l.accepted)) :
    l.accepts level = false := by
  rw [Bool.eq_false_iff]
  intro ha
  rw [Line.accepts, Bool.and_eq_true, Bool.and_eq_true, decide_eq_true_eq, decide_eq_true_eq] at ha
  exact h ⟨ha.1.2, ha.2⟩

/-- R167: a kind without an accepted change. -/
theorem handOut_none {s q : State} {pins : PinLevels} {fn : LineFn}
    (h : ∀ k : Fin 4, (s.lmx.lines[k]).fn = fn → (s.lmx.lines[k]).accepts (pinLevel pins k) = false) :
    handOut s pins fn q = q :=
  foldl_still fun k _ => if_neg fun ⟨hfn, ha⟩ => Bool.false_ne_true ((h k hfn).symm.trans ha)

/-- R167: a kind that one line has, which accepts a change. -/
theorem handOut_one {s q : State} {pins : PinLevels} {fn : LineFn} {i : Fin 4} (hi : (s.lmx.lines[i]).fn = fn)
    (hone : ∀ k, k ≠ i → (s.lmx.lines[k]).fn ≠ fn) (ha : (s.lmx.lines[i]).accepts (pinLevel pins i) = true) :
    handOut s pins fn q = handChange fn (pinLevel pins i) i q :=
  (foldl_only (by decide) (mem_allLines i) (fun _ k hk => if_neg fun h => hone k hk h.1) q).trans (if_pos ⟨hi, ha⟩)

/-- R32: the end of slot 12 completes the scan. -/
theorem conversionEnd_last {code : Code} {c : Scan} {s : State} (hscan : s.scn.scan = some c) (hwait : s.scn.wait = none)
    (hslot : c.slot = 11) : conversionEnd code s = completeScan { c with codes := c.codes.set 11 (some code) } s := by
  have hnext : nextSlot c.kind c.slot = none := by
    rw [hslot]
    cases c.kind <;> rfl
  obtain ⟨kind, slot, codes⟩ := c
  subst hslot
  simp only [conversionEnd, hscan, hwait, hnext]
  rfl

/-- Settles O26. -/
theorem blocksActInSomeOrder : Obligations.BlocksActInSomeOrder := by
  refine ⟨fun last c s hscan hwait hslot => ⟨Config.order s.choice,
      congrArg Host.Outcome.next (conversionEnd_last hscan hwait hslot)⟩,
    fun s => rfl, fun pins s => ⟨Config.order s.choice, Config.order (s.choice + 1), rfl⟩, fun o pins s q => ?_⟩
  refine ⟨rfl, fun fn hnone => handOut_none fun k hk => Line.not_accepts (hnone k hk), fun i hi hone ha => ?_,
    fun i hi hone ha => ?_⟩
  · rw [handOut_one hi hone ((Line.accepts_iff _ _ (by rw [hi]; rfl)).mpr ha)]
    cases pinLevel pins i <;> rfl
  · exact handOut_one hi hone ((Line.accepts_iff _ _ (by rw [hi]; rfl)).mpr ha)

end Sys2Proof.Machine

/-! Step records, STORE_STEPS and the validation walk (06 sections 6.2 and 6.4, 11 section 11.3.1). -/

namespace Sys2Proof.Machine

/-! ## Records as sent (06 R104 to R106) -/

theorem linkOf_eq_sent (code : Nat) (target loops : Byte) :
    linkOf code target loops = linkSent code target.toNat loops.toNat := by
  unfold linkOf linkSent
  split
  · rfl
  · rfl
  · split
    · rename_i h
      rw [if_neg (by decide), if_neg (by decide), if_pos ⟨rfl, h⟩]
      exact congrArg (fun t => some (Link.goto t loops.toNat)) (Fin.ext (Nat.mod_eq_of_lt h).symm)
    · rename_i h
      rw [if_neg (by decide), if_neg (by decide), if_neg fun hc => h hc.2]
  · rename_i h0 h1 h2
    rw [if_neg h0, if_neg h1, if_neg fun hc => h2 hc.1]

theorem actionOf_eq_sent (code : Nat) : actionOf code = actionSent code := by
  by_cases h : code < 5
  · interval_cases code <;> rfl
  · have hsent : actionSent code = none := List.getElem?_eq_none (Nat.le_of_not_lt h)
    rw [hsent]
    unfold actionOf
    split <;> simp at h ⊢

theorem endOnOf_eq_sent {code amount : Nat} (h : amount ≤ 65535) : endOnOf code amount = endOnSent code amount := by
  unfold endOnOf endOnSent
  split
  · simp only [clampNat, if_true, Nat.min_comm]
  · simp only [clampNat, Nat.min_eq_right h]
    rfl
  · simp only [clampNat, Nat.min_comm]
    rfl
  · rfl
  · rename_i h0 h1 h2 h3
    rw [if_neg h0, if_neg h1, if_neg h2, if_neg h3]

theorem read16_eq (lo hi : Byte) : read16 lo hi = lo.toNat + 256 * hi.toNat := by
  unfold read16
  omega

theorem read16_le (lo hi : Byte) : read16 lo hi ≤ 65535 := by
  have := lo.isLt
  have := hi.isLt
  rw [read16_eq]
  omega

theorem clampNat_zero (hi x : Nat) : clampNat 0 hi x = min hi x := Nat.zero_max _

/-- R104 to R106: eight bytes spell the record that STORE_STEPS takes them for. -/
theorem recordOf_eq_sent (b0 b1 b2 b3 b4 b5 b6 b7 : Byte) (b : Nat → Nat) (h0 : b 0 = b0.toNat) (h1 : b 1 = b1.toNat)
    (h2 : b 2 = b2.toNat) (h3 : b 3 = b3.toNat) (h4 : b 4 = b4.toNat) (h5 : b 5 = b5.toNat) (h6 : b 6 = b6.toNat)
    (h7 : b 7 = b7.toNat) : recordOf b0 b1 b2 b3 b4 b5 b6 b7 = recordSent b := by
  have hend (code : Nat) := endOnOf_eq_sent (code := code) (read16_le b6 b7)
  unfold recordOf recordSent
  simp only [h0, h1, h2, h3, h4, h5, h6, h7, ← read16_eq, ← linkOf_eq_sent, ← actionOf_eq_sent, ← hend, clampNat_zero]
  split
  · simp [*]
  · rename_i hkind
    rw [hkind]
    cases linkOf (b0.toNat / 16) b1 b2 <;> rfl
  · rename_i hkind
    rw [hkind]
    cases linkOf (b0.toNat / 16) b1 b2 <;> cases actionOf (b3.toNat % 16) <;>
      cases endOnOf (b3.toNat / 16) (read16 b6 b7) <;> rfl
  · rename_i n0 n1 n2
    rw [if_neg n0, if_neg n1, if_neg n2]

/-- R105: a payload of whole records. -/
theorem recordsOf_spec (rest : List Byte) : ∀ n, rest.length = 8 * n → (recordsOf rest).length = n ∧
    ∀ i, i < n → (recordsOf rest)[i]? = some (recordSent fun k => (rest.getD (8 * i + k) 0).toNat) := by
  induction rest using recordsOf.induct with
  | case1 b0 b1 b2 b3 b4 b5 b6 b7 rest ih =>
    intro n hn
    obtain ⟨m, rfl⟩ : ∃ m, n = m + 1 := ⟨n - 1, by simp at hn; omega⟩
    obtain ⟨hlength, hget⟩ := ih m (by simp at hn; omega)
    rw [recordsOf]
    refine ⟨by simp [hlength], fun i hi => ?_⟩
    cases i with
    | zero => exact congrArg some (recordOf_eq_sent _ _ _ _ _ _ _ _ _ rfl rfl rfl rfl rfl rfl rfl rfl)
    | succ i =>
      rw [List.getElem?_cons_succ, hget i (by omega)]
      refine congrArg some (congrArg recordSent (funext fun k => ?_))
      rw [show 8 * (i + 1) + k = 8 * i + k + 8 by omega]
      rfl
  | case2 l hl =>
    intro n hn
    match l, hl with
    | [], _ =>
      obtain rfl : n = 0 := by simp at hn; omega
      exact ⟨rfl, fun i hi => absurd hi (Nat.not_lt_zero i)⟩
    | [_], _ | [_, _], _ | [_, _, _], _ | [_, _, _, _], _ | [_, _, _, _, _], _ | [_, _, _, _, _, _], _ | [_, _, _, _, _, _, _], _ =>
      simp at hn
      omega
    | b0 :: b1 :: b2 :: b3 :: b4 :: b5 :: b6 :: b7 :: rest, hl => exact absurd rfl (hl b0 b1 b2 b3 b4 b5 b6 b7 rest)

/-! ## Records read back (11 section 11.3.1) -/

theorem toNat_byte {n : Nat} (h : n < 256) : (BitVec.ofNat 8 n).toNat = n := by
  rw [BitVec.toNat_ofNat]
  exact Nat.mod_eq_of_lt h

theorem read16_u16 {n : Nat} (h : n < 65536) : read16 (BitVec.ofNat 8 n) (BitVec.ofNat 8 (n / 256)) = n := by
  rw [read16_eq, BitVec.toNat_ofNat, BitVec.toNat_ofNat]
  omega

theorem linkOf_bytes {l : Link} (h : l.ok) :
    linkOf l.code (BitVec.ofNat 8 l.target) (BitVec.ofNat 8 l.loops) = some l := by
  cases l with
  | stop => rfl
  | next => rfl
  | goto target loops =>
    have ht : (BitVec.ofNat 8 target.val).toNat = target.val := toNat_byte (by omega)
    have hl : (BitVec.ofNat 8 loops).toNat = loops := toNat_byte (Nat.lt_succ_of_le h)
    simp [linkOf, Link.code, Link.target, Link.loops, ht, hl]

theorem Link.code_le (l : Link) : l.code ≤ 2 := by cases l <;> simp [Link.code]

theorem clampNat_of_mem {lo hi x : Nat} (hlo : lo ≤ x) (hhi : x ≤ hi) : clampNat lo hi x = x := by
  unfold clampNat
  omega

theorem endOnOf_bytes {e : EndOn} (h : e.ok) : endOnOf e.code e.amount = some e := by
  cases e with
  | distance mm => exact congrArg (fun n => some (EndOn.distance n)) (clampNat_of_mem h.1 h.2)
  | time n => exact congrArg (fun n => some (EndOn.time n)) (clampNat_of_mem h.1 h.2)
  | load mA => exact congrArg (fun n => some (EndOn.load n)) (clampNat_of_mem h.1 h.2)
  | fairlead => rfl

theorem EndOn.amount_lt {e : EndOn} (h : e.ok) : e.amount < 65536 := by
  cases e with
  | distance mm => exact lt_of_le_of_lt h.2 (by decide)
  | time n => exact lt_of_le_of_lt h.2 (by decide)
  | load mA => exact lt_of_le_of_lt h.2 (by decide)
  | fairlead => decide

theorem actionOf_code (a : Action) : actionOf a.code = some a := by cases a <;> rfl

/-- Settles O39: kind by kind, each field is read back from its bytes. -/
theorem recordsRoundTrip : Obligations.RecordsRoundTrip := by
  intro r hr
  refine ⟨StepRec.bytes_length r, ?_⟩
  cases r with
  | empty => rfl
  | light r =>
    obtain ⟨hlevel, hfade, hhold, hlink⟩ := hr
    refine congrArg (fun x => [x]) ?_
    have hcode := r.link.code_le
    have hb0 : (BitVec.ofNat 8 (1 + 16 * r.link.code)).toNat = 1 + 16 * r.link.code := toNat_byte (by omega)
    have hb3 : (BitVec.ofNat 8 r.level).toNat = r.level := toNat_byte (by omega)
    have hkind : (1 + 16 * r.link.code) % 16 = 1 := by omega
    have hdiv : (1 + 16 * r.link.code) / 16 = r.link.code := by omega
    rw [recordOf]
    simp only [hb0, hkind, hdiv, linkOf_bytes hlink, hb3, read16_u16 (show r.fade < 65536 by omega),
      read16_u16 (show r.hold < 65536 by omega), clampNat_of_mem (Nat.zero_le _) hfade,
      clampNat_of_mem (Nat.zero_le _) hhold]
  | winch r =>
    obtain ⟨hspeed, hend, hlink⟩ := hr
    refine congrArg (fun x => [x]) ?_
    have hcode := r.link.code_le
    have haction : r.action.code ≤ 4 := by cases r.action <;> decide
    have hendon : r.endOn.code ≤ 3 := by cases r.endOn <;> simp [EndOn.code]
    have hb0 : (BitVec.ofNat 8 (2 + 16 * r.link.code)).toNat = 2 + 16 * r.link.code := toNat_byte (by omega)
    have hb3 : (BitVec.ofNat 8 (r.action.code + 16 * r.endOn.code)).toNat = r.action.code + 16 * r.endOn.code :=
      toNat_byte (by omega)
    have hkind : (2 + 16 * r.link.code) % 16 = 2 := by omega
    have hdiv : (2 + 16 * r.link.code) / 16 = r.link.code := by omega
    have hlow : (r.action.code + 16 * r.endOn.code) % 16 = r.action.code := by omega
    have hhigh : (r.action.code + 16 * r.endOn.code) / 16 = r.endOn.code := by omega
    rw [recordOf]
    simp only [hb0, hkind, hdiv, linkOf_bytes hlink, hb3, hlow, hhigh, read16_u16 (show r.speed < 65536 by omega),
      read16_u16 (EndOn.amount_lt hend), clampNat_of_mem (Nat.zero_le _) hspeed, actionOf_code, endOnOf_bytes hend]

/-! ## STORE_STEPS (06 R105, R106) -/

theorem useOf_slot (s : State) (slot : Slot) : s.useOf slot.val = s.pgc.useCount[slot] := by simp [State.useOf]

/-- R105, order 4: the lowest slot in use of a run. -/
theorem slotInUse_eq {s : State} {first count : Nat} {slot : Slot} (hlow : first ≤ slot.val)
    (hhigh : slot.val < first + count) (huse : 0 < s.pgc.useCount[slot])
    (hbelow : ∀ low : Slot, first ≤ low.val → low < slot → s.pgc.useCount[low] = 0) :
    slotInUse s first count = some slot.val := by
  have hfind : (List.range count).find? ((fun k => decide (0 < s.useOf k)) ∘ (first + ·)) = some (slot.val - first) := by
    rw [List.find?_range_eq_some]
    refine ⟨?_, List.mem_range.mpr (by omega), fun j hj => ?_⟩
    · simp only [Function.comp, Nat.add_sub_cancel' hlow, useOf_slot]
      exact decide_eq_true huse
    · have hlt : first + j < slot.val := by omega
      have hzero := hbelow ⟨first + j, by omega⟩ (Nat.le_add_right ..) hlt
      rw [← useOf_slot] at hzero
      simp [hzero]
  rw [slotInUse, List.find?_map, hfind]
  exact congrArg some (Nat.add_sub_cancel' hlow)

theorem slotInUse_none_of_unused {s : State} {first count : Nat} (hrun : first + count ≤ 128)
    (h : ∀ slot : Slot, first ≤ slot.val → slot.val < first + count → s.pgc.useCount[slot] = 0) :
    slotInUse s first count = none := by
  rw [slotInUse, List.find?_eq_none]
  intro k hk
  obtain ⟨i, hi, rfl⟩ := List.mem_map.mp hk
  have hi := List.mem_range.mp hi
  have hzero := h ⟨first + i, by omega⟩ (Nat.le_add_right ..) (Nat.add_lt_add_left hi _)
  rw [← useOf_slot] at hzero
  simp [hzero]

/-- R105, order 3: the first record that is refused. -/
theorem findIdx_isNone {records : List (Option StepRec)} {i : Nat} (hi : records[i]? = some none)
    (hbefore : ∀ j < i, records[j]? ≠ some none) : records.findIdx? Option.isNone = some i := by
  obtain ⟨hlt, hnone⟩ := List.getElem?_eq_some_iff.mp hi
  rw [List.findIdx?_eq_some_iff_getElem]
  refine ⟨hlt, by rw [hnone]; rfl, fun j hj hbad => hbefore j hj ?_⟩
  rw [List.getElem?_eq_getElem (hj.trans hlt)]
  exact congrArg some (Option.isNone_iff_eq_none.mp hbad)

theorem findIdx_isNone_none {records : List (Option StepRec)} (h : none ∉ records) :
    records.findIdx? Option.isNone = none := by
  rw [List.findIdx?_eq_none_iff]
  intro r hr
  cases r with
  | none => contradiction
  | some r => rfl

/-- The records that none of the refusals concerns are all there. -/
theorem map_some_filterMap {records : List (Option StepRec)} (h : none ∉ records) :
    (records.filterMap id).map some = records := by
  induction records with
  | nil => rfl
  | cons r records ih =>
    have hrest : none ∉ records := fun hr => h (List.mem_cons_of_mem r hr)
    cases r with
    | none => exact absurd List.mem_cons_self h
    | some r => exact congrArg (some r :: ·) (ih hrest)

/-- R105: a run of whole records within the store. -/
theorem onStoreSteps_run {s : State} {first count : Byte} {rest : List Byte} (hone : 1 ≤ count.toNat)
    (hsix : count.toNat ≤ 6) (hrest : rest.length = 8 * count.toNat) (hrun : first.toNat + count.toNat ≤ 128) :
    onStoreSteps s (first :: count :: rest) = storeRecords s first.toNat (recordsOf rest) :=
  (if_pos ⟨hone, hsix, hrest⟩).trans (if_neg (Nat.not_lt.mpr hrun))

/-- R105: the outcomes of a run that lies within the store. -/
theorem storeRecords_cases (s : State) (first : Nat) (records : List (Option StepRec)) :
    (∀ i, records.findIdx? Option.isNone = some i →
      storeRecords s first records = (s, refusedWith .badValue (u8 (first + i)))) ∧
    (records.findIdx? Option.isNone = none → ∀ slot : Slot, slotInUse s first records.length = some slot.val →
      storeRecords s first records = (s, refusedWith .inUse (u8 slot.val ++ u8 s.pgc.useCount[slot]))) ∧
    (records.findIdx? Option.isNone = none → slotInUse s first records.length = none →
      storeRecords s first records = (writeSteps first (records.filterMap id) s,
        doneWith .none (u8 first ++ u8 (records.filterMap id).length ++
          (records.filterMap id).flatMap StepRec.bytes))) := by
  refine ⟨fun i h => ?_, fun h slot hslot => ?_, fun h hslot => ?_⟩
  · simp only [storeRecords, h]
  · simp only [storeRecords, h, hslot, useOf_slot]
  · simp only [storeRecords, h, hslot]

/-- R106: the store alone changes, at the slots of the run. -/
theorem writeSteps_eq (first : Nat) (records : List StepRec) (s : State) : ∃ store : Vector StepRec 128,
    writeSteps first records s = { s with pgc := { s.pgc with store := store } } ∧
    ∀ slot : Slot, store[slot] = if first ≤ slot.val ∧ slot.val < first + records.length
      then records.getD (slot.val - first) .empty else s.pgc.store[slot] :=
  ⟨_, rfl, writeSteps_store first records s⟩

/-- Settles O38. -/
theorem storeStepsWrites : Obligations.StoreStepsWrites := by
  intro tag first count rest s hfree hone hsix hrest p n records refused
  obtain ⟨hlength, hget⟩ := recordsOf_spec rest count.toNat hrest
  have hrefused (r : Reason) (fields : List Byte) (h : onStoreSteps (s.modLnk (lnkOf ⟨0x20, tag, p⟩)) p =
      (s.modLnk (lnkOf ⟨0x20, tag, p⟩), refusedWith r fields)) : refused r fields :=
    congrArg Host.Outcome.next (frameArrives_unchanged .storeSteps tag p s _ hfree h)
  obtain ⟨hbad, hused, hstored⟩ := storeRecords_cases (s.modLnk (lnkOf ⟨0x20, tag, p⟩)) first.toNat records
  rw [show records.length = n from hlength] at hused hstored
  refine ⟨hlength, hget, fun hbeyond => ?_, fun hrun i hi hnone hbefore => ?_, fun hrun hall slot hlow hhigh huse hbelow => ?_,
    fun hrun hall hunused => ?_⟩
  · exact hrefused _ _ ((if_pos ⟨hone, hsix, hrest⟩).trans (if_pos hbeyond))
  · exact hrefused _ _ ((onStoreSteps_run hone hsix hrest hrun).trans (hbad i (findIdx_isNone hnone hbefore)))
  · exact hrefused _ _ ((onStoreSteps_run hone hsix hrest hrun).trans
      (hused (findIdx_isNone_none hall) slot (slotInUse_eq hlow hhigh huse hbelow)))
  · have hsteps := map_some_filterMap hall
    have hcount : (records.filterMap id).length = n := calc
      (records.filterMap id).length = ((records.filterMap id).map some).length := (List.length_map _).symm
      _ = records.length := congrArg List.length hsteps
      _ = n := hlength
    have hdoes := (onStoreSteps_run (s := s.modLnk (lnkOf ⟨0x20, tag, p⟩)) hone hsix hrest hrun).trans
      (hstored (findIdx_isNone_none hall) (slotInUse_none_of_unused hrun hunused))
    obtain ⟨store, hwrite, hstore⟩ := writeSteps_eq first.toNat (records.filterMap id) (s.modLnk (lnkOf ⟨0x20, tag, p⟩))
    rw [hwrite, hcount, u8_toNat, u8_toNat] at hdoes
    rw [hcount] at hstore
    refine ⟨_, congrArg Host.Outcome.next (frameArrives_replied .storeSteps tag p s hfree hdoes),
      answeredBy_replied .., fun slot hout => ?_, fun i hi slot hslot => ?_, rfl⟩
    · exact (hstore slot).trans (if_neg (by omega))
    · have hstored : store[slot] = (records.filterMap id).getD i .empty := by
        rw [hstore, if_pos (by omega), hslot, Nat.add_sub_cancel_left]
      have hrecord : records[i]? = some (some ((records.filterMap id).getD i .empty)) := by
        conv_lhs => rw [← hsteps]
        rw [List.getElem?_map, List.getElem?_eq_getElem (by rw [hcount]; exact hi),
          List.getD_eq_getElem _ _ (by rw [hcount]; exact hi)]
        rfl
      exact hrecord.trans (congrArg (fun r => some (some r)) hstored.symm)

end Sys2Proof.Machine

/-! The validation walk (06 section 6.4): it goes up from the first slot for as long as the slots pass the checks of
`walkFault` and go on with NEXT. -/

namespace Sys2Proof.Machine

/-! ## Runs of slots -/

/-- The n slots from `first` upward. -/
def slotRun (first : Slot) (n : Nat) : List Slot := (List.range n).map fun i => Fin.ofNat 128 (first.val + i)

theorem ofNat_eq_slot {n : Nat} {slot : Slot} (h : n = slot.val) : Fin.ofNat 128 n = slot := by
  subst h
  exact Fin.ext (Nat.mod_eq_of_lt slot.isLt)

theorem slotRun_succ {first slot : Slot} {n : Nat} (h : first.val + n = slot.val) :
    slotRun first (n + 1) = slotRun first n ++ [slot] := by
  rw [slotRun, slotRun, List.range_succ, List.map_append]
  exact congrArg (_ ++ [·]) (ofNat_eq_slot h)

theorem length_slotRun (first : Slot) (n : Nat) : (slotRun first n).length = n := by simp [slotRun]

theorem val_of_slotRun {first slot : Slot} {n i : Nat} (hn : first.val + n ≤ 128) (h : (slotRun first n)[i]? = some slot) :
    slot.val = first.val + i ∧ i < n := by
  obtain ⟨hi, hslot⟩ := List.getElem?_eq_some_iff.mp h
  rw [length_slotRun] at hi
  refine ⟨?_, hi⟩
  rw [← hslot]
  simp only [slotRun, List.getElem_map, List.getElem_range]
  exact Nat.mod_eq_of_lt (by omega)

theorem mem_slotRun {first t : Slot} {n : Nat} (hn : first.val + n ≤ 128) :
    t ∈ slotRun first n ↔ first ≤ t ∧ t.val < first.val + n := by
  constructor
  · intro h
    obtain ⟨i, hi⟩ := List.mem_iff_getElem?.mp h
    obtain ⟨hval, hlt⟩ := val_of_slotRun hn hi
    exact ⟨Fin.le_def.mpr (by omega), by omega⟩
  · rintro ⟨hlow, hhigh⟩
    have hlow := Fin.le_def.mp hlow
    exact List.mem_map.mpr ⟨t.val - first.val, List.mem_range.mpr (by omega), ofNat_eq_slot (by omega)⟩

/-! ## The checks of a slot (06 R110, R111) -/

theorem pairAllowed_iff (a : Action) (e : EndOn) : pairAllowed a e = true ↔ (a, e.code) ∈ winchPairs := by
  cases a <;> cases e <;> simp [pairAllowed, winchPairs, EndOn.code]

theorem winchStepFails_eq (s : State) (r : WinchRec) : winchStepFails s r = winchFault s r := by
  have hdistance : r.endOn.isDistance = true ↔ r.endOn.code = 0 := by cases r.endOn <;> simp [EndOn.isDistance, EndOn.code]
  have hfairlead : r.endOn = .fairlead ↔ r.endOn.code = 3 := by cases r.endOn <;> simp [EndOn.code]
  unfold winchStepFails winchFault
  simp only [← pairAllowed_iff, ← hdistance, ← hfairlead, Bool.and_eq_true, Bool.not_eq_true', decide_eq_true_eq,
    Bool.not_eq_true]

/-- R109: how many slots the walk of a unit may pass. -/
def walkMax (u : UnitNo) : Nat := if u = 0 then 16 else 32

theorem walk_eq (s : State) (u : UnitNo) (first : Slot) :
    walk s u first = walkFrom s (decide (u = 0)) (walkMax u) first (slotRun first 0) := by
  unfold walk walkMax
  by_cases h : u = 0
  · simp only [h, if_true, decide_true]
    rfl
  · simp only [h, if_false, decide_false]
    rfl

/-- R109: what the walk does at a slot that passes its checks. -/
def walkGoesOn (s : State) (u : UnitNo) (left : Nat) (slot : Slot) (seen : List Slot) : Walk :=
  if (s.pgc.store[slot]).link = .next then
    if h : slot.val + 1 < 128 then walkFrom s (decide (u = 0)) left ⟨slot.val + 1, h⟩ seen else .failed slot .runsOffEnd
  else .passed seen

/-- R109, R118: following a link that is no GOTO, or a GOTO to a slot already walked. -/
theorem followWalk_goesOn {s : State} {u : UnitNo} {slot : Slot} {seen : List Slot} {link : Link} {left : Nat}
    (hlink : (s.pgc.store[slot]).link = link) (hgoto : ∀ t loops, link = .goto t loops → t ∈ seen) :
    followWalk slot seen link (walkFrom s (decide (u = 0)) left) = walkGoesOn s u left slot (seen ++ [slot]) := by
  unfold walkGoesOn
  rw [hlink]
  cases link with
  | stop => rfl
  | next => rfl
  | goto t loops => exact if_pos (List.contains_iff_mem.mpr (hgoto t loops rfl))

/-- R109, R110: the walk at its n-th slot. -/
theorem walkFrom_step {s : State} {u : UnitNo} {first slot : Slot} {n : Nat} (h : first.val + n = slot.val) :
    walkFrom s (decide (u = 0)) (walkMax u - n) slot (slotRun first n) =
      match walkFault s u first slot with
      | some d => .failed slot d
      | none => walkGoesOn s u (walkMax u - (n + 1)) slot (slotRun first (n + 1)) := by
  have hrun : first.val + n ≤ 128 := by omega
  have hn : slot.val - first.val = n := by omega
  rw [slotRun_succ h]
  unfold walkFault
  rw [show (if u = 0 then 16 else 32) = walkMax u from rfl, hn]
  by_cases hlong : walkMax u ≤ n
  · rw [if_pos hlong, Nat.sub_eq_zero_of_le hlong]
    rfl
  · obtain ⟨left, hleft⟩ : ∃ left, walkMax u - n = left + 1 := ⟨walkMax u - n - 1, by omega⟩
    rw [if_neg hlong, hleft, show walkMax u - (n + 1) = left by omega, walkFrom]
    cases hstep : s.pgc.store[slot] with
    | empty => rfl
    | light r =>
      by_cases hu : u = 0
      · simp [hu]
      · have hlink : (s.pgc.store[slot]).link = r.link := by rw [hstep]; rfl
        dsimp only
        rw [if_neg hu, if_neg (mt of_decide_eq_true hu)]
        cases hl : r.link with
        | stop => exact followWalk_goesOn (u := u) (hlink.trans hl) nofun
        | next => exact followWalk_goesOn (u := u) (hlink.trans hl) nofun
        | goto t loops =>
          have hmem := mem_slotRun (t := t) hrun
          rw [h] at hmem
          dsimp only
          by_cases ht : first ≤ t ∧ t < slot
          · rw [if_pos ht]
            exact followWalk_goesOn (u := u) (hlink.trans hl) fun t' _ heq => by
              cases heq
              exact hmem.mpr ht
          · rw [if_neg ht]
            exact if_neg fun hc => ht (hmem.mp (List.contains_iff_mem.mp hc))
    | winch r =>
      by_cases hu : u = 0
      · have hlink : (s.pgc.store[slot]).link = r.link := by rw [hstep]; rfl
        simp only [hu, decide_true, Bool.not_true, Bool.false_eq_true, if_false, ne_eq, not_true_eq_false,
          winchStepFails_eq]
        cases hl : r.link with
        | goto t loops => rfl
        | stop =>
          cases winchFault s r with
          | some d => rfl
          | none => exact followWalk_goesOn (u := 0) (hlink.trans hl) nofun
        | next =>
          cases winchFault s r with
          | some d => rfl
          | none => exact followWalk_goesOn (u := 0) (hlink.trans hl) nofun
      · simp [hu]

/-! ## Reaching a slot (06 R109) -/

/-- A slot passes its checks and goes on to the slot above. -/
def GoesOn (s : State) (u : UnitNo) (first slot : Slot) : Prop :=
  walkFault s u first slot = none ∧ (s.pgc.store[slot]).link = .next

/-- The walk reaches every slot below which all go on. -/
theorem walk_reaches {s : State} {u : UnitNo} {first : Slot} (n : Nat) :
    ∀ slot : Slot, first.val + n = slot.val → (∀ k : Slot, first ≤ k → k < slot → GoesOn s u first k) →
      walk s u first = walkFrom s (decide (u = 0)) (walkMax u - n) slot (slotRun first n) := by
  induction n with
  | zero =>
    intro slot h _
    obtain rfl : first = slot := Fin.ext h
    exact walk_eq s u first
  | succ n ih =>
    intro slot h hon
    have hlt : first.val + n < 128 := by omega
    have hbelow : first.val + n < slot.val := by omega
    have habove : (⟨first.val + n + 1, by omega⟩ : Slot) = slot := Fin.ext h
    obtain ⟨hgood, hnext⟩ := hon ⟨first.val + n, hlt⟩ (Fin.le_def.mpr (Nat.le_add_right ..)) (Fin.lt_def.mpr hbelow)
    rw [ih ⟨first.val + n, hlt⟩ rfl fun k hk hkn => hon k hk (Fin.lt_def.mpr ((Fin.lt_def.mp hkn).trans hbelow)),
      walkFrom_step rfl, hgood]
    refine (if_pos hnext).trans ((dif_pos (show first.val + n + 1 < 128 by omega)).trans ?_)
    rw [habove]

/-- The walk ends at the first slot that fails a check or does not go on. -/
theorem walk_ends {s : State} {u : UnitNo} {first last : Slot} (hle : first ≤ last)
    (hon : ∀ k : Slot, first ≤ k → k < last → GoesOn s u first k) :
    walk s u first = match walkFault s u first last with
      | some d => .failed last d
      | none => walkGoesOn s u (walkMax u - (last.val - first.val + 1)) last (slotRun first (last.val - first.val + 1)) := by
  have hval : first.val + (last.val - first.val) = last.val := Nat.add_sub_cancel' (Fin.le_def.mp hle)
  rw [walk_reaches _ last hval hon, walkFrom_step hval]

/-- A walk whose every slot goes on runs off the end. -/
theorem walk_runsOff {s : State} {u : UnitNo} {first : Slot} (hon : ∀ k, first ≤ k → GoesOn s u first k) :
    walk s u first = .failed 127 .runsOffEnd := by
  have hlast : first ≤ 127 := Fin.le_def.mpr (Nat.le_of_lt_succ first.isLt)
  obtain ⟨hgood, hnext⟩ := hon 127 hlast
  rw [walk_ends hlast fun k hk _ => hon k hk, hgood]
  exact (if_pos hnext).trans (dif_neg (by decide))

/-- A walk that passes ends at a slot that passes its checks and does not go on. -/
theorem walk_passed {s : State} {u : UnitNo} {first : Slot} {slots : List Slot} (h : walk s u first = .passed slots) :
    ∃ last, first ≤ last ∧ (∀ k : Slot, first ≤ k → k < last → GoesOn s u first k) ∧ walkFault s u first last = none ∧
      (s.pgc.store[last]).link ≠ .next ∧ slots = slotRun first (last.val - first.val + 1) := by
  by_cases hall : ∀ k, first ≤ k → GoesOn s u first k
  · rw [walk_runsOff hall] at h
    contradiction
  · have hsome : ∃ k, first ≤ k ∧ ¬ GoesOn s u first k := by
      simpa only [not_forall, exists_prop] using hall
    obtain ⟨last, ⟨hle, hstop⟩, hleast⟩ := WellFounded.has_min (wellFounded_lt (α := Slot))
      {k | first ≤ k ∧ ¬ GoesOn s u first k} hsome
    have hon (k : Slot) (hk : first ≤ k) (hlt : k < last) : GoesOn s u first k := by
      by_contra hno
      exact hleast k ⟨hk, hno⟩ hlt
    rw [walk_ends hle hon] at h
    cases hfault : walkFault s u first last with
    | some d => simp [hfault] at h
    | none =>
      have hlink : (s.pgc.store[last]).link ≠ .next := fun hnext => hstop ⟨hfault, hnext⟩
      rw [hfault, walkGoesOn, if_neg hlink] at h
      exact ⟨last, hle, hon, hfault, hlink, (Walk.passed.inj h).symm⟩

/-! ## What a slot that passes holds (06 R110, R111) -/

theorem walkMax_of_good {s : State} {u : UnitNo} {first slot : Slot} (h : walkFault s u first slot = none) :
    slot.val - first.val < walkMax u := by
  by_contra hlong
  have hlong := Nat.le_of_not_lt hlong
  unfold walkMax at hlong
  rw [walkFault, if_pos hlong] at h
  contradiction

/-- R111: a WINCH step that passes. -/
theorem winchFault_none {s : State} {r : WinchRec} (h : winchFault s r = none) :
    (r.action, r.endOn.code) ∈ winchPairs ∧ (r.endOn.code = 0 → s.hasLine .drumPulse = true) ∧
    (r.endOn.code = 3 → s.hasLine .fairlead = true) ∧ (r.action = .free → s.hasLine .clutchServo = true) := by
  unfold winchFault at h
  split at h
  · contradiction
  · split at h
    · contradiction
    · split at h
      · contradiction
      · split at h
        · contradiction
        · rename_i hpair hdrum hfairlead hclutch
          exact ⟨not_not.mp hpair, fun hc => Bool.of_not_eq_false fun hl => hdrum ⟨hc, hl⟩,
            fun hc => Bool.of_not_eq_false fun hl => hfairlead ⟨hc, hl⟩,
            fun hc => Bool.of_not_eq_false fun hl => hclutch ⟨hc, hl⟩⟩

/-- R110: a slot of a winch program that passes. -/
theorem good_winch {s : State} {first slot : Slot} (h : walkFault s 0 first slot = none) :
    ∃ r, s.pgc.store[slot] = .winch r ∧ winchFault s r = none ∧ ∀ t loops, r.link ≠ .goto t loops := by
  have hshort := Nat.not_le.mpr (walkMax_of_good h)
  unfold walkMax at hshort
  rw [walkFault, if_neg hshort] at h
  cases hstep : s.pgc.store[slot] with
  | empty => simp [hstep] at h
  | light r => simp [hstep] at h
  | winch r =>
    rw [hstep] at h
    refine ⟨r, rfl, ?_⟩
    cases hl : r.link with
    | goto t loops => simp [hl] at h
    | stop => exact ⟨by simpa [hl] using h, nofun⟩
    | next => exact ⟨by simpa [hl] using h, nofun⟩

/-- R110: a slot of a light program that passes. -/
theorem good_light {s : State} {u : UnitNo} {first slot : Slot} (hu : u ≠ 0) (h : walkFault s u first slot = none) :
    ∃ r, s.pgc.store[slot] = .light r ∧ ∀ t loops, r.link = .goto t loops → first ≤ t ∧ t < slot := by
  have hshort := Nat.not_le.mpr (walkMax_of_good h)
  unfold walkMax at hshort
  rw [walkFault, if_neg hshort] at h
  cases hstep : s.pgc.store[slot] with
  | empty => simp [hstep] at h
  | winch r => simp [hstep, hu] at h
  | light r =>
    rw [hstep] at h
    refine ⟨r, rfl, fun t loops hl => ?_⟩
    by_contra hno
    simp [hl, hu, hno] at h

/-- Settles O40: the walk ends at the first slot that fails a check or does not go on. -/
theorem walksDecidePrograms : Obligations.WalksDecidePrograms := by
  intro s u first
  refine ⟨fun slots hwalk => ?_, fun last hle hon hgood hlink => ?_, fun bad detail hle hon hbad => ?_, fun hon => ?_⟩
  · obtain ⟨last, hle, hon, hgood, hlink, rfl⟩ := walk_passed hwalk
    have hle' := Fin.le_def.mp hle
    have hmax : last.val - first.val < walkMax u := walkMax_of_good hgood
    rw [length_slotRun]
    refine ⟨fun hempty => ?_, hmax, fun i slot hslot => ?_⟩
    · have hlength := congrArg List.length hempty
      rw [length_slotRun] at hlength
      contradiction
    · obtain ⟨hval, hi⟩ := val_of_slotRun (by omega) hslot
      have hfirst : first ≤ slot := Fin.le_def.mpr (by omega)
      have hslotGood : walkFault s u first slot = none := by
        by_cases hlt : slot < last
        · exact (hon slot hfirst hlt).1
        · obtain rfl : slot = last := Fin.ext (by rw [Fin.lt_def] at hlt; omega)
          exact hgood
      refine ⟨hval, fun hbelow => (hon slot hfirst (Fin.lt_def.mpr (by omega))).2, fun hlast => ?_, fun hu => ?_, fun hu => ?_⟩
      · obtain rfl : slot = last := Fin.ext (by omega)
        by_cases hu : u = 0
        · subst hu
          obtain ⟨r, hstep, -, hgoto⟩ := good_winch hgood
          rw [hstep] at hlink ⊢
          cases hl : r.link with
          | stop => exact .inl hl
          | next => exact absurd hl hlink
          | goto t loops => exact absurd hl (hgoto t loops)
        · obtain ⟨r, hstep, hgoto⟩ := good_light hu hgood
          rw [hstep] at hlink ⊢
          cases hl : r.link with
          | stop => exact .inl hl
          | next => exact absurd hl hlink
          | goto t loops =>
            obtain ⟨hlow, hhigh⟩ := hgoto t loops hl
            refine .inr ⟨hu, t, loops, hl, (mem_slotRun (by omega)).mpr ⟨hlow, ?_⟩, hhigh⟩
            have := Fin.lt_def.mp hhigh
            omega
      · subst hu
        obtain ⟨r, hstep, hfault, -⟩ := good_winch hslotGood
        exact ⟨r, hstep, winchFault_none hfault⟩
      · obtain ⟨r, hstep, -⟩ := good_light hu hslotGood
        exact ⟨r, hstep⟩
  · rw [walk_ends hle hon, hgood]
    exact ⟨_, if_neg hlink, length_slotRun ..⟩
  · rw [walk_ends hle hon, hbad]
  · exact walk_runsOff hon

end Sys2Proof.Machine

/-! The allocation that SUP makes at a completion (03 sections 3.5 to 3.7). -/

namespace Sys2Proof.Machine

/-! ## The classes' shares (03 R57) -/

theorem ClassShare.grant_eq (k : ClassShare) (demand : Nat) :
    k.grant demand = if k.total ≤ k.residual then demand else k.residual * demand / k.total := by
  unfold ClassShare.grant ClassShare.full
  simp only [decide_eq_true_eq]

theorem classChans_decorative (cfg : LtcCfg) :
    classChans cfg .decorative = allChans.filter fun k => !decide (cfg.chan[k].cls = .essential) := by
  refine List.filter_congr fun k _ => ?_
  cases cfg.chan[k].cls <;> rfl

/-- R57: the four classes in their order, each served from what the grants before it leave. -/
structure ClassesInOrder (cfg : LtcCfg) (a : Allocation) (k : Shares) : Prop where
  servo : k.a = ⟨a.ceiling, a.demand.servo⟩
  essential : k.b = ⟨a.ceiling - a.grant.servo, sumChans (classChans cfg .essential) fun i => a.demand.light[i]⟩
  bridges : k.c = ⟨k.b.residual - sumChans (classChans cfg .essential) fun i => a.grant.light[i], a.demand.bridge.total⟩
  decorative : k.d =
    ⟨k.c.residual - a.grant.bridge.total, sumChans (classChans cfg .decorative) fun i => a.demand.light[i]⟩
  unassigned : a.unassigned = k.d.residual - sumChans (classChans cfg .decorative) fun i => a.grant.light[i]

theorem allocate_classes (cfg : Settings) (stage : Stage) (r : ScanResults) (demand : Consumers Nat) (old : Allocation) :
    let a := allocate cfg stage r demand old
    ClassesInOrder cfg.ltc a (shareOut cfg.ltc a.ceiling demand) := by
  intro a
  have hsum (cls : LightClass) : (sumChans (classChans cfg.ltc cls) fun i => a.grant.light[i]) =
      sumChans (classChans cfg.ltc cls) fun i => ((shareOut cfg.ltc a.ceiling demand).light cls).grant demand.light[i] :=
    sumChans_grantsOf cfg.ltc (shareOut cfg.ltc a.ceiling demand) demand cls
  refine ⟨rfl, rfl, ?_, rfl, ?_⟩
  · rw [hsum]
    rfl
  · rw [hsum]
    rfl

/-- R57: a light channel is granted by its class's share. -/
theorem grantsOf_light (cfg : LtcCfg) (k : Shares) (demand : Consumers Nat) (c : Chan) :
    (grantsOf cfg k demand).light[c] =
      if cfg.chan[c].cls = .essential then k.b.grant demand.light[c] else k.d.grant demand.light[c] := by
  simp only [grantsOf, Fin.getElem_fin, Vector.getElem_ofFn]
  cases cfg.chan[c.val].cls <;> rfl

/-! ## The caps (03 R59 to R61) -/

theorem allocate_derate (cfg : Settings) (stage : Stage) (r : ScanResults) (demand : Consumers Nat) (old : Allocation)
    (b : Bridge) : (allocate cfg stage r demand old).derate.get b = if old.derate.get b = true
      then decide (¬ bridgeTemp r.temp b < (cfg.sup.warnTemp : Int) - 10)
      else decide ((cfg.sup.warnTemp : Int) ≤ bridgeTemp r.temp b) := by
  simp only [allocate, PerBridge.get_of, derateNext, decide_not]

theorem allocate_dutyCap (cfg : Settings) (stage : Stage) (r : ScanResults) (demand : Consumers Nat) (old : Allocation)
    (b : Bridge) :
    let a := allocate cfg stage r demand old
    let c := (shareOut cfg.ltc a.ceiling demand).c
    let budget := if c.total ≤ c.residual then 1000 else min 1000 (a.grant.bridge.get b * 1000 / cfg.sup.rated.get b)
    a.dutyCap.get b = if stage = .reserve ∨ a.derate.get b = true then min 500 budget else budget := by
  intro a c budget
  have hbudget : budgetDuty c (a.grant.bridge.get b) (cfg.sup.rated.get b) = budget := by
    simp only [budgetDuty, ClassShare.full, decide_eq_true_eq, clampNat_zero, budget]
  have hcap : a.dutyCap.get b = dutyCapOf stage (a.derate.get b) budget := by
    rw [← hbudget]
    exact PerBridge.get_of _ b
  rw [hcap, dutyCapOf, Nat.min_comm budget]

theorem allocate_budgetCap (cfg : Settings) (stage : Stage) (r : ScanResults) (demand : Consumers Nat) (old : Allocation)
    (k : Chan) :
    let a := allocate cfg stage r demand old
    let shares := shareOut cfg.ltc a.ceiling demand
    a.budgetCap[k] = if cfg.ltc.chan[k].rated = 0 then 255
      else if (if cfg.ltc.chan[k].cls = .essential then shares.b.total ≤ shares.b.residual
        else shares.d.total ≤ shares.d.residual) then 255
      else min 255 (a.grant.light[k] * 255 / cfg.ltc.chan[k].rated) := by
  intro a shares
  have hcap : a.budgetCap[k] = budgetLight (shares.light cfg.ltc.chan[k].cls) a.grant.light[k] cfg.ltc.chan[k].rated := by
    simp only [a, allocate, Fin.getElem_fin, Vector.getElem_ofFn]
    rfl
  have hfull : (shares.light cfg.ltc.chan[k].cls).full = true ↔ if cfg.ltc.chan[k].cls = .essential
      then shares.b.total ≤ shares.b.residual else shares.d.total ≤ shares.d.residual := by
    rw [ClassShare.full, decide_eq_true_eq]
    cases cfg.ltc.chan[k].cls <;> exact Iff.rfl
  rw [hcap, budgetLight, clampNat_zero]
  exact if_congr Iff.rfl rfl (if_congr hfull rfl rfl)

/-! ## The demands (03 R53 to R56) -/

theorem servoDemand_eq (s : State) :
    s.servoDemand = if s.stc.out = .pulsing ∨ s.stc.out = .held then s.cfg.sup.servoReserve else 0 := by
  unfold State.servoDemand
  cases s.stc.out <;> simp

theorem winchDemand_eq (s : State) : s.winchDemand = if s.wch.state = .runningPowered then
    (s.wch.step.map fun h => h.step.speed * s.cfg.sup.rated.winch / 1000).getD 0 else 0 := by
  unfold State.winchDemand
  cases s.wch.state <;> cases s.wch.step <;> rfl

/-- Settles O28: SUP's record is its next one, whose allocation serves the classes in order. -/
theorem allocationFollowsClasses : Obligations.AllocationFollowsClasses := by
  intro s t a rated essential ess dec bridges totalB totalC totalD leftB leftC leftD share temp
  have ha : a = allocate s.cfg t.sup.stage s.scn.results s.demands s.sup.alloc := by
    simp only [a, t, supplyCompletion_sup]
    rfl
  have hdemand : a.demand = s.demands := by
    rw [ha]
    rfl
  have hclasses := allocate_classes s.cfg t.sup.stage s.scn.results s.demands s.sup.alloc
  rw [← ha] at hclasses
  obtain ⟨hservo, hb, hc, hd, hunassigned⟩ := hclasses
  rw [classChans_decorative] at hd hunassigned
  have hb' : (shareOut s.cfg.ltc a.ceiling s.demands).b = ⟨leftB, totalB⟩ := hb
  have hc' : (shareOut s.cfg.ltc a.ceiling s.demands).c = ⟨leftC, totalC⟩ := by
    rw [hc, hb']
    rfl
  have hd' : (shareOut s.cfg.ltc a.ceiling s.demands).d = ⟨leftD, totalD⟩ := by
    rw [hd, hc']
    rfl
  refine ⟨?_, fun k => ?_, ?_, ?_, ?_, ?_, fun k => ?_, fun b => ?_, ?_, fun b => ?_, fun b => ?_, fun k => ?_⟩
  · rw [hdemand]
    exact servoDemand_eq s
  · simp [hdemand, State.demands]
  · rw [hdemand]
    rfl
  · rw [hdemand]
    rfl
  · rw [hdemand]
    exact winchDemand_eq s
  · have hgrant : a.grant.servo = (shareOut s.cfg.ltc a.ceiling s.demands).a.grant a.demand.servo := by
      rw [hdemand, ha]
      rfl
    rw [hgrant, hservo, ClassShare.grant_eq]
  · have hgrant : a.grant.light[k] = if s.cfg.ltc.chan[k].cls = .essential
        then (shareOut s.cfg.ltc a.ceiling s.demands).b.grant a.demand.light[k]
        else (shareOut s.cfg.ltc a.ceiling s.demands).d.grant a.demand.light[k] := by
      rw [hdemand, ha]
      exact grantsOf_light ..
    rw [hgrant, hb', hd', ClassShare.grant_eq, ClassShare.grant_eq]
  · have hgrant : a.grant.bridge.get b = (shareOut s.cfg.ltc a.ceiling s.demands).c.grant (a.demand.bridge.get b) := by
      rw [hdemand, ha]
      exact PerBridge.get_of _ b
    rw [hgrant, hc', ClassShare.grant_eq]
  · rw [hunassigned, hd']
    rfl
  · rw [ha, allocate_derate]
    cases b <;> rfl
  · have hcap := allocate_dutyCap s.cfg t.sup.stage s.scn.results s.demands s.sup.alloc b
    rw [← ha] at hcap
    simp only [hc'] at hcap
    exact hcap
  · have hcap := allocate_budgetCap s.cfg t.sup.stage s.scn.results s.demands s.sup.alloc k
    rw [← ha] at hcap
    simp only [hb', hd'] at hcap
    exact hcap

end Sys2Proof.Machine

/-! Three statements that fail. Each says of an entry to FAILSAFE or to TRIPPED, for every state, that every level is
formed anew with a changed overlay at the hazard phase that the entry leaves (`OverlaysSettle`). The entry tests the
overlays twice: as TRC publishes its duties, under the hazard phase that still runs, and after the hazard has started
at phase 0. A turn channel that goes to HAZARD at the first test under an off-phase has its level formed unlit; the
second test finds its overlay unchanged and leaves the level, which at phase 0 should be lit. -/

namespace Sys2Proof.Machine

/-- Channel 0 has a turn function; every OVERLAY_LEVEL is 255. -/
def turnSettings : Settings :=
  { Settings.default with ltc := { Settings.default.ltc with
      chan := Settings.default.ltc.chan.set 0 { Settings.default.ltc.chan[0] with overlay := .turnLeft } } }

/-- The hazard runs in its off-phase while the overlay of a turn channel stands IDLE. -/
def unsettled : State :=
  { State.reset with cfg := turnSettings, ltc := { State.reset.ltc with hazard := some 60 } }

/-- The same in ARMED with the hold timer running. -/
def unsettledArmed : State := { unsettled with vsc := { unsettled.vsc with op := .armed, hold := some 1 } }

/-- The same at a completion that finds the board at the trip temperature. -/
def unsettledHot : State :=
  { unsettled with scn := { unsettled.scn with
      results := { unsettled.scn.results with temp := { unsettled.scn.results.temp with board := 140 } } } }

/-- Channel 0 has gone to HAZARD with its level formed unlit, while the hazard phase is 0. -/
structure LeftUnlit (t : State) : Prop where
  overlay : (t.chan 0).overlay = .hazard
  desired : (t.chan 0).desired = 0
  hazard : t.ltc.hazard = some 0
  level : (t.cfg.ltc.chan[(0 : Chan)]).overlayLevel = 255

/-- Such a level is not formed, and the overlay is not the one it had. -/
theorem LeftUnlit.not_settle {s t : State} (h : LeftUnlit t) (hs : (s.chan 0).overlay = .idle) : ¬ OverlaysSettle s t := by
  rintro ⟨-, hsettle⟩
  obtain ⟨hsame, -⟩ | ⟨hformed, -⟩ := hsettle 0
  · rw [h.overlay, hs] at hsame
    contradiction
  · rw [h.desired, h.overlay, h.hazard, h.level] at hformed
    rw [show overlayLit .hazard (some 0) = true from rfl, if_pos rfl] at hformed
    have hlit := Nat.le_max_right (if (t.chan 0).source = .manual then (t.chan 0).manual else (t.chan 0).program) 255
    omega

theorem leftUnlit_failsafe : LeftUnlit (holdExpiry unsettledArmed) := by
  constructor <;> decide

theorem leftUnlit_tripped : LeftUnlit (comparatorAsserts .front unsettled) := by
  constructor <;> decide

theorem leftUnlit_completion : LeftUnlit (vehicleCompletion false unsettledHot) := by
  constructor <;> decide

/-- Refutes O19: the entry to FAILSAFE from a state in which the hazard phase runs already. -/
theorem not_holdExpiryByState : ¬ Obligations.HoldExpiryByState := by
  intro h
  obtain ⟨-, hfirst, -⟩ := h unsettledArmed
  obtain ⟨t, hexec, hentry, -⟩ := hfirst rfl rfl
  obtain rfl : holdExpiry unsettledArmed = t := Host.Outcome.next.inj hexec
  obtain ⟨-, -, -, -, -, -, -, -, -, -, -, -, -, -, -, -, -, -, -, hsettle, -⟩ := hentry
  exact leftUnlit_failsafe.not_settle rfl hsettle

/-- Refutes O21: a comparator asserts while the hazard phase runs already. -/
theorem not_comparatorTrips : ¬ Obligations.ComparatorTrips := by
  intro h
  obtain ⟨-, htrip, -⟩ := h .front unsettled
  obtain ⟨t, hexec, hentry, -⟩ := htrip rfl (by decide)
  obtain rfl : comparatorAsserts .front unsettled = t := Host.Outcome.next.inj hexec
  obtain ⟨-, -, -, -, -, -, -, -, -, -, -, -, -, -, -, -, -, -, -, -, -, -, -, -, -, -, hsettle, -⟩ := hentry
  exact leftUnlit_tripped.not_settle rfl hsettle

/-- A state whose scan is at slot 12. -/
def atLastSlot : State :=
  { State.reset with scn := { State.reset.scn with scan := some ⟨.watch, 11, Vector.replicate 12 none⟩ } }

/-- Refutes O31: VSC finds a trip cause at a completion while the hazard phase runs already. -/
theorem not_completionTripsOrCutsOff : ¬ Obligations.CompletionTripsOrCutsOff := by
  intro h
  obtain ⟨t, -, -, -, hvsc⟩ := h 0 ⟨.watch, 11, Vector.replicate 12 none⟩ atLastSlot rfl rfl rfl
  obtain ⟨htrip, -⟩ := hvsc unsettledHot false
  have hlowest (x : TripCause) (hx : CauseDue unsettledHot x) : (TripCause.overtemp .board).code ≤ x.code := by
    cases x with
    | short b => exact hx.elim
    | overtemp x => cases x <;> decide
    | packOvercurrent => decide
  have hdue : (unsettledHot.cfg.vsc.tripTemp : Int) ≤ unsettledHot.scn.results.temp.get .board := by decide
  obtain ⟨hentry, -⟩ := htrip (.overtemp .board) hdue hlowest (by decide)
  obtain ⟨-, -, -, -, -, -, -, -, -, -, -, -, -, -, -, -, -, -, -, -, -, -, -, -, -, -, hsettle, -⟩ := hentry
  exact leftUnlit_completion.not_settle rfl hsettle

end Sys2Proof.Machine

/-! What the actions of an event leave as they are, said once for all of them: the notices that the same offers give
(`SameNotices`), and the surroundings of the blocks that act (`Passes`). -/

namespace Sys2Proof.Machine

/-! ## Notices (09 R160, R161) -/

theorem SameNotices.refl (s : State) : SameNotices s s := ⟨rfl, fun _ => rfl⟩

theorem SameNotices.trans {s t u : State} (h : SameNotices s t) (k : SameNotices t u) : SameNotices s u :=
  ⟨h.1.trans k.1, fun v => (h.2 v).trans (k.2 v)⟩

/-- Notices stand in the queue and in the units' contexts. -/
theorem SameNotices.of_eq {s t : State} (hnq : s.nq = t.nq) (hpgc : s.pgc = t.pgc) : SameNotices s t :=
  ⟨hnq, fun u => by simp only [State.unit, hpgc]⟩

theorem SameNotices.modUnit (s : State) (u : UnitNo) {f : UnitCtx → UnitCtx} (hf : ∀ x, (f x).stacked = x.stacked) :
    SameNotices (s.modUnit u f) s :=
  ⟨rfl, fun v => by
    rw [State.unit_modUnit]
    split
    · rename_i h
      rw [hf, h]
    · rfl⟩

theorem SameNotices.stackStatus {s t : State} (h : SameNotices s t) (e : EndingStatus) :
    SameNotices (stackStatus e s) (stackStatus e t) :=
  ⟨h.1, fun v => by
    unfold Machine.stackStatus
    rw [State.unit_modUnit, State.unit_modUnit]
    split
    · rfl
    · exact h.2 v⟩

theorem SameNotices.modNq {s t : State} (h : SameNotices s t) (q : List Notice) :
    SameNotices (s.modNq fun _ => q) (t.modNq fun _ => q) := ⟨rfl, h.2⟩

/-- R160: an offer to the same notices gives the same notices. -/
theorem SameNotices.offer {s t : State} (h : SameNotices s t) (o : Offer) : SameNotices (offer o s) (offer o t) := by
  unfold Machine.offer
  rw [h.1]
  split
  · exact h.modNq _
  · split
    · show SameNotices (s.modNq fun q => q ++ [o.fresh]) (t.modNq fun q => q ++ [o.fresh])
      exact ⟨congrArg (· ++ [o.fresh]) h.1, h.2⟩
    · split
      · exact (h.modNq _).stackStatus _
      · exact h

/-- R161: so does an ending status. -/
theorem SameNotices.offerEnding {s t : State} (h : SameNotices s t) (e : EndingStatus) :
    SameNotices (offerEnding e s) (offerEnding e t) := by
  unfold Machine.offerEnding
  rw [h.1]
  split
  · refine ⟨?_, h.2⟩
    rw [State.modNq_nq, State.modNq_nq, h.1]
  · exact h.stackStatus e

/-- R2: a change of operating state offers its notice. -/
theorem sameNotices_changeOp (new : OpState) (cause : OpCause) (s : State) :
    SameNotices (changeOp new cause s) (offer (.opstate new s.vsc.op cause) s) := by
  have hsame : SameNotices (s.modVsc fun v => { v with op := new }) s := ⟨rfl, fun _ => rfl⟩
  exact hsame.offer _

/-- R119: the status of a unit that ends. -/
theorem endUnit_endingOf (u : UnitNo) (cause : EndCause) (residual finalPos : Nat) (s : State) :
    endUnit u cause residual finalPos s = offerEnding (endingOf s u cause residual finalPos) (released u s) :=
  endUnit_eq u cause residual finalPos s

theorem sameNotices_released (u : UnitNo) (s : State) : SameNotices (released u s) s :=
  ⟨by simp [released], fun v => by
    rw [released_unit]
    split
    · rename_i h
      rw [h]
    · rfl⟩

/-- R119: a unit's end offers its status. -/
theorem sameNotices_endUnit (u : UnitNo) (cause : EndCause) (residual finalPos : Nat) (s : State) :
    SameNotices (endUnit u cause residual finalPos s) (offerEnding (endingOf s u cause residual finalPos) s) := by
  rw [endUnit_endingOf]
  exact SameNotices.offerEnding (sameNotices_released u s) _

/-! ## The surroundings of an event -/

/-- The overlay, the desired level and the demand of a channel. -/
def litOf (ch : Channel) : Overlay × Nat × Nat := (ch.overlay, ch.desired, ch.demand)

/-- R155: a channel whose overlay has changed has its level formed anew, or stands in HAZARD. -/
def LitOrFormed (s t : State) (c : Chan) : Prop :=
  litOf (t.chan c) = litOf (s.chan c) ∨ LevelFormed t.cfg.ltc.chan[c] t.ltc.hazard (t.chan c) ∨ (t.chan c).overlay = .hazard

/-- What the entry actions and the winch's endings leave alone, and what they make of the levels. -/
structure Passes (s t : State) : Prop where
  cfg : t.cfg = s.cfg
  store : t.pgc.store = s.pgc.store
  lmx : t.lmx = s.lmx
  pending : t.pending = s.pending
  sup : t.sup = s.sup
  lnk : t.lnk = s.lnk
  levels : SameLevels s t
  lightUnits : SameLightUnits s t
  lit : ∀ c, LitOrFormed s t c

theorem Passes.stores {s t : State} (h : Passes s t) : SameStores s t := ⟨h.cfg, h.store, h.lmx, h.pending⟩

theorem Passes.refl (s : State) : Passes s s where
  cfg := rfl
  store := rfl
  lmx := rfl
  pending := rfl
  sup := rfl
  lnk := rfl
  levels := fun _ => ⟨rfl, rfl, rfl, rfl, rfl, rfl⟩
  lightUnits := fun _ => rfl
  lit := fun _ => .inl rfl

/-- R154: a level that does not depend on the hazard phase stays formed. -/
theorem LevelFormed.of_hazard {cfg : ChanCfg} {hazard hazard' : Option Nat} {ch : Channel}
    (h : LevelFormed cfg hazard ch) (hoverlay : ch.overlay ≠ .hazard) : LevelFormed cfg hazard' ch := by
  have hlit : overlayLit ch.overlay hazard' = overlayLit ch.overlay hazard := by
    cases ho : ch.overlay with
    | hazard => contradiction
    | _ => rfl
  unfold LevelFormed
  rw [hlit]
  exact h

/-- R155: what forms a level is the source, the levels and the overlay. -/
theorem LevelFormed.congr {cfg : ChanCfg} {hazard : Option Nat} {ch ch' : Channel} (h : LevelFormed cfg hazard ch)
    (hlit : litOf ch' = litOf ch) (hmanual : ch'.manual = ch.manual) (hsource : ch'.source = ch.source)
    (hprogram : ch'.program = ch.program) : LevelFormed cfg hazard ch' := by
  obtain ⟨ho, hd, hm⟩ : ch'.overlay = ch.overlay ∧ ch'.desired = ch.desired ∧ ch'.demand = ch.demand := by
    simpa [litOf] using hlit
  unfold LevelFormed
  rw [ho, hd, hm, hmanual, hsource, hprogram]
  exact h

theorem Passes.trans {s t u : State} (h : Passes s t) (k : Passes t u) : Passes s u where
  cfg := k.cfg.trans h.cfg
  store := k.store.trans h.store
  lmx := k.lmx.trans h.lmx
  pending := k.pending.trans h.pending
  sup := k.sup.trans h.sup
  lnk := k.lnk.trans h.lnk
  levels := fun c => by
    obtain ⟨h1, h2, h3, h4, h5, h6⟩ := h.levels c
    obtain ⟨k1, k2, k3, k4, k5, k6⟩ := k.levels c
    exact ⟨k1.trans h1, k2.trans h2, k3.trans h3, k4.trans h4, k5.trans h5, k6.trans h6⟩
  lightUnits := fun c => (k.lightUnits c).trans (h.lightUnits c)
  lit := fun c => by
    obtain hk | hk := k.lit c
    · obtain hh | hh | hh := h.lit c
      · exact .inl (hk.trans hh)
      · by_cases hazard : (u.chan c).overlay = .hazard
        · exact .inr (.inr hazard)
        · obtain ⟨hmanual, hsource, hprogram, -⟩ := k.levels c
          refine .inr (.inl ?_)
          rw [k.cfg]
          exact (hh.congr hk hmanual hsource hprogram).of_hazard hazard
      · exact .inr (.inr ((congrArg Prod.fst hk).trans hh))
    · exact .inr hk

/-- Where LTC, PGC and what surrounds them are kept. -/
theorem Passes.of_eq {s t : State} (hcfg : t.cfg = s.cfg) (hpgc : t.pgc = s.pgc) (hlmx : t.lmx = s.lmx)
    (hpending : t.pending = s.pending) (hsup : t.sup = s.sup) (hlnk : t.lnk = s.lnk) (hltc : t.ltc = s.ltc) :
    Passes s t where
  cfg := hcfg
  store := by rw [hpgc]
  lmx := hlmx
  pending := hpending
  sup := hsup
  lnk := hlnk
  levels := fun c => by simp only [State.chan, hltc, and_self]
  lightUnits := fun c => by simp only [State.unit, hpgc]
  lit := fun c => .inl (by simp only [State.chan, hltc])

/-! ## The single actions -/

section
variable {s t : State}

/-- A change of PGC's contexts that keeps the light units, but for their stacked statuses. -/
theorem Passes.modUnits (hcfg : t.cfg = s.cfg) (hlmx : t.lmx = s.lmx) (hpending : t.pending = s.pending)
    (hsup : t.sup = s.sup) (hlnk : t.lnk = s.lnk) (hltc : t.ltc = s.ltc) (hstore : t.pgc.store = s.pgc.store)
    (hunits : SameLightUnits s t) : Passes s t where
  cfg := hcfg
  store := hstore
  lmx := hlmx
  pending := hpending
  sup := hsup
  lnk := hlnk
  levels := fun c => by simp only [State.chan, hltc, and_self]
  lightUnits := hunits
  lit := fun c => .inl (by simp only [State.chan, hltc])

end

/-- R160: an offer can stack a unit's status, and leaves its context alone. -/
theorem offer_context (o : Offer) (s : State) (u : UnitNo) :
    { (offer o s).unit u with stacked := none } = { s.unit u with stacked := none } := by
  obtain ⟨q, -, h⟩ | ⟨-, -, h⟩ | ⟨e, q, -, -, -, h⟩ | ⟨-, -, -, h⟩ := offer_cases o s <;> rw [h]
  · rfl
  · rfl
  · rw [State.unit_modNq, State.unit_modUnit]
    split
    · subst_vars
      rfl
    · rfl

/-- R161: so can an ending status. -/
theorem offerEnding_context (e : EndingStatus) (s : State) (u : UnitNo) :
    { (offerEnding e s).unit u with stacked := none } = { s.unit u with stacked := none } := by
  obtain ⟨-, h⟩ | ⟨-, h⟩ := offerEnding_cases e s <;> rw [h]
  · rfl
  · rw [State.unit_modUnit]
    split
    · subst_vars
      rfl
    · rfl

/-- R119: what an end makes of the contexts. -/
theorem endUnit_context (u : UnitNo) (cause : EndCause) (residual finalPos : Nat) (s : State) (v : UnitNo) :
    { (endUnit u cause residual finalPos s).unit v with stacked := none } =
      if v = u then { s.unit u with state := .idle, haltCause := none, stacked := none }
      else { s.unit v with stacked := none } := by
  rw [endUnit_endingOf, offerEnding_context, released_unit]
  split <;> rfl

theorem unitOf_ne_zero (c : Chan) : unitOf c ≠ 0 := Fin.succ_ne_zero c

theorem passes_offer (o : Offer) (s : State) : Passes s (offer o s) :=
  .modUnits (by simp) (by simp) (by simp) (by simp) (by simp) (by simp) (by simp) fun _ => offer_context o s _

theorem passes_changeOp (new : OpState) (cause : OpCause) (s : State) : Passes s (changeOp new cause s) := by
  have hop : Passes s (s.modVsc fun v => { v with op := new }) := .of_eq rfl rfl rfl rfl rfl rfl rfl
  exact hop.trans (passes_offer _ _)

theorem passes_endWinchUnit (cause : EndCause) (residual finalPos : Nat) (s : State) :
    Passes s (endUnit 0 cause residual finalPos s) :=
  .modUnits (by simp) (by simp) (by simp) (by simp) (by simp) (by simp) (by simp) fun c => by
    rw [endUnit_context, if_neg (unitOf_ne_zero c)]

theorem passes_modUnit_zero (s : State) (f : UnitCtx → UnitCtx) : Passes s (s.modUnit 0 f) :=
  .modUnits rfl rfl rfl rfl rfl rfl rfl fun c => by rw [State.unit_modUnit_ne _ _ (unitOf_ne_zero c)]

/-- R152: the overlay tests form the levels of the channels whose overlay changes. -/
theorem passes_overlayTests (s : State) : Passes s (overlayTests s) where
  cfg := rfl
  store := rfl
  lmx := rfl
  pending := rfl
  sup := rfl
  lnk := rfl
  levels := fun c => by
    rw [chan_overlayTests, overlayChannel]
    split <;> exact ⟨rfl, rfl, rfl, rfl, rfl, rfl⟩
  lightUnits := fun _ => rfl
  lit := fun c => by
    unfold LitOrFormed
    rw [chan_overlayTests, overlayChannel]
    split
    · exact .inl rfl
    · exact .inr (.inl (levelFormed_formLevel ..))

/-- R154: the hazard phase starts, stops or moves on: a level can depend on it only in HAZARD. -/
theorem passes_hazard (s : State) (hazard : Option Nat) : Passes s (s.modLtc fun l => { l with hazard := hazard }) where
  cfg := rfl
  store := rfl
  lmx := rfl
  pending := rfl
  sup := rfl
  lnk := rfl
  levels := fun _ => ⟨rfl, rfl, rfl, rfl, rfl, rfl⟩
  lightUnits := fun _ => rfl
  lit := fun _ => .inl rfl

theorem passes_hazardStart (s : State) : Passes s (hazardStart s) := (passes_hazard s _).trans (passes_overlayTests _)

theorem passes_hazardStop (s : State) : Passes s (hazardStop s) := (passes_hazard s _).trans (passes_overlayTests _)

theorem passes_publishDuties (s : State) : Passes s (publishDuties s) := by
  have hduties : Passes s (steerOnDuties (endWaitOnZero s)) :=
    .of_eq (by simp) (by simp) (by simp) (by simp) (by simp) (by simp) (by simp)
  exact hduties.trans (passes_overlayTests _)

/-- R152, R154: with the hazard stopped no channel stands in HAZARD. -/
theorem overlay_ne_hazard {t : State} (hok : OverlaysOk t) (hstopped : t.ltc.hazard = none) (c : Chan) :
    (t.chan c).overlay ≠ .hazard := fun hhazard => by
  have hc := hok c
  split at hc
  · obtain ⟨-, hblink, hidle⟩ := hc
    by_cases hh : overlayHolds t c
    · obtain ⟨phase, hphase⟩ := hblink hstopped hh
      rw [hphase] at hhazard
      contradiction
    · rw [hidle hstopped hh] at hhazard
      contradiction
  · obtain ⟨hon, hidle⟩ := hc
    by_cases hh : overlayHolds t c
    · rw [hon hh] at hhazard
      contradiction
    · rw [hidle hh] at hhazard
      contradiction

/-- R152 to R155: with the hazard stopped, what passes settles the overlays. -/
theorem Passes.settles {s t : State} (h : Passes s t) (hok : OverlaysOk t) (hstopped : t.ltc.hazard = none) :
    OverlaysSettle s t := by
  refine ⟨hok, fun c => ?_⟩
  obtain hlit | hformed | hhazard := h.lit c
  · exact .inl (by simpa [litOf] using hlit)
  · exact .inr hformed
  · exact absurd hhazard (overlay_ne_hazard hok hstopped c)

end Sys2Proof.Machine

/-! What a publication of the duties and an entry to PARKED leave (04 R78, 05 R96 to R99, 02 R26, 01 R16). -/

namespace Sys2Proof.Machine

/-! ## Publication (02 R26, 05 R96, R98) -/

/-- R96: the relax test decides the relax timer alone. -/
theorem relaxTest_stc (s : State) : (relaxTest s).stc =
    { s.stc with relax := if relaxCondition s then some (s.stc.relax.getD s.cfg.stc.relaxTime) else none } := by
  unfold relaxTest
  split <;> rfl

theorem relaxCondition_iff (s : State) : relaxCondition s = true ↔
    s.vsc.op = .armed ∧ s.cfg.stc.relaxTime ≠ 0 ∧ s.stc.out = .pulsing ∧ s.stc.steer.natAbs ≤ s.cfg.stc.centreBand ∧
      s.trc.applied.front = 0 ∧ s.trc.applied.rear = 0 := by
  simp only [relaxCondition, withinCentre, axlesStopped, Bool.and_eq_true, decide_eq_true_eq, and_assoc]

theorem axlesStopped_iff (s : State) : axlesStopped s = true ↔ s.trc.applied.front = 0 ∧ s.trc.applied.rear = 0 := by
  simp only [axlesStopped, Bool.and_eq_true, decide_eq_true_eq]

/-- R99: a wake, with the relax test on what it leaves. -/
theorem wake_stc {s : State} (h : relaxCondition (s.modStc fun t => { t with out := .pulsing }) = false) : (wake s).stc =
    { s.stc with out := .pulsing, target := targetPulses s, output := targetPulses s, relax := none } := by
  have hfalse : relaxCondition (s.modStc fun t =>
      { t with out := .pulsing, target := targetPulses s, output := targetPulses s }) = false := h
  rw [wake, relaxTest_stc, hfalse]
  rfl

/-- R96, R98: STC follows the duties that TRC publishes. -/
theorem steerOnDuties_follows (s : State) : SteerFollowsDuties s (steerOnDuties s) := by
  have htrc : (steerOnDuties s).trc = s.trc := by simp
  have hstopped := axlesStopped_iff s
  unfold SteerFollowsDuties
  rw [htrc]
  dsimp only
  rw [← targetPulses_eq]
  by_cases hdriven : s.trc.applied.front = 0 ∧ s.trc.applied.rear = 0
  · have heq : steerOnDuties s = relaxTest s := if_neg fun h => by simp [hstopped.mpr hdriven] at h
    have hholds := relaxCondition_iff s
    rw [heq, relaxTest_stc]
    simp [hholds, hdriven]
  · have hdrives : s.trc.applied.front ≠ 0 ∨ s.trc.applied.rear ≠ 0 := by
      rw [← not_and_or]
      exact hdriven
    have hrun : axlesStopped s = false := Bool.eq_false_iff.mpr fun h => hdriven (hstopped.mp h)
    have hfalse : relaxCondition s = false := Bool.eq_false_iff.mpr fun h => hdriven ((relaxCondition_iff s).mp h).2.2.2.2
    by_cases hwakes : s.stc.out = .relaxed ∧ s.vsc.op = .armed
    · have heq : steerOnDuties s = wake s := if_pos ⟨hwakes.1, hwakes.2, by rw [hrun]; rfl⟩
      have hfalse' : relaxCondition (s.modStc fun t => { t with out := .pulsing }) = false :=
        Bool.eq_false_iff.mpr fun h => hdriven ((relaxCondition_iff _).mp h).2.2.2.2
      rw [heq, wake_stc hfalse']
      simp [hwakes, hdrives]
    · have heq : steerOnDuties s = relaxTest s := if_neg fun h => hwakes ⟨h.1, h.2.1⟩
      rw [heq, relaxTest_stc, hfalse]
      have hno : ¬ (s.stc.out = .relaxed ∧ s.vsc.op = .armed ∧ (s.trc.applied.front ≠ 0 ∨ s.trc.applied.rear ≠ 0)) :=
        fun h => hwakes ⟨h.1, h.2.1⟩
      simp only [hno, if_false]
      simp [hdrives]

/-- What STC follows with is decided by VSC's state, the settings, STC's record and the duties. -/
theorem SteerFollowsDuties.congr {s s' t t' : State} (h : SteerFollowsDuties s t) (hvsc : s'.vsc.op = s.vsc.op)
    (hcfg : s'.cfg = s.cfg) (hstc : s'.stc = s.stc) (htrc : t'.trc.applied = t.trc.applied) (hstc' : t'.stc = t.stc) :
    SteerFollowsDuties s' t' := by
  unfold SteerFollowsDuties at h ⊢
  rw [hvsc, hcfg, hstc, htrc, hstc']
  exact h

theorem publishDuties_steers (s : State) : SteerFollowsDuties s (publishDuties s) :=
  (steerOnDuties_follows (endWaitOnZero s)).congr (by simp) (by simp) (by simp) (by simp) (by simp [publishDuties])

/-- R96: outside ARMED the duties stop the relax timer and do nothing else to STC. -/
theorem SteerFollowsDuties.unarmed {s t : State} (h : SteerFollowsDuties s t) (hop : s.vsc.op ≠ .armed) :
    t.stc = { s.stc with relax := none } := by
  unfold SteerFollowsDuties at h
  simpa [hop] using h

/-! ## Trigger waits (02 R26) -/

/-- R26: SCN's record is kept and the duties with it. -/
theorem SameScan.of_eq {s t : State} (hscn : t.scn = s.scn) (hduty : ∀ b, t.duty b = s.duty b) : SameScan s t := by
  unfold SameScan
  rw [hscn]
  exact ⟨rfl, id, fun b hb => ⟨fun _ => hb, fun hs ht => absurd (hduty b ▸ ht) hs⟩⟩

/-- R26: the duties have moved, and the wait of a bridge at 0 is ended. -/
theorem sameScan_endWait {s t : State} (hscn : t.scn = s.scn) : SameScan s (endWaitOnZero t) := by
  obtain ⟨hrest, hwait⟩ := endWaitOnZero_scn t
  rw [hscn] at hrest hwait
  refine ⟨hrest, fun hnone => ?_, fun b hb => ⟨fun hd => (hwait b).mpr ⟨hb, duty_endWaitOnZero t b ▸ hd⟩, fun _ hd => ?_⟩⟩
  · cases h : (endWaitOnZero t).scn.wait with
    | none => rfl
    | some b => exact absurd (hnone.symm.trans ((hwait b).mp h).1) nofun
  · cases h : (endWaitOnZero t).scn.wait with
    | none => rfl
    | some b' =>
      obtain ⟨hb', hd'⟩ := (hwait b').mp h
      obtain rfl : b = b' := Option.some.inj (hb.symm.trans hb')
      exact absurd (duty_endWaitOnZero t b ▸ hd) hd'

/-- SCN's record and the duties say whether a wait has ended. -/
theorem SameScan.congr {s t s' t' : State} (h : SameScan s t) (hscn : s'.scn = s.scn) (hduty : ∀ b, s'.duty b = s.duty b)
    (hscn' : t'.scn = t.scn) (hduty' : ∀ b, t'.duty b = t.duty b) : SameScan s' t' := by
  obtain ⟨hrest, hnone, hwait⟩ := h
  unfold SameScan
  rw [hscn, hscn']
  exact ⟨hrest, hnone, fun b hb => ⟨fun hd => (hwait b hb).1 (hduty' b ▸ hd),
    fun hs ht => (hwait b hb).2 (hduty b ▸ hs) (hduty' b ▸ ht)⟩⟩

/-- Two actions one after the other, the second of which drives no bridge. -/
theorem SameScan.trans {s t u : State} (h : SameScan s t) (k : SameScan t u) (hduty : ∀ b, u.duty b ≠ 0 → t.duty b ≠ 0) :
    SameScan s u := by
  obtain ⟨hrest, hnone, hwait⟩ := h
  obtain ⟨krest, knone, kwait⟩ := k
  refine ⟨krest.trans hrest, fun hs => knone (hnone hs), fun b hb => ⟨fun hu => ?_, fun hs hu => ?_⟩⟩
  · exact (kwait b ((hwait b hb).1 (hduty b hu))).1 hu
  · by_cases ht : t.duty b = 0
    · exact knone ((hwait b hb).2 hs ht)
    · exact (kwait b ((hwait b hb).1 ht)).2 ht hu

theorem publishDuties_scan {s t : State} (hscn : t.scn = s.scn) : SameScan s (publishDuties t) :=
  (sameScan_endWait hscn).congr rfl (fun _ => rfl) (by simp [publishDuties]) fun b => by
    cases b <;> simp [State.duty]

/-! ## The entry to PARKED (01 R16) -/

/-- What an entry to PARKED finds as the event found it. -/
structure ParksFrom (s q : State) : Prop where
  comparator : q.vsc.comparator = s.vsc.comparator
  measured : q.vsc.measured = s.vsc.measured
  scn : { q.scn with wait := none } = { s.scn with wait := none }
  digRequested : q.trc.digRequested = s.trc.digRequested
  digInForce : q.trc.digInForce = s.trc.digInForce
  ratio : q.trc.ratioInForce = s.trc.ratioInForce
  mode : q.stc.mode = s.stc.mode
  period : q.stc.framePeriod = s.stc.framePeriod
  passes : SameStores s q

theorem ParksFrom.trans {s q r : State} (h : ParksFrom s q) (k : ParksFrom q r) : ParksFrom s r := by
  obtain ⟨hcfg, hstore, hlmx, hpending⟩ := h.passes
  obtain ⟨kcfg, kstore, klmx, kpending⟩ := k.passes
  exact ⟨k.comparator.trans h.comparator, k.measured.trans h.measured, k.scn.trans h.scn,
    k.digRequested.trans h.digRequested, k.digInForce.trans h.digInForce, k.ratio.trans h.ratio, k.mode.trans h.mode,
    k.period.trans h.period, kcfg.trans hcfg, kstore.trans hstore, klmx.trans hlmx, kpending.trans hpending⟩

/-- R16: what the entry leaves in VSC. -/
theorem enterParked_vsc (cause : OpCause) (s : State) : (enterParked cause s).vsc =
    { s.vsc with op := .parked, latch := true, hold := none, grace := none, origin := .none } := by
  simp [enterParked, parkedActions, changeOp_vsc]

theorem enterParked_trc (cause : OpCause) (s : State) : (enterParked cause s).trc =
    { axlesOpen s.trc with limiter := .both .none, winchOpen := false } := by
  simp [enterParked, parkedActions, tractionParked]

/-- R128, R129. -/
theorem parkClutch_wch (s : State) : (parkClutch s).wch = { s.wch with
    clutch := if s.wch.clutch.moving then .unknown else s.wch.clutch
    clutchTimer := if s.wch.clutch.moving then none else s.wch.clutchTimer
    pulse := none } := by
  unfold parkClutch
  cases h : s.wch.clutch.moving <;> simp [State.modWch, h]

/-- R26: with no wait there is none to end. -/
theorem endWaitOnZero_none {s : State} (h : s.scn.wait = none) : endWaitOnZero s = s := by
  simp only [endWaitOnZero, h]

/-- R34: SCN's record after an entry to PARKED. -/
def Scn.parked (interval : Nat) (n : Scn) : Scn :=
  { n with mode := .watch, scan := some (Scan.begin .watch), wait := none, overcurrent := 0, excursion := false,
           watchTimer := some interval }

theorem scanWatch_scn (s : State) : (scanWatch s).scn = s.scn.parked s.cfg.scn.watchInterval := rfl

/-- R34. -/
theorem enterParked_scn (cause : OpCause) (s : State) :
    (enterParked cause s).scn = s.scn.parked s.cfg.scn.watchInterval := by
  have hkept (q : State) (h : q.scn.wait = none) : (tractionParked q).scn = q.scn := by
    rw [tractionParked, publishDuties_scn, endWaitOnZero_none (by simpa using h)]
    rfl
  have hparked (q : State) : (parkedActions q).scn = (scanWatch q).scn := by
    have hsteer : (steerParked (scanWatch q)).scn = (scanWatch q).scn := by simp
    have hclutch : (parkedActions q).scn = (tractionParked (steerParked (scanWatch q))).scn := by
      simp [parkedActions, parkClutch]
    rw [hclutch, hkept _ (by rw [hsteer, scanWatch_scn, Scn.parked]), hsteer]
  rw [enterParked, hparked, scanWatch_scn]
  simp

/-- R101: steering at the entry, with the relax test of R83's publication. -/
theorem enterParked_stc (cause : OpCause) (s : State) : (enterParked cause s).stc =
    { s.stc with out := .stopped, frozen := false, relax := none, target := centres s, output := centres s, steer := 0,
                 pendingMode := none, pulse := .both none } := by
  have hkept (q : State) (h : q.vsc.op = .parked) : (tractionParked q).stc = { q.stc with relax := none } :=
    (publishDuties_steers (q.modTrc fun t => { axlesOpen t with limiter := .both .none, winchOpen := false })).unarmed
      (by simp [h])
  have hparked (q : State) (h : q.vsc.op = .parked) : (parkedActions q).stc =
      { (steerParked (scanWatch q)).stc with relax := none } := by
    have hclutch : (parkedActions q).stc = (tractionParked (steerParked (scanWatch q))).stc := by
      simp [parkedActions, parkClutch]
    rw [hclutch, hkept _ (by simpa using h)]
  rw [enterParked, hparked _ (by simp [changeOp_vsc])]
  simp [steerParked, centres]

theorem enterParked_hazard (cause : OpCause) (s : State) : (enterParked cause s).ltc.hazard = none := rfl

/-- TRC changes its record and publishes. -/
theorem passes_publishTrc (s : State) (f : Trc → Trc) : Passes s (publishDuties (s.modTrc f)) := by
  have htrc : Passes s (s.modTrc f) := .of_eq rfl rfl rfl rfl rfl rfl rfl
  exact htrc.trans (passes_publishDuties _)

theorem passes_enterParked (cause : OpCause) (s : State) : Passes s (enterParked cause s) := by
  have hvsc : Passes s (s.modVsc fun v => { v with latch := true, hold := none, grace := none, origin := .none }) :=
    .of_eq rfl rfl rfl rfl rfl rfl rfl
  have hsteer (q : State) : Passes q (steerParked (scanWatch q)) :=
    .of_eq (by simp) (by simp) (by simp) (by simp) (by simp) (by simp) (by simp)
  have htrc (q : State) : Passes q (tractionParked q) := passes_publishTrc q _
  have hclutch (q : State) : Passes q (parkClutch q) := .of_eq rfl rfl rfl rfl rfl rfl rfl
  exact ((hvsc.trans (passes_changeOp _ _ _)).trans ((hsteer _).trans ((htrc _).trans ((hclutch _).trans
    (passes_hazardStop _)))) :)

theorem overlaysOk_enterParked (cause : OpCause) (s : State) : OverlaysOk (enterParked cause s) :=
  (overlaysRight_overlayTests _).ok

/-- R152, R154: in PARKED no overlay stands. -/
theorem enterParked_overlay (cause : OpCause) (s : State) (c : Chan) : ((enterParked cause s).chan c).overlay = .idle := by
  have hop : (enterParked cause s).vsc.op = .parked := by rw [enterParked_vsc]
  have hnot : ¬ overlayHolds (enterParked cause s) c := by simp [overlayHolds, hop]
  have hok := overlaysOk_enterParked cause s c
  split at hok
  · exact hok.2.2 (enterParked_hazard cause s) hnot
  · exact hok.2 hnot

/-- R77, R78: in PARKED the traction state is OFF and no axle brakes. -/
theorem tractionOk_enterParked (cause : OpCause) (s : State) : TractionOk (enterParked cause s) := by
  have hop : (enterParked cause s).vsc.op = .parked := by rw [enterParked_vsc]
  have hstate : (enterParked cause s).trc.state = .off := by rw [enterParked_trc]; rfl
  have hbraking : (enterParked cause s).trc.braking = false := by rw [enterParked_trc]; rfl
  exact
    { off := fun _ => hstate
      held := fun h => absurd hop h
      neutral := fun h => absurd hop h.1
      braking := fun h => absurd hop h.1
      moving := fun h => absurd hop h.1
      flag := by simp [hstate, hbraking] }

/-- R16: the entry to PARKED, from a state that has what it keeps as the event found it. -/
theorem parksBlocks_enterParked {s q : State} (h : ParksFrom s q) (cause : OpCause) :
    ParksBlocks s (enterParked cause q) q.wch := by
  obtain ⟨hcfg, hstore, hlmx, hpending⟩ := h.passes
  have hpasses := passes_enterParked cause q
  have hscn : q.scn.parked s.cfg.scn.watchInterval = s.scn.parked s.cfg.scn.watchInterval :=
    (congrArg (Scn.parked s.cfg.scn.watchInterval) h.scn :)
  unfold ParksBlocks
  rw [enterParked_vsc, enterParked_scn, enterParked_trc, enterParked_stc, enterParked_wch, parkClutch_wch, hcfg, hscn]
  refine ⟨rfl, rfl, rfl, rfl, rfl, h.comparator, h.measured, rfl, rfl, rfl, rfl, rfl, rfl, rfl, rfl, rfl, rfl,
    h.digRequested, h.digInForce, h.ratio, ?_, rfl, enterParked_hazard cause q, enterParked_overlay cause q,
    tractionOk_enterParked cause q, hpasses.cfg.trans hcfg, hpasses.store.trans hstore, hpasses.lmx.trans hlmx,
    hpasses.pending.trans hpending⟩
  simp [centres, hcfg, h.mode, h.period, PerAxle.both]

/-- R16: the whole entry, from a state to which nothing else has happened at the event. -/
theorem entersParked_enterParked {s q : State} (h : ParksFrom s q) (hpasses : Passes s q) (cause : OpCause) :
    EntersParked s (enterParked cause q) q.wch :=
  have hall := hpasses.trans (passes_enterParked cause q)
  ⟨parksBlocks_enterParked h cause, hall.settles (overlaysOk_enterParked cause q) (enterParked_hazard cause q), hall.sup,
    hall.levels, hall.lightUnits⟩

/-- R2: the entry offers its notice. -/
theorem sameNotices_enterParked (cause : OpCause) (s : State) :
    SameNotices (enterParked cause s) (offer (.opstate .parked s.vsc.op cause) s) := by
  have hvsc : SameNotices (s.modVsc fun v => { v with latch := true, hold := none, grace := none, origin := .none }) s :=
    ⟨rfl, fun _ => rfl⟩
  have hactions (q : State) : SameNotices (parkedActions q) q :=
    .of_eq (by simp [parkedActions, parkClutch]) (by simp [parkedActions, parkClutch])
  exact (hactions _).trans ((sameNotices_changeOp _ _ _).trans (hvsc.offer _))

/-- R16: the units' contexts are kept, but for a status that the notice stacks. -/
theorem enterParked_context (cause : OpCause) (s : State) (u : UnitNo) :
    { (enterParked cause s).unit u with stacked := none } = { s.unit u with stacked := none } := by
  have hpgc (q : State) : (parkedActions q).unit u = q.unit u := by simp [State.unit, parkedActions, parkClutch]
  rw [enterParked, hpgc, changeOp, offer_context]
  rfl

end Sys2Proof.Machine

/-! The end of the winch program (07 R140, 06 R119), with the completion test of a shutdown (01 R13). -/

namespace Sys2Proof.Machine

/-! ## The end without the completion test -/

theorem winchEnd_ended (cause : EndCause) (s : State) : (winchEnd cause s).wch = s.wch.ended := winchEnd_wch cause s

/-- The residual of a program that ends with a cause (R120). -/
def endResidual (cause : EndCause) (w : Wch) : Nat := if cause = .complete then 0 else winchResidual w

/-- R119, R140: the ending status is offered. -/
theorem sameNotices_winchEnd (cause : EndCause) (s : State) :
    SameNotices (winchEnd cause s)
      (offerEnding (endingOf s 0 cause (endResidual cause s.wch) (s.wch.position / 10)) s) := by
  have hidle (q : State) : SameNotices (winchIdle q) q := .of_eq (by simp) (by simp)
  exact (hidle _).trans (sameNotices_endUnit 0 cause _ _ s)

/-- R119: the winch unit's context alone ends. -/
theorem winchEnd_context (cause : EndCause) (s : State) (v : UnitNo) :
    { (winchEnd cause s).unit v with stacked := none } =
      if v = 0 then { s.unit 0 with state := .idle, haltCause := none, stacked := none }
      else { s.unit v with stacked := none } := by
  have hidle (q : State) : (winchIdle q).unit v = q.unit v := by simp [State.unit]
  rw [winchEnd, hidle, endUnit_context]

theorem unitEnded_winchEnd (cause : EndCause) (s : State) : UnitEnded s (winchEnd cause s) :=
  (winchEnd_context cause s 0).trans (if_pos rfl)

theorem winchEnd_unit_state (cause : EndCause) (s : State) : ((winchEnd cause s).unit 0).state = .idle :=
  (congrArg UnitCtx.state (unitEnded_winchEnd cause s) :)

theorem passes_winchEnd (cause : EndCause) (s : State) : Passes s (winchEnd cause s) := by
  have hidle (q : State) : Passes q (winchIdle q) :=
    .of_eq (by simp) (by simp) (by simp) (by simp) (by simp) (by simp) (by simp)
  exact (passes_endWinchUnit cause _ _ s).trans (hidle _)

theorem sameScan_winchEnd (cause : EndCause) (s : State) : SameScan s (winchEnd cause s) :=
  sameScan_endWait (by simp [assistOff, assistEnd])

/-- R125: the axles' duties stay, and the winch stops. -/
theorem winchEnd_duty {cause : EndCause} {s : State} {b : Bridge} (h : (winchEnd cause s).duty b ≠ 0) : s.duty b ≠ 0 := by
  cases b with
  | winch => simp [State.duty, winchEnd_ended, Wch.ended] at h
  | _ => simpa [State.duty, winchEnd_trc] using h

theorem winchEnd_useCount (cause : EndCause) (s : State) (slot : Slot) : (winchEnd cause s).pgc.useCount[slot] =
    s.pgc.useCount[slot] - if slot ∈ (s.unit 0).walked then 1 else 0 := by
  have hidle (q : State) : (winchIdle q).pgc = q.pgc := by simp
  rw [winchEnd, hidle, (endUnit_units ..).1, getElem_changeUse]
  split <;> simp

/-- R108: an entry to PARKED leaves the use counts. -/
theorem enterParked_useCount (cause : OpCause) (s : State) : (enterParked cause s).pgc.useCount = s.pgc.useCount := by
  have hpgc (q : State) : (parkedActions q).pgc = q.pgc := by simp
  rw [enterParked, hpgc, changeOp, (offer_units ..).1]
  rfl

/-! ## The completion test of a shutdown (01 R13) -/

theorem PerAxle.eq_mk_iff {α : Type} (v : PerAxle α) (a b : α) : v = ⟨a, b⟩ ↔ v.front = a ∧ v.rear = b := by
  cases v
  simp

theorem shutdownDone_iff (s : State) : shutdownDone s = true ↔
    s.trc.applied = ⟨0, 0⟩ ∧ (s.unit 0).state = .idle ∧ s.wch.clutch.moving = false := by
  simp only [shutdownDone, Bool.and_eq_true, axlesStopped_iff, decide_eq_true_eq, Bool.not_eq_true', PerAxle.eq_mk_iff,
    and_assoc]

/-- R13: the three conditions in a shutdown. -/
def ShutdownDone (s : State) : Prop :=
  s.vsc.op = .shuttingDown ∧ s.trc.applied = ⟨0, 0⟩ ∧ (s.unit 0).state = .idle ∧ s.wch.clutch.moving = false

theorem completionTest_done {s : State} (h : ShutdownDone s) : completionTest s = enterParked .shutdownComplete s :=
  if_pos ⟨h.1, (shutdownDone_iff s).mpr h.2⟩

theorem completionTest_not {s : State} (h : ¬ ShutdownDone s) : completionTest s = s :=
  if_neg fun hc => h ⟨hc.1, (shutdownDone_iff s).mp hc.2⟩

/-- R13: once is enough. -/
theorem completionTest_twice (s : State) : completionTest (completionTest s) = completionTest s := by
  by_cases h : ShutdownDone s
  · rw [completionTest_done h]
    refine completionTest_not fun hc => ?_
    have hop := hc.1
    rw [enterParked_vsc] at hop
    contradiction
  · rw [completionTest_not h, completionTest_not h]

/-! ## The end with the completion test -/

/-- What the end of a winch program from `q` shares with one from `s`: all but the winch's own running. -/
structure EndsAlike (s q : State) : Prop where
  vsc : q.vsc = s.vsc
  sup : q.sup = s.sup
  stc : q.stc = s.stc
  ltc : q.ltc = s.ltc
  lmx : q.lmx = s.lmx
  lnk : q.lnk = s.lnk
  cfg : q.cfg = s.cfg
  pending : q.pending = s.pending
  nq : q.nq = s.nq
  pgc : q.pgc = s.pgc
  wch : q.wch.ended = s.wch.ended
  trc : { q.trc with assist := none } = { s.trc with assist := none }
  scan : SameScan s q

theorem SameScan.refl (s : State) : SameScan s s := .of_eq rfl fun _ => rfl

theorem EndsAlike.refl (s : State) : EndsAlike s s := ⟨rfl, rfl, rfl, rfl, rfl, rfl, rfl, rfl, rfl, rfl, rfl, rfl, .refl s⟩

section
variable {s q : State} (h : EndsAlike s q)
include h

theorem EndsAlike.passes : Passes s q := .of_eq h.cfg h.pgc h.lmx h.pending h.sup h.lnk h.ltc

theorem EndsAlike.unit (u : UnitNo) : q.unit u = s.unit u := by rw [State.unit, State.unit, h.pgc]

theorem EndsAlike.notices : SameNotices q s := .of_eq h.nq h.pgc

theorem EndsAlike.endingOf (u : UnitNo) (cause : EndCause) (residual finalPos : Nat) :
    endingOf q u cause residual finalPos = Machine.endingOf s u cause residual finalPos := by
  unfold Machine.endingOf loopsRemaining
  rw [h.unit, h.pgc]

/-- R119, R140, R13: the end of the winch program, for every state that shares what it keeps. -/
theorem EndsAlike.programEnds (cause : EndCause) (residual : Nat) (hresidual : endResidual cause q.wch = residual) :
    WinchProgramEnds s (winchEnds cause q) cause residual := by
  have hended : (winchEnd cause q).wch = s.wch.ended := (winchEnd_ended cause q).trans h.wch
  have htrc : (winchEnd cause q).trc = { s.trc with assist := none } := (winchEnd_trc cause q).trans h.trc
  have hvsc : (winchEnd cause q).vsc = s.vsc := by simp [h.vsc]
  have hposition : q.wch.position = s.wch.position := (congrArg Wch.position h.wch :)
  have hclutch : (winchEnd cause q).wch.clutch = s.wch.clutch := (congrArg Wch.clutch hended :)
  have happlied : (winchEnd cause q).trc.applied = s.trc.applied := (congrArg Trc.applied htrc :)
  have hpasses := h.passes.trans (passes_winchEnd cause q)
  have hnotices : SameNotices (winchEnd cause q)
      (offerEnding (Machine.endingOf s 0 cause residual (s.wch.position / 10)) s) := by
    refine (sameNotices_winchEnd cause q).trans ?_
    rw [hresidual, hposition, h.endingOf]
    exact h.notices.offerEnding _
  have hunit : UnitEnded s (winchEnd cause q) := by
    have hq := unitEnded_winchEnd cause q
    rw [UnitEnded, h.unit] at hq
    exact hq
  have huse (slot : Slot) : (winchEnd cause q).pgc.useCount[slot] =
      s.pgc.useCount[slot] - if slot ∈ (s.unit 0).walked then 1 else 0 := by
    rw [winchEnd_useCount, h.unit, h.pgc]
  have hdone : ShutdownDone (winchEnd cause q) ↔
      s.vsc.op = .shuttingDown ∧ s.trc.applied = ⟨0, 0⟩ ∧ s.wch.clutch.moving = false := by
    simp only [ShutdownDone, hvsc, happlied, winchEnd_unit_state, hclutch, true_and]
  by_cases hd : ShutdownDone (winchEnd cause q)
  · have hparks : ParksFrom s (winchEnd cause q) :=
      { comparator := by rw [hvsc]
        measured := by rw [hvsc]
        scn := (h.scan.trans (sameScan_winchEnd cause q) fun b => winchEnd_duty).1
        digRequested := by rw [htrc]
        digInForce := by rw [htrc]
        ratio := by rw [htrc]
        mode := by simp [h.stc]
        period := by simp [h.stc]
        passes := hpasses.stores }
    have hall := hpasses.trans (passes_enterParked .shutdownComplete (winchEnd cause q))
    rw [winchEnds, completionTest_done hd]
    refine ⟨(enterParked_context ..).trans hunit, ?_, ?_, fun slot => ?_, hall.lnk, hall.sup, hall.stores, hall.levels,
      hall.lightUnits, fun hno => absurd (hdone.mp hd) hno, fun _ => ⟨?_, ?_⟩⟩
    · rw [enterParked_trc, htrc]
      rfl
    · have hstill : s.wch.ended.clutch.moving = false := (hdone.mp hd).2.2
      rw [enterParked_wch, parkClutch_wch, hended]
      simp [hstill]
    · rw [enterParked_useCount, huse]
    · have hn := (sameNotices_enterParked .shutdownComplete (winchEnd cause q)).trans (hnotices.offer _)
      rwa [hvsc, (hdone.mp hd).1] at hn
    · rw [← hended]
      exact entersParked_enterParked hparks hpasses _
  · rw [winchEnds, completionTest_not hd]
    refine ⟨hunit, ?_, ?_, huse, hpasses.lnk, hpasses.sup, hpasses.stores, hpasses.levels, hpasses.lightUnits,
      fun _ => ⟨hnotices, hended, htrc, h.scan.trans (sameScan_winchEnd cause q) fun b => winchEnd_duty, hvsc,
        hpasses.sup, by simp [h.stc], by simp [h.ltc], hpasses.lnk, hpasses.stores⟩, fun hyes => absurd (hdone.mpr hyes) hd⟩
    · rw [htrc]
    · rw [hended]

end

/-- R140: a program that ends in the state that the event found. -/
theorem winchProgramEnds (cause : EndCause) (s : State) :
    WinchProgramEnds s (winchEnds cause s) cause (endResidual cause s.wch) := (EndsAlike.refl s).programEnds cause _ rfl

/-- Settles O48: a stall ends the program, and with it a wait for the winch's trigger. -/
theorem stallEndsProgram : Obligations.StallEndsProgram := by
  intro s
  refine ⟨fun hnot => congrArg Host.Outcome.next ?_, fun hruns hst => ⟨winchEnds .stall s, congrArg Host.Outcome.next ?_,
    winchProgramEnds .stall s, fun hdriven hwait => ?_⟩⟩
  · cases hstall : s.wch.stall with
    | none => simp only [stallExpiry, hstall]
    | some n =>
      have hst : s.wch.state ≠ .runningPowered := hnot.resolve_left (by rw [hstall]; nofun)
      simp only [stallExpiry, hstall, hst, if_false]
  · obtain ⟨n, hn⟩ := Option.isSome_iff_exists.mp hruns
    simp only [stallExpiry, hn, hst, if_true]
  · have hended : (winchEnd .stall s).scn.wait = none :=
      ((sameScan_winchEnd .stall s).2.2 .winch hwait).2 hdriven (by simp [State.duty, winchEnd_ended, Wch.ended])
    rw [winchEnds]
    obtain ⟨-, -, h⟩ | ⟨-, h⟩ := completionTest_cases (winchEnd .stall s)
    · rw [h, enterParked_scn, Scn.parked]
    · rw [h, hended]

end Sys2Proof.Machine

/-! A winch step that begins or completes, and the links that it follows (07 R132, R133, 06 R118). -/

namespace Sys2Proof.Machine

/-! ## States that the winch takes alike -/

/-- A state from which the winch goes on as from another: its state and stall timer, which every step sets, may differ,
and a wait for an axle bridge that stands at 0 may have ended (R26). -/
structure Alike (s q : State) : Prop where
  vsc : q.vsc = s.vsc
  sup : q.sup = s.sup
  stc : q.stc = s.stc
  ltc : q.ltc = s.ltc
  lmx : q.lmx = s.lmx
  lnk : q.lnk = s.lnk
  cfg : q.cfg = s.cfg
  pending : q.pending = s.pending
  nq : q.nq = s.nq
  pgc : q.pgc = s.pgc
  trc : q.trc = s.trc
  wch : { q.wch with state := .idle, stall := none } = { s.wch with state := .idle, stall := none }
  scn : { q.scn with wait := none } = { s.scn with wait := none }
  wait : q.scn.wait = s.scn.wait ∨ q.scn.wait = none ∧ ∃ b, s.scn.wait = some b ∧ b ≠ .winch ∧ s.duty b = 0

theorem Alike.refl (s : State) : Alike s s := ⟨rfl, rfl, rfl, rfl, rfl, rfl, rfl, rfl, rfl, rfl, rfl, rfl, rfl, .inl rfl⟩

/-- The duties of the axle bridges are TRC's. -/
theorem duty_of_trc {s t : State} (h : t.trc.applied = s.trc.applied) {b : Bridge} (hb : b ≠ .winch) :
    t.duty b = s.duty b := by
  cases b with
  | winch => contradiction
  | _ => simp [State.duty, h]

/-- R26: the waits end alike when the duties have been set. -/
theorem Alike.sameScan {s q t : State} (h : Alike s q) (hscn : t.scn = q.scn) (htrc : t.trc.applied = s.trc.applied) :
    SameScan s (endWaitOnZero t) := by
  obtain ⟨hrest, hwait⟩ := endWaitOnZero_scn t
  rw [hscn] at hrest
  obtain hsame | ⟨hnone, b, hb, haxle, hzero⟩ := h.wait
  · have hs : SameScan { s with scn := q.scn } (endWaitOnZero t) := sameScan_endWait hscn
    obtain ⟨-, hnone', hwait'⟩ := hs
    exact ⟨hrest.trans h.scn, fun hs => hnone' (hsame.trans hs), fun b hb => hwait' b (hsame.trans hb)⟩
  · have hended : (endWaitOnZero t).scn.wait = none := by
      rw [endWaitOnZero_none (by rw [hscn, hnone]), hscn, hnone]
    refine ⟨hrest.trans h.scn, fun _ => hended, fun b' hb' => ⟨fun hd => ?_, fun _ _ => hended⟩⟩
    obtain rfl : b = b' := Option.some.inj (hb.symm.trans hb')
    rw [duty_endWaitOnZero, duty_of_trc htrc haxle] at hd
    contradiction

theorem Alike.unit {s q : State} (h : Alike s q) (u : UnitNo) : q.unit u = s.unit u := by
  rw [State.unit, State.unit, h.pgc]

/-- R126: where the clutch and the lines are the same, a step's need is met alike. -/
theorem clutchMeets_congr {s t : State} (hclutch : t.wch.clutch = s.wch.clutch) (hlmx : t.lmx = s.lmx) (a : Action) :
    clutchMeets t a = clutchMeets s a := by
  simp only [clutchMeets, State.hasLine, State.lineOf, hclutch, hlmx]

/-- R137: the fairlead is read from the lines. -/
theorem fairleadActive_congr {s t : State} (hlmx : t.lmx = s.lmx) : t.fairleadActive = s.fairleadActive := by
  simp only [State.fairleadActive, State.lineOf, hlmx]

/-! ## The tests at a step's beginning (07 R133) -/

theorem Action.hauls_iff (a : Action) : a.hauls = true ↔ a = .inward ∨ a = .assist := by cases a <;> decide

theorem Action.paysOut_iff (a : Action) : a.paysOut = true ↔ a = .outward ∨ a = .free := by cases a <;> decide

theorem Action.powered_iff (a : Action) : a.winchState = .runningPowered ↔ a = .inward ∨ a = .outward ∨ a = .assist := by
  cases a <;> decide

/-- R133: the verdict at a step's beginning is the test that it fails first, or that it completes at once. -/
theorem beginVerdict_eq (s : State) (r : WinchRec) :
    (CompletesAtOnce s r → beginVerdict s r = .completes) ∧
    (∀ cause, beginEnding s r = some cause → beginVerdict s r = .ends cause ∧ cause ≠ .complete) ∧
    (¬ CompletesAtOnce s r → beginEnding s r = none → beginVerdict s r = .runs) := by
  have hhauls := r.action.hauls_iff
  have hpays := r.action.paysOut_iff
  unfold CompletesAtOnce beginEnding beginVerdict fairleadVerdict positionMax
  simp only [Bool.and_eq_true, hhauls, hpays, decide_eq_true_eq]
  by_cases hfair : (r.action = .inward ∨ r.action = .assist) ∧ s.fairleadActive = true
  · by_cases hend : r.endOn = .fairlead
    · simp [hfair.1, hfair.2, hend]
    · simp [hfair.1, hfair.2, hend]
  · have hnot : ¬ ((r.action = .inward ∨ r.action = .assist) ∧ s.fairleadActive = true ∧ r.endOn = .fairlead) :=
      fun h => hfair ⟨h.1, h.2.1⟩
    simp only [hfair, hnot, if_false]
    by_cases hin : (r.action = .inward ∨ r.action = .assist) ∧ s.wch.position = 0
    · simp [hin.1, hin.2]
    · simp only [hin, if_false]
      by_cases hout : (r.action = .outward ∨ r.action = .free) ∧ s.cfg.wch.lineMax * 10 ≤ s.wch.position
      · simp [hout.1, hout.2]
      · simp [hout]

/-- The verdict reads the lines, the position and LINE_MAX. -/
theorem beginVerdict_congr {s t : State} (hlmx : t.lmx = s.lmx) (hposition : t.wch.position = s.wch.position)
    (hcfg : t.cfg = s.cfg) (r : WinchRec) : beginVerdict t r = beginVerdict s r := by
  unfold beginVerdict positionMax
  rw [fairleadActive_congr hlmx, hposition, hcfg]

/-! ## A step that begins (07 R133) -/

/-- R133: the duty that a step begins with. -/
def beginDuty (s : State) (r : WinchRec) : Nat :=
  if r.action = .inward ∨ r.action = .outward ∨ r.action = .assist then min r.speed s.sup.alloc.dutyCap.winch else 0

/-- R133: the state of a step that has begun. -/
def begunStep (r : WinchRec) (s : State) : State := (beginWinchStep r s).1

theorem beginWinchStep_eq (r : WinchRec) (s : State) :
    beginWinchStep r s = (begunStep r s, beginVerdict (begunStep r s) r) := rfl

/-- R133: the duty is set with the state, and the assist follows. -/
theorem begunStep_eq (r : WinchRec) (s : State) : begunStep r s =
    let q := setWinchDuty (beginDuty s r) (s.modWch fun w => { w with state := r.action.winchState, stall := none })
    if r.action = .assist then assistStart (q.modWch fun w => { w with assist := true }) else q := by
  have hduty : (if r.action.winchState = .runningPowered
      then poweredDuty (s.modWch fun w => { w with state := r.action.winchState, stall := none }) r else 0) = beginDuty s r :=
    if_congr r.action.powered_iff rfl rfl
  unfold begunStep beginWinchStep
  dsimp only
  rw [hduty]

/-- R133: what the beginning of a step leaves in WCH. -/
theorem begunStep_wch (r : WinchRec) (s : State) : (begunStep r s).wch = { s.wch with
    state := r.action.winchState, stall := none, applied := beginDuty s r
    assist := if r.action = .assist then true else s.wch.assist } := by
  rw [begunStep_eq]
  dsimp only
  split <;> simp [assistStart, setWinchDuty]

/-- R133, R85: what it leaves in TRC. -/
theorem begunStep_trc (r : WinchRec) (s : State) : (begunStep r s).trc = { s.trc with
    assist := if r.action = .assist then some (max s.trc.applied.front.natAbs s.trc.applied.rear.natAbs)
      else s.trc.assist } := by
  rw [begunStep_eq]
  dsimp only
  split <;> simp [assistStart, setWinchDuty, largerDuty]

/-- R26: a wait ends for a bridge at 0, the winch's for its new duty. -/
theorem begunStep_scn (r : WinchRec) (s : State) :
    (begunStep r s).scn = (endWaitOnZero (s.modWch fun w => { w with applied := beginDuty s r })).scn := by
  have hcongr (q q' : State) (hscn : q.scn = q'.scn) (hduty : ∀ b, q.duty b = q'.duty b) :
      (endWaitOnZero q).scn = (endWaitOnZero q').scn := by
    unfold endWaitOnZero
    rw [hscn]
    cases q'.scn.wait with
    | none => exact hscn
    | some b =>
      dsimp only
      rw [hduty]
      split
      · simp [hscn]
      · exact hscn
  rw [begunStep_eq]
  dsimp only
  split
  · simp only [assistStart, State.modTrc_scn, State.modWch_scn, setWinchDuty]
    exact hcongr _ _ rfl fun b => by cases b <;> rfl
  · simp only [setWinchDuty]
    exact hcongr _ _ rfl fun b => by cases b <;> rfl

/-- What a beginning step leaves alone. -/
theorem begunStep_frame (r : WinchRec) (s : State) : (begunStep r s).vsc = s.vsc ∧ (begunStep r s).sup = s.sup ∧
    (begunStep r s).stc = s.stc ∧ (begunStep r s).ltc = s.ltc ∧ (begunStep r s).lmx = s.lmx ∧
    (begunStep r s).lnk = s.lnk ∧ (begunStep r s).cfg = s.cfg ∧ (begunStep r s).pending = s.pending ∧
    (begunStep r s).nq = s.nq ∧ (begunStep r s).pgc = s.pgc := by
  simp [begunStep]

/-- R134: the raise finds the duty of a step that has just begun as it would set it. -/
theorem winchRaise_begunStep {r : WinchRec} {s : State} {h : InHand WinchRec} (hstep : s.wch.step = some h)
    (hr : h.step = r) : winchRaise (begunStep r s) = begunStep r s := by
  have hwch := begunStep_wch r s
  have hsame : (begunStep r s).wch.step = some h := by rw [hwch]; exact hstep
  unfold winchRaise
  rw [hsame]
  split
  · rename_i h' hstate heq
    cases heq
    have hpowered : r.action.winchState = .runningPowered := by
      rw [hwch] at hstate
      exact hstate
    have hduty : poweredDuty (begunStep r s) h.step = (begunStep r s).wch.applied := by
      rw [hwch, hr]
      simp [poweredDuty, beginDuty, r.action.powered_iff.mp hpowered, (begunStep_frame r s).2.1]
    have hkept (q : State) : (q.modWch fun w => { w with applied := q.wch.applied }) = q := rfl
    rw [hduty, setWinchDuty, hkept]
    obtain ⟨b, hb, hzero, -⟩ | ⟨-, hsame⟩ := endWaitOnZero_cases (begunStep r s)
    · rw [begunStep_scn] at hb
      have hdriven := (((endWaitOnZero_scn _).2 b).mp hb).2
      refine absurd ?_ hdriven
      cases b with
      | winch => simpa [State.duty, hwch] using hzero
      | _ => simpa [State.duty, begunStep_trc] using hzero
    · exact hsame
  · rfl

/-! ## Completed steps (06 R118, 07 R139) -/

/-- R139, R87: the assist ends with a completed step. -/
def offState (s : State) : State :=
  { s with wch := { s.wch with assist := false }, trc := { s.trc with assist := none } }

theorem assistOff_eq (s : State) : assistOff s = offState s := rfl

/-- R26: the waits that `begunAtOnce` and the model leave. -/
theorem Alike.begunWait {s q : State} (h : Alike s q) (d : Nat) :
    let w := if d = 0 ∧ s.scn.wait = some .winch then none else s.scn.wait
    let w' := (endWaitOnZero (q.modWch fun w => { w with applied := d })).scn.wait
    w' = w ∨ w' = none ∧ ∃ b, w = some b ∧ b ≠ .winch ∧ s.duty b = 0 := by
  intro w w'
  have hwait := (endWaitOnZero_scn (q.modWch fun w => { w with applied := d })).2
  obtain hsame | ⟨hnone, b, hb, haxle, hzero⟩ := h.wait
  · cases hs : s.scn.wait with
    | none =>
      have hq : (q.modWch fun w => { w with applied := d }).scn.wait = none := hsame.trans hs
      have hw : w = none := by
        simp only [w, hs]
        exact ite_self none
      refine .inl ?_
      rw [hw]
      simp only [w', endWaitOnZero_none hq]
      exact hq
    | some b =>
      have hq : (q.modWch fun w => { w with applied := d }).scn.wait = some b := hsame.trans hs
      by_cases hd : (q.modWch fun w => { w with applied := d }).duty b = 0
      · have hended : w' = none := by
          cases hw : w' with
          | none => rfl
          | some b' =>
            obtain ⟨hb', hd'⟩ := (hwait b').mp hw
            obtain rfl : b = b' := Option.some.inj (hq.symm.trans hb')
            contradiction
        by_cases hb : b = .winch
        · subst hb
          have hzero : d = 0 := hd
          exact .inl (hended.trans (if_pos ⟨hzero, hs⟩).symm)
        · have hw : w = some b := (if_neg fun hc => hb (Option.some.inj (hs.symm.trans hc.2))).trans hs
          refine .inr ⟨hended, b, hw, hb, ?_⟩
          rw [← hd]
          exact (duty_of_trc (t := q.modWch fun w => { w with applied := d }) (by simp [h.trc]) hb).symm
      · have hkept : w' = some b := (hwait b).mpr ⟨hq, hd⟩
        refine .inl (hkept.trans ?_)
        rw [← hs]
        refine (if_neg fun hc => hd ?_).symm
        obtain rfl : b = .winch := Option.some.inj (hs.symm.trans hc.2)
        exact hc.1
  · have hq : (q.modWch fun w => { w with applied := d }).scn.wait = none := hnone
    have hw : w = some b := (if_neg fun hc => haxle (Option.some.inj (hb.symm.trans hc.2))).trans hb
    refine .inr ⟨?_, b, hw, haxle, hzero⟩
    simp only [w', endWaitOnZero_none hq]
    exact hq

/-- R133: a step that completes at its beginning leaves the winch as `begunAtOnce` says. -/
theorem Alike.begunAtOnce {s q : State} (h : Alike s q) {r : WinchRec} (hr : r.action = .inward ∨ r.action = .assist) :
    Alike (offState (begunAtOnce s r)) (assistOff (begunStep r q)) := by
  obtain ⟨hvsc, hsup, hstc, hltc, hlmx, hlnk, hcfg, hpending, hnq, hpgc⟩ := begunStep_frame r q
  have hduty : beginDuty q r = min r.speed s.sup.alloc.dutyCap.winch := by
    rw [beginDuty, if_pos (by tauto), h.sup]
  have hscn : (assistOff (begunStep r q)).scn =
      (endWaitOnZero (q.modWch fun w => { w with applied := min r.speed s.sup.alloc.dutyCap.winch })).scn := by
    rw [← hduty]
    exact begunStep_scn r q
  exact
    { vsc := hvsc.trans h.vsc
      sup := hsup.trans h.sup
      stc := hstc.trans h.stc
      ltc := hltc.trans h.ltc
      lmx := hlmx.trans h.lmx
      lnk := hlnk.trans h.lnk
      cfg := hcfg.trans h.cfg
      pending := hpending.trans h.pending
      nq := hnq.trans h.nq
      pgc := hpgc.trans h.pgc
      trc := by
        rw [assistOff_eq]
        simp only [offState, begunStep_trc, h.trc, Machine.begunAtOnce]
      wch := by
        have hw := congrArg (fun w : Wch => { w with applied := min r.speed s.sup.alloc.dutyCap.winch, assist := false }) h.wch
        rw [assistOff_eq]
        simp only [offState, begunStep_wch, hduty, Machine.begunAtOnce]
        exact hw
      scn := by
        rw [hscn]
        exact (endWaitOnZero_scn _).1.trans h.scn
      wait := by
        rw [hscn]
        obtain hsame | ⟨hnone, b, hb, haxle, hzero⟩ := h.begunWait (min r.speed s.sup.alloc.dutyCap.winch)
        · exact .inl hsame
        · exact .inr ⟨hnone, b, hb, haxle, (duty_of_trc (s := s) (t := offState (Machine.begunAtOnce s r)) rfl haxle).trans hzero⟩ }

theorem winchRaise_still {s : State} (h : s.wch.state ≠ .runningPowered) : winchRaise s = s := by
  unfold winchRaise
  split
  · contradiction
  · rfl

/-- A function of states that leaves a step which has just begun, or waits for its clutch, and an idle winch. -/
def KeepsBegun (f : State → State) : Prop := ∀ q, winchRaise q = q → f q = q

/-- R133: what the beginning of a step leads to, in every state that the winch takes alike. -/
theorem winchBegins_of {s q : State} {r : WinchRec} {n : Nat} {f : State → State} {completed : State → State → Prop}
    (h : Alike s q) {i : InHand WinchRec} (hstep : q.wch.step = some i) (hi : i.step = r) (hf : KeepsBegun f)
    (hrec : ∀ s' q', Alike (offState s') (assistOff q') → completed s' (f (runWinch n (q', .completes)))) :
    WinchBegins s (f (runWinch n (beginWinchStep r q))) r completed := by
  obtain ⟨hvsc, hsup, hstc, hltc, hlmx, hlnk, hcfg, hpending, hnq, hpgc⟩ := begunStep_frame r q
  have hposition : q.wch.position = s.wch.position := (congrArg Wch.position h.wch :)
  have hverdict : beginVerdict (begunStep r q) r = beginVerdict s r :=
    beginVerdict_congr (hlmx.trans h.lmx) (by rw [begunStep_wch]; exact hposition) (hcfg.trans h.cfg) r
  obtain ⟨hatOnce, hends, hruns⟩ := beginVerdict_eq s r
  have hscan : SameScan s (begunStep r q) :=
    (h.sameScan (t := q.modWch fun w => { w with applied := beginDuty q r }) rfl (by simp [h.trc])).congr rfl
      (fun _ => rfl) (begunStep_scn r q) fun b => by
        rw [duty_endWaitOnZero]
        cases b <;> simp [State.duty, begunStep_wch, begunStep_trc]
  rw [beginWinchStep_eq, hverdict]
  refine ⟨fun hno hnone => ?_, fun cause hcause => ?_, fun hyes => ?_⟩
  · have hrun : f (runWinch n (begunStep r q, .runs)) = begunStep r q := by
      have hid : runWinch n (begunStep r q, .runs) = begunStep r q := by cases n <;> rfl
      rw [hid]
      exact hf _ (winchRaise_begunStep hstep hi)
    rw [hruns hno hnone, hrun]
    refine ⟨?_, ?_, hpgc.trans h.pgc, hnq.trans h.nq, hscan, hvsc.trans h.vsc, hsup.trans h.sup, hstc.trans h.stc,
      hltc.trans h.ltc, hlnk.trans h.lnk, hcfg.trans h.cfg, ?_, hlmx.trans h.lmx, hpending.trans h.pending⟩
    · have hstate : r.action.winchState = match r.action with
          | .hold => .holding
          | .free => .freewheel
          | _ => .runningPowered := by cases r.action <;> rfl
      have hwch := congrArg (fun w : Wch => { w with
        state := r.action.winchState, applied := beginDuty q r
        assist := if r.action = Action.assist then true else w.assist }) h.wch
      rw [begunStep_wch]
      refine Eq.trans hwch ?_
      rw [hstate, beginDuty, h.sup] <;> rfl
    · rw [begunStep_trc, h.trc]
    · rw [hpgc, h.pgc]
  · obtain ⟨heq, hcause⟩ := hends cause hcause
    have hrun : f (runWinch n (begunStep r q, .ends cause)) = winchEnds cause (begunStep r q) := by
      have hid : runWinch n (begunStep r q, .ends cause) = winchEnds cause (begunStep r q) := by cases n <;> rfl
      rw [hid]
      exact hf _ (winchRaise_still (by rw [winchEnds_state]; nofun))
    have halike : EndsAlike s (begunStep r q) :=
      { vsc := hvsc.trans h.vsc
        sup := hsup.trans h.sup
        stc := hstc.trans h.stc
        ltc := hltc.trans h.ltc
        lmx := hlmx.trans h.lmx
        lnk := hlnk.trans h.lnk
        cfg := hcfg.trans h.cfg
        pending := hpending.trans h.pending
        nq := hnq.trans h.nq
        pgc := hpgc.trans h.pgc
        wch := by
          rw [begunStep_wch]
          exact (congrArg Wch.ended h.wch :)
        trc := by rw [begunStep_trc, h.trc]
        scan := hscan }
    rw [heq, hrun]
    refine halike.programEnds cause _ ((if_neg hcause).trans ?_)
    rw [begunStep_wch]
    exact (congrArg winchResidual h.wch :)
  · rw [hatOnce hyes]
    exact hrec _ _ (h.begunAtOnce hyes.1)

/-! ## A step that is handed over (07 R132) -/

/-- R132: the record of a slot in hand. -/
def handed (slot : Slot) (r : WinchRec) (s : State) : State :=
  { s with wch := { s.wch with step := some ⟨slot, r⟩, travel := 0, frames := 0, lastCurrent := 0 } }

theorem Alike.handed {s q : State} (h : Alike s q) (slot : Slot) (r : WinchRec) :
    Alike (handed slot r s) (handed slot r q) :=
  { h with
    wch := (congrArg (fun w : Wch => { w with step := some ⟨slot, r⟩, travel := 0, frames := 0, lastCurrent := 0 }) h.wch :)
    wait := by
      obtain hsame | ⟨hnone, b, hb, haxle, hzero⟩ := h.wait
      · exact .inl hsame
      · exact .inr ⟨hnone, b, hb, haxle, (duty_of_trc rfl haxle).trans hzero⟩ }

theorem handWinch_winch {slot : Slot} {r : WinchRec} {s : State} (hr : s.pgc.store[slot] = .winch r) :
    handWinch slot s = if clutchMeets (handed slot r s) r.action then beginWinchStep r (handed slot r s)
      else (waitForClutch (startClutch (clutchNeeded r.action) (handed slot r s)), .runs) := by
  unfold handWinch
  rw [hr]
  rfl

/-- R127: a move toward where a step needs the clutch. -/
theorem startClutch_wch (a : Action) (s : State) : (startClutch (clutchNeeded a) s).wch = { s.wch with
    clutch := if s.wch.clutch.moving then s.wch.clutch
      else if a = .free then .movingToFree else .movingToEngage
    clutchTimer := if s.wch.clutch.moving then s.wch.clutchTimer else some s.cfg.wch.clutchTime } := by
  have hneeded : clutchNeeded a = .freed ↔ a = .free := by cases a <;> decide
  unfold startClutch
  cases h : s.wch.clutch.moving with
  | true => simp
  | false => simp [hneeded]

/-- R132: WCH takes the record of a slot, in every state that the winch takes alike. -/
theorem winchTakes_of {s q : State} {slot : Slot} {r : WinchRec} {n : Nat} {f : State → State}
    {completed : State → State → Prop} (h : Alike s q) (hr : s.pgc.store[slot] = .winch r) (hf : KeepsBegun f)
    (hrec : ∀ s' q', Alike (offState s') (assistOff q') → completed s' (f (runWinch n (q', .completes)))) :
    WinchTakes s (f (runWinch n (handWinch slot q))) slot r completed := by
  have hmeets : clutchMeets (handed slot r q) r.action = clutchMeets s r.action :=
    clutchMeets_congr (congrArg Wch.clutch h.wch :) h.lmx _
  rw [handWinch_winch (by rw [h.pgc]; exact hr), hmeets]
  refine ⟨fun hyes => ?_, fun hno => ?_⟩
  · rw [if_pos hyes]
    exact winchBegins_of (h.handed slot r) rfl rfl hf hrec
  · have hwch : (waitForClutch (startClutch (clutchNeeded r.action) (handed slot r q))).wch =
        { (startClutch (clutchNeeded r.action) (handed slot r q)).wch with
          state := .waitClutch, stall := none, assist := false, applied := 0 } := by
      simp [waitForClutch, setWinchDuty, assistOff]
    rw [startClutch_wch] at hwch
    have hrun : f (runWinch n (waitForClutch (startClutch (clutchNeeded r.action) (handed slot r q)), .runs)) =
        waitForClutch (startClutch (clutchNeeded r.action) (handed slot r q)) := by
      have hid (p : State) : runWinch n (p, .runs) = p := by cases n <;> rfl
      rw [hid]
      exact hf _ (winchRaise_still (by rw [hwch]; nofun))
    have hclutch : q.wch.clutch = s.wch.clutch := (congrArg Wch.clutch h.wch :)
    have hscan : SameScan s (waitForClutch (startClutch (clutchNeeded r.action) (handed slot r q))) :=
      h.sameScan (by simp [assistOff, assistEnd, handed]) (by simp [assistOff, assistEnd, handed, h.trc])
    have hframe : (waitForClutch (startClutch (clutchNeeded r.action) (handed slot r q))).pgc = q.pgc ∧
        (waitForClutch (startClutch (clutchNeeded r.action) (handed slot r q))).nq = q.nq := by
      simp [waitForClutch, handed]
    rw [if_neg (by rw [hno]; nofun), hrun]
    refine ⟨?_, ?_, hframe.1.trans h.pgc, hframe.2.trans h.nq, hscan, ?_, ?_, ?_, ?_, ?_, ?_, ?_, ?_, ?_⟩
    · rw [hwch]
      have hw := congrArg (fun w : Wch => { w with
        step := some ⟨slot, r⟩, travel := 0, frames := 0, lastCurrent := 0, state := .waitClutch, applied := 0
        assist := false
        clutch := if w.clutch.moving then w.clutch else if r.action = Action.free then .movingToFree else .movingToEngage
        clutchTimer := if w.clutch.moving then w.clutchTimer else some s.cfg.wch.clutchTime }) h.wch
      dsimp only [handed] at hw ⊢
      rw [h.cfg]
      exact hw
    · simp [waitForClutch, setWinchDuty, assistOff, assistEnd, handed, h.trc]
    · simp [waitForClutch, handed, h.vsc]
    · simp [waitForClutch, handed, h.sup]
    · simp [waitForClutch, handed, h.stc]
    · simp [waitForClutch, handed, h.ltc]
    · simp [waitForClutch, handed, h.lnk]
    · simp [waitForClutch, handed, h.cfg]
    · rw [hframe.1, h.pgc]
    · simp [waitForClutch, handed, h.lmx]
    · simp [waitForClutch, handed, h.pending]

/-! ## Links (06 R118) -/

/-- R118: following a link that is no GOTO. -/
theorem followLink_stop (cur : Slot) (loop : LoopCounter) : followLink cur .stop loop = .ends loop := rfl

theorem followLink_next {cur slot : Slot} (h : slot.val = cur.val + 1) (loop : LoopCounter) :
    followLink cur .next loop = .to slot loop := by
  have hlt : cur.val + 1 < 128 := h ▸ slot.isLt
  exact (dif_pos hlt).trans (congrArg (Follow.to · loop) (Fin.ext h.symm))

/-- A change of a unit's context is what it makes of that context. -/
theorem modUnit_congr {s t : State} (u : UnitNo) {f g : UnitCtx → UnitCtx} (hpgc : s.pgc = t.pgc)
    (hf : f (t.unit u) = g (t.unit u)) : (s.modUnit u f).pgc = (t.modUnit u g).pgc := by
  unfold State.modUnit State.modPgc
  dsimp only
  rw [hpgc]
  exact congrArg (fun x => { t.pgc with units := t.pgc.units.set u x }) hf

theorem modUnit_same {s : State} {u : UnitNo} {f : UnitCtx → UnitCtx} (hf : f (s.unit u) = s.unit u) :
    s.modUnit u f = s := by
  have hpgc : (s.modUnit u f).pgc = s.pgc := by
    rw [modUnit_congr u rfl (g := id) hf]
    simp [State.modUnit, State.modPgc]
  have hrest : s.modUnit u f = { s with pgc := (s.modUnit u f).pgc } := rfl
  rw [hrest, hpgc]

theorem Alike.endsAlike {s q : State} (h : Alike s q) : EndsAlike s q :=
  { h with
    wch := (congrArg Wch.ended h.wch :)
    trc := congrArg (fun t : Trc => { t with assist := none }) h.trc
    scan := by
      refine ⟨h.scn, fun hnone => ?_, fun b hb => ?_⟩
      · obtain hsame | ⟨hended, -⟩ := h.wait
        · exact hsame.trans hnone
        · exact hended
      · have hduty : q.duty b = s.duty b := by
          cases b with
          | winch =>
            have happlied : q.wch.applied = s.wch.applied := (congrArg Wch.applied h.wch :)
            simp [State.duty, happlied]
          | _ => simp [State.duty, h.trc]
        rw [hduty]
        obtain hsame | ⟨hended, b', hb', -, hzero⟩ := h.wait
        · exact ⟨fun _ => hsame.trans hb, fun hd hz => absurd hz hd⟩
        · obtain rfl : b' = b := Option.some.inj (hb'.symm.trans hb)
          exact ⟨fun hd => absurd hzero hd, fun _ _ => hended⟩ }

/-- R118: where the link of the winch program's current step leads. -/
def Pgc.follow (p : Pgc) : Follow :=
  followLink p.units[(0 : UnitNo)].current p.store[p.units[(0 : UnitNo)].current].link p.units[(0 : UnitNo)].loop

theorem runWinch_completes (n : Nat) (s : State) : runWinch (n + 1) (s, .completes) =
    match (assistOff s).pgc.follow with
    | .ends loop => winchEnds .complete ((assistOff s).modUnit 0 fun y => { y with loop := loop })
    | .to slot loop => runWinch n (handWinch slot (passTo 0 slot loop (assistOff s))) := rfl

/-- R118: the winch step in hand has completed; the links go on for as long as the model follows them. -/
theorem winchLinks_of {f : State → State} (hf : KeepsBegun f) (n : Nat) :
    ∀ s q, Alike (offState s) (assistOff q) → WinchLinks n s (f (runWinch n (q, .completes))) := by
  induction n with
  | zero => exact fun _ _ _ => trivial
  | succ n ih =>
    intro s q h
    have hunit : (assistOff q).unit 0 = s.unit 0 := h.unit 0
    have hpgc : (assistOff q).pgc = s.pgc := h.pgc
    have hfollow : s.pgc.follow =
        followLink (s.unit 0).current (s.pgc.store[(s.unit 0).current]).link (s.unit 0).loop := rfl
    rw [runWinch_completes, hpgc, hfollow]
    refine ⟨fun hstop => ?_, fun hnext slot r hslot hr => ?_⟩
    · rw [hstop, followLink_stop]
      dsimp only
      rw [modUnit_same (by rw [hunit]), hf _ (winchRaise_still (by rw [winchEnds_state]; nofun))]
      exact h.endsAlike.programEnds .complete 0 rfl
    · rw [hnext, followLink_next hslot]
      have hpass : Alike ((offState s).modUnit 0 fun y => { y with current := slot, progress := 0 })
          (passTo 0 slot (s.unit 0).loop (assistOff q)) :=
        { h with
          pgc := modUnit_congr 0 h.pgc rfl
          wait := by
            obtain hsame | ⟨hnone, b, hb, haxle, hzero⟩ := h.wait
            · exact .inl hsame
            · exact .inr ⟨hnone, b, hb, haxle, (duty_of_trc rfl haxle).trans hzero⟩ }
      exact winchTakes_of hpass hr hf ih

end Sys2Proof.Machine

/-! What a light frame, a drum pulse and a fairlead change do to the winch (07 R130, R134, R135, R137). -/

namespace Sys2Proof.Machine

/-! ## Verdicts on the step in hand -/

/-- R118: a completed step's link is followed. -/
theorem stepCompletes_settleWinch {f : State → State} (hf : KeepsBegun f) (s : State) :
    WinchStepCompletes s (f (settleWinch (s, .completes))) := winchLinks_of hf 128 s s (.refl _)

theorem keepsBegun_id : KeepsBegun id := fun _ _ => rfl

theorem keepsBegun_winchRaise : KeepsBegun winchRaise := fun _ h => h

theorem settleWinch_ends (cause : EndCause) (s : State) : settleWinch (s, .ends cause) = winchEnds cause s := rfl

/-- R140: a program that ends with another cause than COMPLETE keeps the residual of its step. -/
theorem programEnds_residual {cause : EndCause} (hcause : cause ≠ .complete) (s : State) :
    WinchProgramEnds s (winchEnds cause s) cause (winchResidual s.wch) :=
  (EndsAlike.refl s).programEnds cause _ (if_neg hcause)

/-! ## Progress (06 R120) -/

/-- R120: the progress of a step, by its end-on. -/
def progressOf (w : Wch) (h : InHand WinchRec) : Nat := match h.step.endOn with
  | .distance _ => w.travel / 10
  | .time _ => w.frames
  | .load _ => w.lastCurrent
  | .fairlead => 0

/-- R120: the winch with its record `w`, and the progress of its step reported. -/
def reportedAs (s : State) (w : Wch) (h : InHand WinchRec) : State :=
  { s.modUnit 0 (fun x => { x with progress := progressOf w h }) with wch := w }

theorem reportProgress_eq {s : State} {f : Wch → Wch} {h : InHand WinchRec} (hstep : (f s.wch).step = some h) :
    reportProgress (s.modWch f) = reportedAs s (f s.wch) h := by
  have hprogress : winchProgress (f s.wch) = progressOf (f s.wch) h := by
    unfold winchProgress
    rw [hstep]
    rfl
  unfold reportedAs
  rw [← hprogress]
  rfl

/-! ## A light frame (07 R134, R135) -/

/-- R135: the record of a step that a frame has counted in. -/
def framedWch (w : Wch) : Wch := { w with frames := min 65535 (w.frames + 1) }

theorem winchTimeFrame_begun {s : State} {h : InHand WinchRec} (hstep : s.wch.step = some h) (hb : WinchBegun s) :
    winchTimeFrame s = if timeMet (framedWch s.wch) h.step.endOn then
      settleWinch (reportedAs s (framedWch s.wch) h, .completes) else reportedAs s (framedWch s.wch) h := by
  have hcount : (s.modWch fun w => { w with frames := min (w.frames + 1) 65535 }) = s.modWch framedWch := by
    simp only [State.modWch, framedWch, Nat.min_comm]
  have hbegun : s.wch.state.begun = true := (begun_iff s).mpr hb
  unfold winchTimeFrame
  rw [hstep]
  dsimp only
  rw [if_pos hbegun, hcount, reportProgress_eq (f := framedWch) hstep]
  rfl

theorem timeMet_iff (w : Wch) (e : EndOn) : timeMet w e = true ↔ ∃ n, e = .time n ∧ n ≤ w.frames := by
  cases e <;> simp [timeMet]

/-- R134: the raise of a step that has begun. -/
theorem winchRaise_raises {s : State} {h : InHand WinchRec} (hstep : s.wch.step = some h) :
    winchRaise s = (let duty := if s.wch.state = .runningPowered then poweredDuty s h.step else s.wch.applied
      { s with wch := { s.wch with applied := duty }, scn := (winchRaise s).scn }) ∧ SameScan s (winchRaise s) := by
  by_cases hpowered : s.wch.state = .runningPowered
  · have hraise : winchRaise s = setWinchDuty (poweredDuty s h.step) s := by
      unfold winchRaise
      rw [hpowered, hstep]
    rw [hraise, if_pos hpowered]
    refine ⟨?_, sameScan_endWait rfl⟩
    obtain ⟨b, -, -, heq⟩ | ⟨-, heq⟩ := endWaitOnZero_cases (s.modWch fun w => { w with applied := poweredDuty s h.step })
    all_goals
      rw [setWinchDuty, heq]
      rfl
  · rw [winchRaise_still hpowered, if_neg hpowered]
    exact ⟨rfl, .refl s⟩

/-! ## A drum pulse (07 R130) -/

/-- R130: the winch's record after a pulse has moved P. -/
def pulsedWch (p : Nat) (w : Wch) : Wch := { w with
  position := p, travel := w.travel + (if p ≤ w.position then w.position - p else p - w.position) }

theorem movePosition_eq {s : State} {h : InHand WinchRec} (hstep : s.wch.step = some h) (p : Nat) :
    movePosition p s = reportedAs s (pulsedWch p s.wch) h := by
  have hmoved : (s.modWch fun w => { w with position := p, travel := w.travel + ((p - w.position) + (w.position - p)) }) =
      s.modWch (pulsedWch p) := by
    have htravel : p - s.wch.position + (s.wch.position - p) =
        if p ≤ s.wch.position then s.wch.position - p else p - s.wch.position := by
      split <;> omega
    simp only [State.modWch, pulsedWch, htravel]
  unfold movePosition
  rw [hmoved, reportProgress_eq (f := pulsedWch p) hstep]

theorem distanceMet_iff (w : Wch) (e : EndOn) : distanceMet w e = true ↔ ∃ mm, e = .distance mm ∧ mm * 10 ≤ w.travel := by
  cases e <;> simp [distanceMet]

/-- R130: the tests that follow a pulse. -/
theorem pulseTests_spec (e : EndOn) (atLimit : Prop) [Decidable atLimit] {cause : EndCause} (hcause : cause ≠ .complete)
    (q : State) :
    (∀ mm, e = .distance mm → mm * 10 ≤ q.wch.travel →
      WinchStepCompletes q (pulseTests e (decide atLimit) cause q)) ∧
    ((∀ mm, e = .distance mm → q.wch.travel < mm * 10) →
      (atLimit → WinchProgramEnds q (pulseTests e (decide atLimit) cause q) cause (winchResidual q.wch)) ∧
      (¬ atLimit → pulseTests e (decide atLimit) cause q = restartStall q)) := by
  unfold pulseTests
  refine ⟨fun mm he hmet => ?_, fun hnot => ?_⟩
  · rw [if_pos ((distanceMet_iff _ _).mpr ⟨mm, he, hmet⟩)]
    exact stepCompletes_settleWinch keepsBegun_id q
  · have hno : distanceMet q.wch e ≠ true := fun hyes => by
      obtain ⟨mm, he, hmet⟩ := (distanceMet_iff _ _).mp hyes
      exact absurd (hnot mm he) (by omega)
    rw [if_neg hno]
    refine ⟨fun hyes => ?_, fun hno => ?_⟩
    · rw [if_pos (decide_eq_true hyes), settleWinch_ends]
      exact programEnds_residual hcause q
    · rw [if_neg (by simpa using hno)]

theorem restartStall_eq (s : State) : restartStall s = { s with wch := { s.wch with
    stall := if s.wch.state = .runningPowered then s.wch.stall.map (fun _ => s.cfg.wch.stallTime) else s.wch.stall } } := by
  unfold restartStall
  split <;> rfl

/-! ## The three events -/

theorem drumPulse_still {s : State} (h : s.wch.step = none ∨ s.wch.state ≠ .runningPowered ∧ s.wch.state ≠ .freewheel) :
    drumPulse s = { s with wch := { s.wch with position := positionOut s } } := by
  unfold drumPulse
  split
  · simp_all
  · simp_all
  · rfl

theorem fairleadChange_still {s : State} (h : s.wch.step = none ∨ s.wch.state ≠ .runningPowered) : fairleadChange s = s := by
  unfold fairleadChange
  split
  · simp_all
  · rfl

theorem fairleadChange_powered {s : State} {h : InHand WinchRec} (hstep : s.wch.step = some h)
    (hst : s.wch.state = .runningPowered) : fairleadChange s =
      if h.step.action.hauls && s.fairleadActive then settleWinch (s, fairleadVerdict h.step.endOn) else s := by
  unfold fairleadChange
  rw [hst, hstep]

theorem drumPulse_powered {s : State} {h : InHand WinchRec} (hstep : s.wch.step = some h)
    (hst : s.wch.state = .runningPowered) : drumPulse s =
      if h.step.action.hauls then pulseIn h.step.endOn s else pulseOut h.step.endOn s := by
  unfold drumPulse
  rw [hst, hstep]

theorem drumPulse_freewheel {s : State} {h : InHand WinchRec} (hstep : s.wch.step = some h)
    (hst : s.wch.state = .freewheel) : drumPulse s = pulseOut h.step.endOn s := by
  unfold drumPulse
  rw [hst, hstep]

/-- R134, R135: without a step that has begun, a light frame does nothing. -/
theorem winchFrame_still {s : State} (h : s.wch.step = none ∨ ¬ WinchBegun s) : winchFrame s = s := by
  have htime : winchTimeFrame s = s := by
    unfold winchTimeFrame
    split
    · rename_i i hi
      have hno : ¬ WinchBegun s := h.resolve_left (by rw [hi]; nofun)
      rw [if_neg fun hc => hno ((begun_iff s).mp hc)]
    · rfl
  rw [winchFrame, htime]
  unfold winchRaise
  split
  · rename_i i hst hi
    exact absurd (Or.inl hst) (h.resolve_left (by rw [hi]; nofun))
  · rfl

/-- R130: what a pulse leads to, for P moved to `p`. -/
def PulseLeads (s t : State) (h : InHand WinchRec) (p : Nat) (atLimit : Prop) (cause : EndCause) : Prop :=
  let q := reportedAs s (pulsedWch p s.wch) h
  (∀ mm, h.step.endOn = .distance mm → mm * 10 ≤ q.wch.travel → WinchStepCompletes q t) ∧
  ((∀ mm, h.step.endOn = .distance mm → q.wch.travel < mm * 10) →
    (atLimit → WinchProgramEnds q t cause (winchResidual q.wch)) ∧
    (¬ atLimit → t = { q with wch := { q.wch with stall :=
      (if s.wch.state = .runningPowered then s.wch.stall.map (fun _ => s.cfg.wch.stallTime) else s.wch.stall) } }))

theorem pulseTests_leads {s : State} {h : InHand WinchRec} (hstep : s.wch.step = some h) (p : Nat) {atLimit limit : Prop}
    [Decidable limit] (hlimit : limit ↔ atLimit) {cause : EndCause} (hcause : cause ≠ .complete) :
    PulseLeads s (pulseTests h.step.endOn (decide limit) cause (movePosition p s)) h p atLimit cause := by
  obtain ⟨hmet, hnot⟩ := pulseTests_spec h.step.endOn limit hcause (movePosition p s)
  rw [movePosition_eq hstep] at hmet hnot ⊢
  refine ⟨hmet, fun hd => ⟨fun hyes => (hnot hd).1 (hlimit.mpr hyes), fun hno => ?_⟩⟩
  rw [(hnot hd).2 fun hl => hno (hlimit.mp hl), restartStall_eq]
  rfl

theorem pulseIn_leads {s : State} {h : InHand WinchRec} (hstep : s.wch.step = some h) :
    PulseLeads s (pulseIn h.step.endOn s) h (s.wch.position - s.cfg.wch.linePerPulse)
      (s.wch.position ≤ s.cfg.wch.linePerPulse) .fullyIn :=
  pulseTests_leads hstep _ Nat.sub_eq_zero_iff_le (by nofun)

theorem pulseOut_leads {s : State} {h : InHand WinchRec} (hstep : s.wch.step = some h) :
    PulseLeads s (pulseOut h.step.endOn s) h (positionOut s) (positionOut s = positionMax s) .lineEnd :=
  pulseTests_leads hstep _ Iff.rfl (by nofun)

/-- Settles O47: each event is the count, the move or the test of its rule, and then what its verdict leads to. -/
theorem winchRunsAtFrames : Obligations.WinchRunsAtFrames := by
  intro s
  refine ⟨fun hidle => ⟨winchFrame_still hidle, ?_, ?_⟩, fun h hstep hb => ⟨fun n hn hmet => ?_, fun hnot => ?_⟩,
    fun h hstep hst => ⟨fun haction => ?_, fun haction => ?_⟩, fun h hstep hst => ⟨?_, ?_⟩, fun hst => ⟨?_, ?_⟩⟩
  · exact drumPulse_still (hidle.imp_right fun hno => ⟨fun hc => hno (.inl hc), fun hc => hno (.inr (.inr hc))⟩)
  · exact fairleadChange_still (hidle.imp_right fun hno hc => hno (.inl hc))
  · rw [winchFrame, winchTimeFrame_begun hstep hb, if_pos ((timeMet_iff _ _).mpr ⟨n, hn, by exact hmet⟩)]
    exact stepCompletes_settleWinch keepsBegun_winchRaise _
  · have hno : timeMet (framedWch s.wch) h.step.endOn ≠ true := fun hyes => by
      obtain ⟨n, hn, hmet⟩ := (timeMet_iff _ _).mp hyes
      exact absurd (hnot n hn) (Nat.not_lt.mpr hmet)
    rw [winchFrame, winchTimeFrame_begun hstep hb, if_neg hno]
    obtain ⟨heq, hscan⟩ := winchRaise_raises (s := reportedAs s (framedWch s.wch) h) hstep
    exact ⟨heq, hscan.congr rfl (fun b => by cases b <;> rfl) rfl fun _ => rfl⟩
  · have hhauls : h.step.action.hauls = true := (Action.hauls_iff _).mpr haction
    rw [drumPulse_powered hstep hst, if_pos hhauls, fairleadChange_powered hstep hst, hhauls]
    refine ⟨pulseIn_leads hstep, fun hoff => ?_, fun hon hend => ?_, fun hon hend => ?_⟩
    · simp [hoff]
    · simp only [hon, fairleadVerdict, hend]
      exact stepCompletes_settleWinch keepsBegun_id s
    · simp only [hon, fairleadVerdict, hend]
      exact programEnds_residual (by nofun) s
  · rw [drumPulse_powered hstep hst, fairleadChange_powered hstep hst, haction]
    exact ⟨pulseOut_leads hstep, rfl⟩
  · rw [drumPulse_freewheel hstep hst]
    exact pulseOut_leads hstep
  · exact fairleadChange_still (.inr (by rw [hst]; nofun))
  · exact drumPulse_still (.inr (by rw [hst]; exact ⟨by nofun, by nofun⟩))
  · exact fairleadChange_still (.inr (by rw [hst]; nofun))

end Sys2Proof.Machine

/-! A START of the winch and a clutch travel expiry: the beginning of a step (07 R127, R132, R133). -/

namespace Sys2Proof.Machine

/-! ## A statement that fails: a clutch travel expiry that ends a HALTING unit -/

/-- The winch unit is HALTING with cause COMPLETE while a TIME step of 5 frames is in hand and the clutch moves. -/
def haltingComplete : State :=
  (State.reset.modUnit 0 fun x => { x with state := .halting, haltCause := some .complete }).modWch fun w =>
    { w with clutch := .movingToEngage, clutchTimer := some 1
             step := some ⟨0, { action := .inward, endOn := .time 5, speed := 0, link := .stop }⟩ }

/-- The status says residual 0, as every COMPLETE does (R119), and not what is left of the step. -/
theorem haltingComplete_ends : (clutchExpiry haltingComplete).nq ≠
    (offerEnding (winchEnding haltingComplete .complete) haltingComplete).nq := by
  decide

/-- Refutes O45: a HALTING unit that holds the cause COMPLETE ends with residual 0. -/
theorem not_clutchTravelArrives : ¬ Obligations.ClutchTravelArrives := by
  intro h
  obtain ⟨-, harrives⟩ := h haltingComplete
  obtain ⟨-, -, -, hhalting, -⟩ := harrives rfl
  obtain ⟨t, hexec, -, -, hends, -⟩ := hhalting .complete rfl rfl
  obtain rfl : clutchExpiry haltingComplete = t := Host.Outcome.next.inj hexec
  obtain ⟨-, ⟨hnotices, -⟩, -⟩ := hends fun hc => absurd hc.1 (by decide)
  exact haltingComplete_ends hnotices

/-! ## The winch and the link -/

/-- A state with the link of another moment. -/
def State.linked (s : State) (l : Lnk) : State := { s with lnk := l }

theorem TractionOk.linked {s : State} (h : TractionOk s) (l : Lnk) : TractionOk (s.linked l) :=
  ⟨h.off, h.held, h.neutral, h.braking, h.moving, h.flag⟩

/-- R14: the entry to PARKED reads no link. -/
theorem EntersParked.relinked {s t : State} {w : Wch} (l k : Lnk) (h : EntersParked s t w) :
    EntersParked (s.linked l) (t.linked k) w := by
  obtain ⟨⟨hop, hlatch, hhold, hgrace, horigin, hcomparator, hmeasured, hscn, hstate, htrchold, hthrottle, htarget,
    happlied, hmode, hlimiter, hbraking, hopen, hdig, hdigIn, hratio, hstc, hwch, hhazard, hoverlay, htraction, hstores⟩,
    hsettle⟩ := h
  exact ⟨⟨hop, hlatch, hhold, hgrace, horigin, hcomparator, hmeasured, hscn, hstate, htrchold, hthrottle, htarget,
    happlied, hmode, hlimiter, hbraking, hopen, hdig, hdigIn, hratio, hstc, hwch, hhazard, hoverlay, htraction.linked k,
    hstores⟩, hsettle⟩

theorem EntersParked.linked {s t : State} {w : Wch} (h : EntersParked s t w) (l : Lnk) :
    EntersParked (s.linked l) (t.linked l) w := h.relinked l l

/-- R119: the end of a program does not read the link. -/
theorem WinchProgramEnds.linked {s t : State} {cause : EndCause} {residual : Nat}
    (h : WinchProgramEnds s t cause residual) (l : Lnk) : WinchProgramEnds (s.linked l) (t.linked l) cause residual := by
  obtain ⟨hunit, hassist, hwch, huse, -, hsup, hstores, hlevels, hlights, hnot, hdone⟩ := h
  have hoffered : SameNotices
      (offerEnding (endingOf s 0 cause residual (s.wch.position / 10)) s)
      (offerEnding (endingOf s 0 cause residual (s.wch.position / 10)) (s.linked l)) :=
    (SameNotices.of_eq (s := s) (t := s.linked l) rfl rfl).offerEnding _
  refine ⟨hunit, hassist, hwch, huse, rfl, hsup, hstores, hlevels, hlights, fun hno => ?_, fun hyes => ?_⟩
  · obtain ⟨hnotices, hended, htrc, hscan, hvsc, hsup, hstc, hltc, -, hstores⟩ := hnot hno
    exact ⟨SameNotices.trans hnotices hoffered, hended, htrc, hscan, hvsc, hsup, hstc, hltc, rfl, hstores⟩
  · obtain ⟨hnotices, henters⟩ := hdone hyes
    exact ⟨SameNotices.trans hnotices (hoffered.offer _), henters.linked l⟩

/-- R133: nor does the beginning of a step. -/
theorem WinchBegins.linked {s t : State} {r : WinchRec} {completed completed' : State → State → Prop}
    (h : WinchBegins s t r completed) (l : Lnk)
    (hcompleted : ∀ s, completed s t → completed' (s.linked l) (t.linked l)) :
    WinchBegins (s.linked l) (t.linked l) r completed' := by
  obtain ⟨hruns, hends, hatOnce⟩ := h
  refine ⟨fun hno hnone => ?_, fun cause hcause => (hends cause hcause).linked l, fun hyes => hcompleted _ (hatOnce hyes)⟩
  obtain ⟨hwch, htrc, hpgc, hnq, hscan, hvsc, hsup, hstc, hltc, -, hstores⟩ := hruns hno hnone
  exact ⟨hwch, htrc, hpgc, hnq, hscan, hvsc, hsup, hstc, hltc, rfl, hstores⟩

/-- R132: nor does a step that is handed over. -/
theorem WinchTakes.linked {s t : State} {slot : Slot} {r : WinchRec} {completed completed' : State → State → Prop}
    (h : WinchTakes s t slot r completed) (l : Lnk)
    (hcompleted : ∀ s, completed s t → completed' (s.linked l) (t.linked l)) :
    WinchTakes (s.linked l) (t.linked l) slot r completed' := by
  obtain ⟨hmeets, hwaits⟩ := h
  refine ⟨fun hyes => (hmeets hyes).linked l hcompleted, fun hno => ?_⟩
  obtain ⟨hwch, htrc, hpgc, hnq, hscan, hvsc, hsup, hstc, hltc, -, hstores⟩ := hwaits hno
  exact ⟨hwch, htrc, hpgc, hnq, hscan, hvsc, hsup, hstc, hltc, rfl, hstores⟩

/-- R118: nor do the links. -/
theorem WinchLinks.linked (n : Nat) {t : State} (l : Lnk) :
    ∀ {s : State}, WinchLinks n s t → WinchLinks n (s.linked l) (t.linked l) := by
  induction n with
  | zero => exact fun _ => trivial
  | succ n ih =>
    intro s ⟨hstop, hnext⟩
    exact ⟨fun h => (hstop h).linked l, fun h slot r hslot hr => (hnext h slot r hslot hr).linked l fun _ => ih⟩

/-! ## A START of the winch unit (06 R114, 07 R132) -/

/-- R114, R132: WCH takes the first step. -/
theorem winchStarts_startWinch {s : State} {first : Slot} {r : WinchRec} (hr : s.pgc.store[first] = .winch r) :
    WinchStarts s (startWinch first s) first r :=
  winchTakes_of (.refl s) hr keepsBegun_id fun s' q' h => winchLinks_of keepsBegun_id 128 s' q' h

/-- R113: a START that passes its checks. -/
theorem onStart_passed {s : State} {b f start : Byte} {u : UnitNo} {first : Slot} {slots : List Slot}
    (hb : b.toNat = u.val) (hf : f.toNat = first.val) (hout : s.outstanding u = none) (hidle : (s.unit u).state = .idle)
    (hallowed : startForbidden s u = none) (hwalk : walk s u first = .passed slots) :
    onStart s [b, f, start] = (startUnit u first slots start s, doneWith .none (u8 slots.length)) := by
  have hfirst : slotNo f = some first := by
    unfold slotNo
    rw [dif_pos (hf ▸ first.isLt)]
    exact congrArg some (Fin.ext hf)
  unfold onStart
  dsimp only
  rw [unitNo_eq hb, hfirst]
  dsimp only
  rw [hout]
  dsimp only
  rw [if_pos hidle]
  unfold startIdle
  rw [hallowed]
  dsimp only
  rw [hwalk]

/-- R120: what is left of a step that has just been handed over is its whole amount. -/
theorem winchResidual_handed (slot : Slot) (r : WinchRec) (s : State) : winchResidual (handed slot r s).wch =
    match r.endOn with
    | .distance mm => mm
    | .time n => n
    | .load mA => mA
    | .fairlead => 0 := by
  simp only [winchResidual, handed, Nat.zero_div, Nat.sub_zero] <;> rfl

/-- R114: PGC's record with a context started. -/
def Pgc.started (u : UnitNo) (first : Slot) (slots : List Slot) (tag : Byte) (p : Pgc) : Pgc := { p with
  units := p.units.set u { p.units[u] with state := .running, first := first, current := first, walked := slots
                                           loop := .notLoaded, progress := 0, haltCause := none, tag := tag }
  useCount := changeUse slots (· + 1) p.useCount }

theorem startContext_eq (u : UnitNo) (first : Slot) (slots : List Slot) (tag : Byte) (s : State) :
    startContext u first slots tag s = { s with pgc := s.pgc.started u first slots tag } := rfl

theorem startContext_store (u : UnitNo) (first : Slot) (slots : List Slot) (tag : Byte) (s : State) :
    (startContext u first slots tag s).pgc.store = s.pgc.store := by
  rw [startContext_eq, Pgc.started]

theorem startContext_linked (u : UnitNo) (first : Slot) (slots : List Slot) (tag : Byte) (s : State) (f : Lnk → Lnk) :
    (startContext u first slots tag (s.modLnk f)).linked s.lnk = startContext u first slots tag s := by
  rw [startContext_eq, startContext_eq]
  rfl

theorem startUnit_winch (first : Slot) (slots : List Slot) (tag : Byte) (s : State) :
    startUnit 0 first slots tag s = startWinch first (startContext 0 first slots tag s) := rfl

/-- The result of a START of the winch, as its reply leaves it. -/
theorem winchStarts_of_start {s : State} {first : Slot} {slots : List Slot} {tag : Byte} {r : WinchRec}
    (hr : s.pgc.store[first] = .winch r) (f : Lnk → Lnk) :
    WinchStarts (startContext 0 first slots tag s) ((startUnit 0 first slots tag (s.modLnk f)).linked s.lnk) first r := by
  have hstarts : WinchStarts (startContext 0 first slots tag (s.modLnk f)) (startUnit 0 first slots tag (s.modLnk f))
      first r := by
    rw [startUnit_winch]
    exact winchStarts_startWinch (by rw [startContext_store]; exact hr)
  have hlinked : WinchStarts ((startContext 0 first slots tag (s.modLnk f)).linked s.lnk)
      ((startUnit 0 first slots tag (s.modLnk f)).linked s.lnk) first r :=
    hstarts.linked s.lnk fun s' => WinchLinks.linked 128 s.lnk
  rwa [startContext_linked] at hlinked

/-! ## A clutch travel expiry (07 R127) -/

/-- The winch's record after the clutch has arrived. -/
def arrivedWch (w : Wch) : Wch := { w with clutch := w.clutch.arrived, clutchTimer := none }

theorem ClutchState.arrived_eq (c : ClutchState) : c.arrived = match c with
    | .movingToEngage => .engaged
    | .movingToFree => .freed
    | other => other := by
  cases c <;> rfl

/-- R13: the completion test waits for a shutdown. -/
theorem completionTest_other {s : State} (h : s.vsc.op ≠ .shuttingDown) : completionTest s = s :=
  completionTest_not fun hd => h hd.1

/-- Outside SHUTTING_DOWN what follows a verdict leaves VSC. -/
theorem settleWinch_vsc {p : State × Verdict} (h : p.1.vsc.op ≠ .shuttingDown) : (settleWinch p).vsc = p.1.vsc := by
  obtain ⟨u, hmoves, ht | ⟨cause, ht⟩⟩ := settleWinch_does p
  · rw [ht, hmoves.vsc]
  · have hop : (winchEnd cause u).vsc.op ≠ .shuttingDown := by simpa [hmoves.vsc] using h
    rw [ht, winchEnds, completionTest_other hop]
    simp [hmoves.vsc]

/-- R127: a waiting unit begins its step where the clutch has arrived as it needs. -/
theorem clutchExpiry_begins {s : State} {h : InHand WinchRec} (htimer : s.wch.clutchTimer.isSome = true)
    (hop : s.vsc.op ≠ .shuttingDown) (hrun : (s.unit 0).state = .running) (hwaits : s.wch.state = .waitClutch)
    (hstep : s.wch.step = some h) (hmeets : clutchMeets (s.modWch arrivedWch) h.step.action = true) :
    clutchExpiry s = settleWinch (beginWinchStep h.step (s.modWch arrivedWch)) := by
  obtain ⟨n, hn⟩ := Option.isSome_iff_exists.mp htimer
  have hstate : (s.modWch arrivedWch).wch.state = .waitClutch := hwaits
  have hhand : (s.modWch arrivedWch).wch.step = some h := hstep
  have hrunning : ((s.modWch arrivedWch).unit 0).state = .running := hrun
  have hafter : afterTravel (s.modWch arrivedWch) = settleWinch (beginWinchStep h.step (s.modWch arrivedWch)) := by
    unfold afterTravel
    rw [hrunning]
    dsimp only
    rw [hstate, hhand]
    exact if_pos hmeets
  have hvsc : (beginWinchStep h.step (s.modWch arrivedWch)).1.vsc = s.vsc :=
    (begunStep_frame h.step (s.modWch arrivedWch)).1
  have hexpiry : clutchExpiry s = completionTest (afterTravel (s.modWch arrivedWch)) := by
    unfold clutchExpiry
    rw [hn]
    rfl
  rw [hexpiry, hafter, completionTest_other]
  rw [settleWinch_vsc (by rw [hvsc]; exact hop), hvsc]
  exact hop

/-- R133: what the step then leads to. -/
theorem winchBegins_settleWinch {s : State} {h : InHand WinchRec} (hstep : s.wch.step = some h) :
    WinchBegins s (settleWinch (beginWinchStep h.step s)) h.step WinchStepCompletes :=
  winchBegins_of (.refl s) hstep rfl keepsBegun_id fun s' q' h => winchLinks_of keepsBegun_id 128 s' q' h

/-- R133: where a test ends the program. -/
theorem beginEnding_cases (s : State) (r : WinchRec) :
    (r.action = .inward ∨ r.action = .assist → s.fairleadActive = true → r.endOn ≠ .fairlead →
      beginEnding s r = some .fairlead) ∧
    (r.action = .inward ∨ r.action = .assist → s.fairleadActive = false → s.wch.position = 0 →
      beginEnding s r = some .fullyIn) ∧
    (r.action = .outward ∨ r.action = .free → s.cfg.wch.lineMax * 10 ≤ s.wch.position →
      beginEnding s r = some .lineEnd) := by
  refine ⟨fun hhauls hon hend => ?_, fun hhauls hoff hzero => ?_, fun hpays hmax => ?_⟩
  · simp [beginEnding, hhauls, hon, hend]
  · simp [beginEnding, hhauls, hoff, hzero]
  · have hnot : ¬ (r.action = .inward ∨ r.action = .assist) := by
      rcases hpays with h | h <;> simp [h]
    simp [beginEnding, hnot, hpays, hmax]

/-- Settles O46: the first step of a START begins in the context of its unit, and a waiting step after its clutch. -/
theorem beginningTestsEndPrograms : Obligations.BeginningTestsEndPrograms := by
  refine ⟨fun tag b f start first slots r s hfree hout hidle hop hb hf hwalk hr => ?_, ?_⟩
  · have hunit : b.toNat = (0 : UnitNo).val := by rw [hb]; rfl
    have hallowed : startForbidden (s.modLnk (lnkOf ⟨0x22, tag, [b, f, start]⟩)) 0 = none :=
      (if_pos rfl).trans (if_pos hop)
    have hpassed := onStart_passed (s := s.modLnk (lnkOf ⟨0x22, tag, [b, f, start]⟩)) (start := start) hunit hf hout hidle
      hallowed hwalk
    have hstarts := winchStarts_of_start (slots := slots) (tag := start) hr (lnkOf ⟨0x22, tag, [b, f, start]⟩)
    refine ⟨_, congrArg Host.Outcome.next (frameArrives_replied .start tag [b, f, start] s hfree hpassed),
      answeredBy_replied .., ?_⟩
    refine ⟨hstarts, fun hmeets => ?_⟩
    have hbegins : clutchMeets (startContext 0 first slots start s) r.action = true := by
      rw [← hmeets]
      exact clutchMeets_congr (by rw [startContext_eq]) (by rw [startContext_eq]) r.action
    have hfirst : WinchBegins (handed first r (startContext 0 first slots start s)) _ r WinchStepCompletes :=
      hstarts.1 hbegins
    obtain ⟨-, hends, hatOnce⟩ := hfirst
    rw [winchResidual_handed] at hends
    obtain ⟨hfairlead, hfullyIn, hlineEnd⟩ := beginEnding_cases (handed first r (startContext 0 first slots start s)) r
    have hlevel : (handed first r (startContext 0 first slots start s)).fairleadActive = s.fairleadActive :=
      fairleadActive_congr (by simp [handed, startContext])
    refine ⟨fun hhauls hon hend => ?_, fun hhauls hoff hzero => ?_, fun hpays hmax => ?_,
      fun ⟨hhauls, hon, hend⟩ => hatOnce ⟨hhauls, hlevel.trans hon, hend⟩⟩
    · exact hends _ (hfairlead hhauls (hlevel.trans hon) hend)
    · exact hends _ (hfullyIn hhauls (hlevel.trans hoff) hzero)
    · exact hends _ (hlineEnd hpays hmax)
  · intro h s htimer hop hrun hwaits hstep arrived moved hmeets
    have hmoved : moved = s.modWch arrivedWch := by
      unfold arrivedWch
      simp only [ClutchState.arrived_eq]
      rfl
    rw [hmoved] at hmeets ⊢
    obtain ⟨-, hends, hatOnce⟩ := winchBegins_settleWinch (s := s.modWch arrivedWch) hstep
    exact ⟨_, congrArg Host.Outcome.next (clutchExpiry_begins htimer hop hrun hwaits hstep hmeets), hends, hatOnce⟩

end Sys2Proof.Machine

/-! The cut of the axles to their caps (04 R79), and the assist and the winch at a completion (04 R86, 07 R136, R138). -/

namespace Sys2Proof.Machine

/-! ## Overlay tests (08 R152 to R155) -/

/-- R152 to R155: what the tests of every overlay make of one channel. -/
theorem overlayTested_overlayTests (s : State) (c : Chan) : OverlayTested (overlayTests s) c (s.chan c) := by
  have hholds : overlayCondition s s.cfg.ltc.chan[c].overlay = true ↔ overlayHolds (overlayTests s) c :=
    overlayCondition_iff s c
  have hafter : (overlayTests s).chan c = overlayChannel s c := chan_overlayTests c s
  have hoverlay := overlayChannel_overlay s c
  have hcfg : (overlayTests s).cfg.ltc.chan[c] = s.cfg.ltc.chan[c] := rfl
  have hhazard : (overlayTests s).ltc.hazard = s.ltc.hazard := rfl
  have hnext : overlayNext s c = if s.cfg.ltc.chan[c].overlay.isTurn then
      if s.ltc.hazard.isSome then .hazard
      else if overlayCondition s s.cfg.ltc.chan[c].overlay then (s.chan c).overlay.blinking else .idle
    else if overlayCondition s s.cfg.ltc.chan[c].overlay then .on else .idle := rfl
  unfold OverlayTested
  dsimp only
  rw [hafter, hcfg, hhazard, hoverlay, ← hholds, hnext]
  refine ⟨?_, fun hturn hsome => ?_, fun hturn hnone hc => ?_, fun hturn hnone hc => ?_, fun hturn hc => ?_,
    fun hturn hc => ?_, fun hsame => ?_, fun hnew => ?_⟩
  · unfold overlayChannel
    dsimp only
    split <;> rfl
  · rw [if_pos hturn, if_pos hsome]
  · rw [if_pos hturn, hnone, if_neg (by decide), if_pos hc]
    cases (s.chan c).overlay <;> rfl
  · rw [if_pos hturn, hnone, if_neg (by decide), if_neg hc]
  · rw [if_neg hturn, if_pos hc]
  · rw [if_neg hturn, if_neg hc]
  · exact if_pos (hnext.trans hsame)
  · unfold overlayChannel
    dsimp only
    rw [if_neg fun h => hnew (hnext.symm.trans h)]
    exact levelFormed_formLevel ..

/-- R78, R152: a publication tests every overlay. -/
theorem overlayTested_publishDuties (s : State) (c : Chan) : OverlayTested (publishDuties s) c (s.chan c) := by
  have hchan : (steerOnDuties (endWaitOnZero s)).chan c = s.chan c := by simp [State.chan]
  have h := overlayTested_overlayTests (steerOnDuties (endWaitOnZero s)) c
  rwa [hchan] at h

/-! ## The cut (04 R79) -/

/-- R77, R78: TRC's record with its state and its braking flag formed anew. -/
def Trc.classified (op : OpState) (t : Trc) : Trc :=
  { t with state := classify op t, braking := brakingFlag op { t with state := classify op t } }

theorem classifyTraction_eq (s : State) : classifyTraction s = s.modTrc (Trc.classified s.vsc.op) := rfl

/-- R79: TRC's record after one axle has been cut. -/
def Trc.cut (op : OpState) (drag : Nat) (x : Axle) (cap : Nat) (why : Limiter) (t : Trc) : Trc :=
  if cap < (t.applied.get x).natAbs then
    let t := { t with applied := t.applied.put x (limitTo cap (t.applied.get x)), limiter := t.limiter.put x why }
    { t with mode := t.mode.put x (modeOf op drag t x) }
  else t

theorem cutAxle_eq (x : Axle) (cap : Nat) (why : Limiter) (s : State) :
    cutAxle x cap why s = s.modTrc (Trc.cut s.vsc.op s.cfg.trc.dragBrake x cap why) := by
  by_cases h : cap < (s.trc.applied.get x).natAbs
  · rw [cutAxle, if_pos h]
    exact congrArg (fun t => { s with trc := t }) (if_pos h).symm
  · rw [cutAxle, if_neg h]
    exact congrArg (fun t => { s with trc := t }) (if_neg h).symm

/-- R79: TRC's record after both axles have been cut. -/
def Trc.cutBoth (op : OpState) (drag : Nat) (cap : Axle → Nat) (why : Limiter) (t : Trc) : Trc :=
  ((t.cut op drag .front (cap .front) why).cut op drag .rear (cap .rear) why).classified op

/-- Some axle lies above its cap. -/
def Above (s : State) (cap : Axle → Nat) : Prop := ∃ x, cap x < (s.trc.applied.get x).natAbs

theorem anyAbove_iff (s : State) (cap : Axle → Nat) : anyAbove (cap .front) (cap .rear) s = true ↔ Above s cap := by
  simp only [anyAbove, Bool.or_eq_true, decide_eq_true_eq, Above]
  constructor
  · rintro (h | h)
    · exact ⟨.front, h⟩
    · exact ⟨.rear, h⟩
  · rintro ⟨x | x, h⟩
    · exact .inl h
    · exact .inr h

theorem cutAxles_above {s : State} {cap : Axle → Nat} (h : Above s cap) (why : Limiter) :
    cutAxles (cap .front) (cap .rear) why s =
      publishDuties (s.modTrc (Trc.cutBoth s.vsc.op s.cfg.trc.dragBrake cap why)) := by
  unfold cutAxles
  rw [if_pos ((anyAbove_iff s cap).mpr h), cutAxle_eq, cutAxle_eq, classifyTraction_eq]
  rfl

/-- R75, R79: bringing a duty down to a cap. -/
theorem limitTo_eq (cap : Nat) (d : Int) : limitTo cap d = cutTo cap d := by
  unfold limitTo cutTo
  split
  · omega
  · split <;> omega

theorem cutTo_of_le {cap : Nat} {d : Int} (h : ¬ cap < d.natAbs) : cutTo cap d = d := by
  unfold cutTo
  omega

/-- R76: the mode of an axle that has been cut. -/
theorem modeOf_cut {s : State} {t : Trc} {x : Axle} (hdig : t.digInForce = s.trc.digInForce)
    (htarget : t.target = s.trc.target) : modeOf s.vsc.op s.cfg.trc.dragBrake t x =
      if t.applied.get x = 0 then restMode s x else .drive := by
  unfold modeOf restMode modeAtZero
  rw [hdig, htarget]
  by_cases h : t.applied.get x = 0
  · rw [if_neg (not_not.mpr h), if_pos h]
    cases s.vsc.op with
    | armed => cases digHold s.trc.digInForce x <;> rfl
    | _ => rfl
  · rw [if_pos h, if_neg h]

/-- R79: one axle's cut. -/
theorem Trc.cut_spec {s : State} {t : Trc} (hdig : t.digInForce = s.trc.digInForce) (htarget : t.target = s.trc.target)
    (x : Axle) (cap : Nat) (why : Limiter) :
    let u := t.cut s.vsc.op s.cfg.trc.dragBrake x cap why
    u = { t with applied := u.applied, limiter := u.limiter, mode := u.mode } ∧
    (∀ y, y ≠ x → u.applied.get y = t.applied.get y ∧ u.limiter.get y = t.limiter.get y ∧ u.mode.get y = t.mode.get y) ∧
    u.applied.get x = cutTo cap (t.applied.get x) ∧
    (cap < (t.applied.get x).natAbs → u.limiter.get x = why ∧
      u.mode.get x = if cutTo cap (t.applied.get x) = 0 then restMode s x else .drive) ∧
    (¬ cap < (t.applied.get x).natAbs → u.limiter.get x = t.limiter.get x ∧ u.mode.get x = t.mode.get x) := by
  by_cases h : cap < (t.applied.get x).natAbs
  · have happlied : (t.applied.put x (cutTo cap (t.applied.get x))).get x = cutTo cap (t.applied.get x) := by
      rw [PerAxle.get_put, if_pos rfl]
    have hcut : t.cut s.vsc.op s.cfg.trc.dragBrake x cap why =
        let t' := { t with applied := t.applied.put x (cutTo cap (t.applied.get x)), limiter := t.limiter.put x why }
        { t' with mode := t.mode.put x (modeOf s.vsc.op s.cfg.trc.dragBrake t' x) } := by
      rw [Trc.cut, if_pos h, limitTo_eq]
    dsimp only
    rw [hcut]
    refine ⟨rfl, fun y hy => ?_, happlied, fun _ => ⟨?_, ?_⟩, fun hno => absurd h hno⟩
    · simp only [PerAxle.get_put, if_neg hy, and_self]
    · rw [PerAxle.get_put, if_pos rfl]
    · rw [PerAxle.get_put, if_pos rfl]
      refine Eq.trans (modeOf_cut (s := s) ?_ ?_) ?_
      · exact hdig
      · exact htarget
      · exact congrArg (fun d => if d = 0 then restMode s x else BridgeMode.drive) happlied
  · have hcut : t.cut s.vsc.op s.cfg.trc.dragBrake x cap why = t := if_neg h
    dsimp only
    rw [hcut]
    exact ⟨rfl, fun _ _ => ⟨rfl, rfl, rfl⟩, (cutTo_of_le h).symm, fun hyes => absurd hyes h, fun _ => ⟨rfl, rfl⟩⟩

/-- R79: both axles' cuts. -/
theorem Trc.cutBoth_spec (s : State) (cap : Axle → Nat) (why : Limiter) :
    let u := s.trc.cutBoth s.vsc.op s.cfg.trc.dragBrake cap why
    u = { s.trc with applied := u.applied, limiter := u.limiter, mode := u.mode, state := u.state, braking := u.braking } ∧
    ∀ x, u.applied.get x = cutTo (cap x) (s.trc.applied.get x) ∧
      (cap x < (s.trc.applied.get x).natAbs → u.limiter.get x = why ∧
        u.mode.get x = if cutTo (cap x) (s.trc.applied.get x) = 0 then restMode s x else .drive) ∧
      (¬ cap x < (s.trc.applied.get x).natAbs →
        u.limiter.get x = s.trc.limiter.get x ∧ u.mode.get x = s.trc.mode.get x) := by
  obtain ⟨hf, hfother, hfapplied, hfabove, hfnot⟩ := Trc.cut_spec (s := s) (t := s.trc) rfl rfl .front (cap .front) why
  have hdig : (s.trc.cut s.vsc.op s.cfg.trc.dragBrake .front (cap .front) why).digInForce = s.trc.digInForce := by rw [hf]
  have htarget : (s.trc.cut s.vsc.op s.cfg.trc.dragBrake .front (cap .front) why).target = s.trc.target := by rw [hf]
  obtain ⟨hr, hrother, hrapplied, hrabove, hrnot⟩ := Trc.cut_spec hdig htarget .rear (cap .rear) why
  obtain ⟨hra, hrl, hrm⟩ := hfother .rear (by decide)
  obtain ⟨hfa, hfl, hfm⟩ := hrother .front (by decide)
  rw [hra] at hrapplied hrabove hrnot
  rw [hrl, hrm] at hrnot
  refine ⟨?_, fun x => ?_⟩
  · unfold Trc.cutBoth Trc.classified
    dsimp only
    rw [hr, hf]
  · cases x with
    | front => exact ⟨hfa.trans hfapplied, fun h => ⟨hfl.trans (hfabove h).1, hfm.trans (hfabove h).2⟩,
        fun h => ⟨hfl.trans (hfnot h).1, hfm.trans (hfnot h).2⟩⟩
    | rear => exact ⟨hrapplied, hrabove, hrnot⟩

/-- R79: a cut drives no bridge. -/
theorem duty_cutAxles {s : State} (cap : Axle → Nat) (why : Limiter) {b : Bridge}
    (hb : (cutAxles (cap .front) (cap .rear) why s).duty b ≠ 0) : s.duty b ≠ 0 := by
  have haxle (x : Axle) (hx : (cutAxles (cap .front) (cap .rear) why s).trc.applied.get x ≠ 0) :
      s.trc.applied.get x ≠ 0 := by
    have hle := natAbs_cutAxles_le (cap .front) (cap .rear) why s x
    omega
  cases b with
  | front => exact Int.natAbs_ne_zero.mpr (haxle .front (Int.natAbs_ne_zero.mp hb))
  | rear => exact Int.natAbs_ne_zero.mpr (haxle .rear (Int.natAbs_ne_zero.mp hb))
  | winch => simpa [State.duty] using hb

theorem sameScan_cutAxles {s : State} {cap : Axle → Nat} (h : Above s cap) (why : Limiter) :
    SameScan s (cutAxles (cap .front) (cap .rear) why s) := by
  rw [cutAxles_above h]
  exact publishDuties_scan rfl

/-! ## The cut with its completion test (01 R13, 04 R79) -/

/-- What the cut finds as the event found it: all but the winch, a wait that has ended with the winch's duty, the assist
cap, and the units, levels and notices that stand around the axles. -/
structure CutFrom (s q : State) (w : Wch) : Prop where
  vsc : q.vsc = s.vsc
  stc : q.stc = s.stc
  wch : q.wch = w
  clutch : w.clutch = s.wch.clutch
  trc : q.trc = { s.trc with assist := q.trc.assist }
  scan : SameScan { s with wch := w } q
  unit : (q.unit 0).state = (s.unit 0).state
  stores : SameStores s q

section
variable {s q : State} {w : Wch} (h : CutFrom s q w) (cap : Axle → Nat) (why : Limiter)
include h

theorem CutFrom.cfg : q.cfg = s.cfg := h.stores.1

theorem CutFrom.applied : q.trc.applied = s.trc.applied := by rw [h.trc]

theorem CutFrom.above_iff : Above q cap ↔ Above s cap := by rw [Above, Above, h.applied]

/-- R79: the record that the cut leaves in TRC. -/
theorem CutFrom.cut_trc (habove : Above s cap) :
    (cutAxles (cap .front) (cap .rear) why q).trc = q.trc.cutBoth q.vsc.op q.cfg.trc.dragBrake cap why := by
  rw [cutAxles_above ((h.above_iff cap).mpr habove)]
  simp

theorem CutFrom.cut_applied (habove : Above s cap) (x : Axle) :
    (cutAxles (cap .front) (cap .rear) why q).trc.applied.get x = cutTo (cap x) (s.trc.applied.get x) := by
  rw [h.cut_trc cap why habove, ← h.applied]
  exact ((Trc.cutBoth_spec q cap why).2 x).1

/-- R13: what completes a shutdown after the cut. -/
theorem CutFrom.done_iff (habove : Above s cap) :
    ShutdownDone (cutAxles (cap .front) (cap .rear) why q) ↔ CutCompletes s cap := by
  have hfront := h.cut_applied cap why habove .front
  have hrear := h.cut_applied cap why habove .rear
  have hunit : (cutAxles (cap .front) (cap .rear) why q).unit 0 = q.unit 0 := by simp [State.unit]
  have hzero : (∀ x, cutTo (cap x) (s.trc.applied.get x) = 0) ↔
      (cutAxles (cap .front) (cap .rear) why q).trc.applied = ⟨0, 0⟩ := by
    rw [PerAxle.eq_mk_iff]
    constructor
    · exact fun hall => ⟨hfront.trans (hall .front), hrear.trans (hall .rear)⟩
    · rintro ⟨hf, hr⟩ (x | x)
      · exact hfront.symm.trans hf
      · exact hrear.symm.trans hr
  have hclutch : q.wch.clutch = s.wch.clutch := by rw [h.wch, h.clutch]
  unfold ShutdownDone CutCompletes
  rw [hunit, h.unit, ← hzero]
  simp only [cutAxles_frame, h.vsc, hclutch]
  exact ⟨fun ⟨hop, hall, hidle, hstill⟩ => ⟨hop, habove, hall, hidle, hstill⟩,
    fun ⟨hop, _, hall, hidle, hstill⟩ => ⟨hop, hall, hidle, hstill⟩⟩

/-- R79, R13: nothing, a cut, or a cut that completes a shutdown. -/
theorem CutFrom.cases :
    (¬ Above s cap ∧ ¬ CutCompletes s cap ∧ cutAndTest (cap .front) (cap .rear) why q = q) ∨
    (Above s cap ∧ ¬ CutCompletes s cap ∧
      cutAndTest (cap .front) (cap .rear) why q = cutAxles (cap .front) (cap .rear) why q) ∨
    (Above s cap ∧ CutCompletes s cap ∧
      cutAndTest (cap .front) (cap .rear) why q = enterParked .shutdownComplete (cutAxles (cap .front) (cap .rear) why q)) := by
  have hany := (anyAbove_iff q cap).trans (h.above_iff cap)
  unfold cutAndTest
  by_cases habove : Above s cap
  · rw [if_pos (hany.mpr habove)]
    by_cases hdone : CutCompletes s cap
    · exact .inr (.inr ⟨habove, hdone, completionTest_done ((h.done_iff cap why habove).mpr hdone)⟩)
    · exact .inr (.inl ⟨habove, hdone, completionTest_not fun hc => hdone ((h.done_iff cap why habove).mp hc)⟩)
  · exact .inl ⟨habove, fun hc => habove hc.2.1, if_neg fun hc => habove (hany.mp hc)⟩

/-- R26: SCN after the cut. -/
theorem CutFrom.cut_scan (habove : Above s cap) :
    SameScan { s with wch := w } (cutAxles (cap .front) (cap .rear) why q) :=
  h.scan.trans (sameScan_cutAxles ((h.above_iff cap).mpr habove) why) fun _ => duty_cutAxles cap why

/-- R77, R78: the cut forms the traction state and the braking flag anew. -/
theorem CutFrom.cut_traction (habove : Above s cap) : TractionOk (cutAxles (cap .front) (cap .rear) why q) := by
  have hvsc : (cutAxles (cap .front) (cap .rear) why q).vsc = q.vsc := by simp
  refine (classified_iff _).mp ⟨?_, ?_⟩
  · rw [h.cut_trc cap why habove, hvsc]
    rfl
  · rw [h.cut_trc cap why habove, hvsc]
    rfl

/-- R96, R98: STC follows the cut. -/
theorem CutFrom.cut_steers (habove : Above s cap) :
    SteerFollowsDuties s (cutAxles (cap .front) (cap .rear) why q) := by
  have hcut := publishDuties_steers (q.modTrc (Trc.cutBoth q.vsc.op q.cfg.trc.dragBrake cap why))
  rw [← cutAxles_above ((h.above_iff cap).mpr habove)] at hcut
  exact hcut.congr (congrArg Vsc.op h.vsc.symm) h.cfg.symm h.stc.symm rfl rfl

/-- R16: an entry to PARKED after the cut. -/
theorem CutFrom.parksFrom (habove : Above s cap) : ParksFrom s (cutAxles (cap .front) (cap .rear) why q) := by
  obtain ⟨hcfg, hstore, hlmx, hpending⟩ := h.stores
  have htrc : q.trc.cutBoth q.vsc.op q.cfg.trc.dragBrake cap why = _ := (Trc.cutBoth_spec q cap why).1
  have hsteer := h.cut_steers cap why habove
  exact
    { comparator := by simp [h.vsc]
      measured := by simp [h.vsc]
      scn := (h.cut_scan cap why habove).1
      digRequested := by rw [h.cut_trc cap why habove, htrc, h.trc]
      digInForce := by rw [h.cut_trc cap why habove, htrc, h.trc]
      ratio := by rw [h.cut_trc cap why habove, htrc, h.trc]
      mode := by
        unfold SteerFollowsDuties at hsteer
        rw [hsteer]
      period := by
        unfold SteerFollowsDuties at hsteer
        rw [hsteer]
      passes := ⟨by simp [hcfg], by simp [hstore], by simp [hlmx], by simp [hpending]⟩ }

/-- R79: what the cut and its completion test leave. -/
theorem CutFrom.axlesCut : AxlesCut s (cutAndTest (cap .front) (cap .rear) why q) cap why w := by
  unfold AxlesCut
  obtain ⟨hno, hdone, heq⟩ | ⟨habove, hdone, heq⟩ | ⟨habove, hdone, heq⟩ := h.cases cap why
  · rw [heq]
    refine ⟨fun x => ?_, fun _ => ⟨h.vsc, h.scan, h.stc, h.wch, h.trc⟩, fun hyes => absurd hyes hno,
      fun hyes => absurd hyes hno, fun hyes => absurd hyes hdone⟩
    rw [h.applied, cutTo_of_le fun hc => hno ⟨x, hc⟩]
  · have htrc := h.cut_trc cap why habove
    obtain ⟨hkept, haxles⟩ := Trc.cutBoth_spec q cap why
    rw [← htrc] at hkept haxles
    rw [heq]
    refine ⟨h.cut_applied cap why habove, fun hno => absurd habove (not_exists.mpr hno),
      fun _ => h.cut_traction cap why habove, fun _ _ => ⟨?_, h.cut_scan cap why habove, ?_, ?_, ?_, fun x => ?_⟩,
      fun hyes => absurd hyes hdone⟩
    · simp [h.vsc]
    · exact h.cut_steers cap why habove
    · simp [h.wch]
    · rw [(cutAxles_kept _ _ _ _).1]
      exact hkept.trans (congrArg (fun t : Trc => { t with
        applied := (cutAxles (cap .front) (cap .rear) why q).trc.applied
        limiter := (cutAxles (cap .front) (cap .rear) why q).trc.limiter
        mode := (cutAxles (cap .front) (cap .rear) why q).trc.mode
        state := (cutAxles (cap .front) (cap .rear) why q).trc.state
        braking := (cutAxles (cap .front) (cap .rear) why q).trc.braking }) h.trc)
    · obtain ⟨-, hcut, hnot⟩ := haxles x
      have hrest : restMode q x = restMode s x := by
        unfold restMode
        rw [h.vsc, h.cfg, h.trc]
      have hlimiter : q.trc.limiter = s.trc.limiter := by rw [h.trc]
      have hmode : q.trc.mode = s.trc.mode := by rw [h.trc]
      rw [h.applied, hrest] at hcut
      rw [h.applied, hlimiter, hmode] at hnot
      exact ⟨hcut, hnot⟩
  · have hwch : (cutAxles (cap .front) (cap .rear) why q).wch = w := by simp [h.wch]
    rw [heq]
    refine ⟨fun x => ?_, fun hno => absurd habove (not_exists.mpr hno), fun _ => tractionOk_enterParked _ _,
      fun _ hnot => absurd hdone hnot, fun _ => ?_⟩
    · rw [enterParked_trc, hdone.2.2.1 x]
      cases x <;> rfl
    · rw [← hwch]
      exact parksBlocks_enterParked (h.parksFrom cap why habove) _

end

/-! ## The assist step (04 R86) -/

/-- R13: the notice of a completed shutdown. -/
theorem completed_notices {s q : State} (hnq : q.nq = s.nq) (hpgc : q.pgc = s.pgc) (hop : q.vsc.op = .shuttingDown) :
    SameNotices (enterParked .shutdownComplete q) (offer (.opstate .parked .shuttingDown .shutdownComplete) s) := by
  have hentry := sameNotices_enterParked .shutdownComplete q
  rw [hop] at hentry
  have hsame : SameNotices q s := .of_eq hnq hpgc
  exact hentry.trans (hsame.offer _)

/-- R86: what the cut of a fallen assist cap finds. -/
theorem cutFrom_assist (s : State) (cap : Nat) :
    CutFrom s (s.modTrc fun t => { t with assist := some cap }) s.wch :=
  ⟨rfl, rfl, rfl, rfl, rfl, .of_eq rfl fun b => by cases b <;> rfl, rfl, rfl, rfl, rfl, rfl⟩

/-- R86: a slack line lowers the cap, and the axles are cut to it. -/
theorem assistStep_falls {s : State} {cap : Nat} (hassist : s.trc.assist = some cap)
    (hkind : s.scn.results.kind = some .continuous) (hslack : s.scn.results.bridge.winch < s.cfg.trc.slackLevel) :
    assistStep s = cutAndTest (cap - 50) (cap - 50) .assist (s.modTrc fun t => { t with assist := some (cap - 50) }) := by
  simp only [assistStep, hassist, hkind, if_true, hslack]

theorem assistStep_climbs {s : State} {cap : Nat} (hassist : s.trc.assist = some cap)
    (hkind : s.scn.results.kind = some .continuous) (htaut : s.cfg.trc.slackLevel ≤ s.scn.results.bridge.winch) :
    assistStep s = { s with trc := { s.trc with assist := some (min 1000 (cap + 25)) } } := by
  simp only [assistStep, hassist, hkind, if_true, Nat.not_lt.mpr htaut, if_false, Nat.min_comm]
  rfl

theorem assistStep_still {s : State} (h : s.trc.assist = none ∨ s.scn.results.kind ≠ some .continuous) :
    assistStep s = s := by
  unfold assistStep
  split
  · rename_i cap hcap
    exact if_neg (h.resolve_left (by rw [hcap]; nofun))
  · rfl

/-- R79: what the cut passes by. -/
theorem passes_cutAxles {s : State} {cap : Axle → Nat} (h : Above s cap) (why : Limiter) :
    Passes s (cutAxles (cap .front) (cap .rear) why s) := by
  rw [cutAxles_above h]
  exact passes_publishTrc s _

theorem overlayTested_cutAxles {s : State} {cap : Axle → Nat} (h : Above s cap) (why : Limiter) (c : Chan) :
    OverlayTested (cutAxles (cap .front) (cap .rear) why s) c (s.chan c) := by
  rw [cutAxles_above h]
  exact overlayTested_publishDuties _ c

theorem cutAxles_hazard {s : State} {cap : Axle → Nat} (h : Above s cap) (why : Limiter) :
    (cutAxles (cap .front) (cap .rear) why s).ltc.hazard = s.ltc.hazard := by
  rw [cutAxles_above h, publishDuties_hazard]
  rfl

/-! ## The winch at a completion (07 R136, R138) -/

theorem loadMet_iff (w : Wch) (e : EndOn) : loadMet w e = true ↔ ∃ mA, e = .load mA ∧ mA ≤ w.lastCurrent := by
  cases e <;> simp [loadMet]

/-- R136: the winch's record with the current that a completion reads. -/
def readWch (current : Nat) (w : Wch) : Wch := { w with lastCurrent := current }

/-- R136, R138: a completion in a powered step. -/
theorem winchCompletion_powered {s : State} {h : InHand WinchRec} (hkind : s.scn.results.kind = some .continuous)
    (hst : s.wch.state = .runningPowered) (hstep : s.wch.step = some h) :
    let q := reportedAs s (readWch s.scn.results.bridge.winch s.wch) h
    winchCompletion s = if loadMet q.wch h.step.endOn then settleWinch (q, .completes) else stallTiming q := by
  have hread : reportProgress (s.modWch fun w => { w with lastCurrent := s.scn.results.bridge.winch }) =
      reportedAs s (readWch s.scn.results.bridge.winch s.wch) h :=
    reportProgress_eq (f := readWch s.scn.results.bridge.winch) hstep
  have hhand : (reportedAs s (readWch s.scn.results.bridge.winch s.wch) h).wch.step = some h := hstep
  unfold winchCompletion
  rw [if_pos ⟨hkind, hst⟩, hread]
  dsimp only
  rw [hhand]

/-- R138: a stall is timed from the current read. -/
theorem stallTiming_eq (s : State) : stallTiming s = { s with wch := { s.wch with
    stall := if s.cfg.wch.stallCurrent ≤ s.wch.lastCurrent then some (s.wch.stall.getD s.cfg.wch.stallTime) else none } } := by
  by_cases h : s.cfg.wch.stallCurrent ≤ s.wch.lastCurrent
  · rw [if_pos h]
    exact congrArg (fun w => { s with wch := w }) (if_pos h)
  · rw [if_neg h]
    exact congrArg (fun w => { s with wch := w }) (if_neg h)

/-- Settles O30: the cut of a fallen assist cap, and the LOAD test before the stall timing. -/
theorem completionStepsAssistAndWinch : Obligations.CompletionStepsAssistAndWinch := by
  intro s current
  refine ⟨assistStep_still, fun cap hassist hkind => ⟨assistStep_climbs hassist hkind, fun hslack => ?_⟩, fun hidle => ?_,
    fun h hkind hst hstep => ?_⟩
  · have hfrom := cutFrom_assist s (cap - 50)
    have hcases := hfrom.cases (fun _ => cap - 50) .assist
    have hcut := hfrom.axlesCut (fun _ => cap - 50) .assist
    have hset : Passes s (s.modTrc fun t => { t with assist := some (cap - 50) }) := .of_eq rfl rfl rfl rfl rfl rfl rfl
    rw [assistStep_falls hassist hkind hslack]
    obtain ⟨hno, hdone, heq⟩ | ⟨habove, hdone, heq⟩ | ⟨habove, hdone, heq⟩ := hcases
    · refine ⟨?_, hcut, ⟨fun _ => ?_, fun hyes => absurd hyes hno, fun hyes => absurd hyes hdone⟩, ?_⟩
      · rw [heq]; rfl
      · rw [heq]; rfl
      · rw [heq]
        exact ⟨rfl, rfl, fun _ => .of_eq rfl rfl, fun hyes => absurd hyes hdone, rfl, rfl, hset.stores⟩
    · have hall := hset.trans (passes_cutAxles ((hfrom.above_iff _).mpr habove) .assist)
      have hpgc : (cutAxles (cap - 50) (cap - 50) .assist (s.modTrc fun t => { t with assist := some (cap - 50) })).pgc =
          s.pgc := by simp
      rw [heq] at hcut ⊢
      refine ⟨(cutAxles_kept _ _ _ _).1, hcut, ⟨fun hno => absurd habove hno, fun _ _ => ⟨?_, fun c => ?_⟩,
        fun hyes => absurd hyes hdone⟩, by rw [hpgc], ?_, fun _ => .of_eq (by simp) hpgc, fun hyes => absurd hyes hdone,
        hall.sup, hall.lnk, hall.stores⟩
      · exact cutAxles_hazard ((hfrom.above_iff _).mpr habove) .assist
      · exact overlayTested_cutAxles ((hfrom.above_iff _).mpr habove) .assist c
      · rw [State.unit, hpgc, State.unit]
    · have hall := hset.trans (passes_cutAxles ((hfrom.above_iff _).mpr habove) .assist)
      have hparks := hfrom.parksFrom (fun _ => cap - 50) .assist habove
      have hassist' : (cutAxles (cap - 50) (cap - 50) .assist
          (s.modTrc fun t => { t with assist := some (cap - 50) })).trc.assist = some (cap - 50) := (cutAxles_kept _ _ _ _).1
      have hpgc : (cutAxles (cap - 50) (cap - 50) .assist (s.modTrc fun t => { t with assist := some (cap - 50) })).pgc =
          s.pgc := by simp
      have hwch : (cutAxles (cap - 50) (cap - 50) .assist (s.modTrc fun t => { t with assist := some (cap - 50) })).wch =
          s.wch := by simp
      have henters := entersParked_enterParked hparks hall .shutdownComplete
      rw [hwch] at henters
      rw [heq] at hcut ⊢
      refine ⟨?_, hcut, ⟨fun hno => absurd habove hno, fun _ hnot => absurd hdone hnot, fun _ => henters⟩, ?_, ?_,
        fun hnot => absurd hdone hnot, fun _ => ?_, ?_⟩
      · rw [enterParked_trc]
        exact hassist'
      · rw [enterParked_useCount, hpgc]
      · rw [enterParked_context, State.unit, hpgc, State.unit]
      · exact completed_notices (by simp) hpgc (by simpa using hdone.1)
      · have hafter := hall.trans (passes_enterParked .shutdownComplete _)
        exact ⟨hafter.sup, hafter.lnk, hafter.stores⟩
  · unfold winchCompletion
    exact if_neg fun hc => hidle.elim (fun hk => hk hc.1) fun hs => hs hc.2
  · intro read
    have hcompletion := winchCompletion_powered hkind hst hstep
    dsimp only at hcompletion
    refine ⟨fun mA hload hmet => ?_, fun hnot => ?_⟩
    · rw [hcompletion, if_pos ((loadMet_iff _ _).mpr ⟨mA, hload, hmet⟩)]
      have hprogress : progressOf (readWch current s.wch) h = current := by
        rw [progressOf, hload]
        rfl
      have hq : reportedAs s (readWch current s.wch) h = read.modUnit 0 fun x => { x with progress := current } := by
        rw [reportedAs, hprogress]
        rfl
      have hcompletes := stepCompletes_settleWinch keepsBegun_id (reportedAs s (readWch current s.wch) h)
      rw [hq] at hcompletes ⊢
      exact hcompletes
    · have hno : ¬ loadMet (reportedAs s (readWch current s.wch) h).wch h.step.endOn = true := fun hyes => by
        obtain ⟨mA, hload, hmet⟩ := (loadMet_iff _ _).mp hyes
        exact absurd (hnot mA hload) (Nat.not_lt.mpr hmet)
      rw [hcompletion, if_neg hno, stallTiming_eq]
      rfl

end Sys2Proof.Machine

/-! The end of a light unit (08 R150, R151) and HALT (06 R116). -/

namespace Sys2Proof.Machine

/-! ## A light unit ends (08 R151) -/

/-- R151, R155: the record of a channel whose unit has ended. -/
def endedChannel (cfg : ChanCfg) (hazard : Option Nat) (ch : Channel) : Channel :=
  formLevel cfg hazard { ch with step := none, frames := 0, source := .manual }

theorem endLightWith_chan (c : Chan) (cause : EndCause) (residual : Nat) (s : State) (d : Chan) :
    (endLightWith c cause residual s).chan d =
      if d = c then endedChannel s.cfg.ltc.chan[c] s.ltc.hazard (s.chan c) else s.chan d := by
  have hltc (q : State) (f : Channel → Channel) : ((endUnit (unitOf c) cause residual (s.chan c).program q).modChan c f).cfg =
      q.cfg ∧ ((endUnit (unitOf c) cause residual (s.chan c).program q).modChan c f).ltc.hazard = q.ltc.hazard := by
    simp [State.modChan]
  have hchan (q : State) (d : Chan) : (endUnit (unitOf c) cause residual (s.chan c).program q).chan d = q.chan d := by
    simp [State.chan]
  rw [endLightWith, chan_formDesired, (hltc s _).1, (hltc s _).2, State.chan_modChan_self, State.chan_modChan, hchan, hchan]
  split <;> rfl

theorem endLightWith_hazard (c : Chan) (cause : EndCause) (residual : Nat) (s : State) :
    (endLightWith c cause residual s).ltc.hazard = s.ltc.hazard := by
  simp [endLightWith, formDesired, State.modChan]

theorem endLightWith_pgc (c : Chan) (cause : EndCause) (residual : Nat) (s : State) :
    (endLightWith c cause residual s).pgc = (endUnit (unitOf c) cause residual (s.chan c).program s).pgc := by
  simp [endLightWith]

theorem endLightWith_context (c : Chan) (cause : EndCause) (residual : Nat) (s : State) (v : UnitNo) :
    { (endLightWith c cause residual s).unit v with stacked := none } =
      if v = unitOf c then { s.unit (unitOf c) with state := .idle, haltCause := none, stacked := none }
      else { s.unit v with stacked := none } := by
  rw [State.unit, endLightWith_pgc, ← endUnit_context (unitOf c) cause residual (s.chan c).program s v, State.unit]

/-- R161: an ending status can only stand in its own unit's context. -/
theorem endLightWith_unit_ne (c : Chan) (cause : EndCause) (residual : Nat) (s : State) {v : UnitNo} (hv : v ≠ unitOf c) :
    (endLightWith c cause residual s).unit v = s.unit v := by
  have hreleased : (released (unitOf c) s).unit v = s.unit v := (released_unit ..).trans (if_neg hv)
  rw [State.unit, endLightWith_pgc, ← State.unit, endUnit_endingOf]
  obtain ⟨-, h⟩ | ⟨-, h⟩ := offerEnding_cases
    (endingOf s (unitOf c) cause residual (s.chan c).program) (released (unitOf c) s) <;> rw [h]
  · rw [State.unit_modNq, hreleased]
  · exact (State.unit_modUnit_ne _ _ hv).trans hreleased

theorem sameNotices_endLightWith (c : Chan) (cause : EndCause) (residual : Nat) (s : State) :
    SameNotices (endLightWith c cause residual s)
      (offerEnding (endingOf s (unitOf c) cause residual (s.chan c).program) s) := by
  have hformed (q : State) (f : Channel → Channel) : SameNotices (formDesired c (q.modChan c f)) q :=
    .of_eq (by simp) (by simp)
  exact (hformed _ _).trans (sameNotices_endUnit ..)

theorem endLightWith_useCount (c : Chan) (cause : EndCause) (residual : Nat) (s : State) (slot : Slot) :
    (endLightWith c cause residual s).pgc.useCount[slot] =
      s.pgc.useCount[slot] - if slot ∈ (s.unit (unitOf c)).walked then 1 else 0 := by
  rw [endLightWith_pgc, (endUnit_units ..).1, getElem_changeUse]
  split <;> simp

/-! ## HALT (06 R116) -/

theorem chanOf_unitOf (c : Chan) : chanOf (unitOf c) = some c := by
  unfold chanOf
  rw [dif_pos (unitOf_ne_zero c)]
  exact congrArg some (Fin.pred_succ c)

/-- R150: the frames of a step not yet run. -/
def framesLeft (ch : Channel) : Nat := match ch.step with
  | some h => h.step.fade + h.step.hold - ch.frames
  | none => 0

theorem lightResidual_eq (ch : Channel) : lightResidual ch = framesLeft ch := rfl

/-- R150: what the status of a HALT says is left (log 37). -/
theorem haltedResidual_spec (due : Bool) (ch : Channel) :
    haltedResidual due ch = framesLeft ch ∨ (haltedResidual due ch = 0 ∧ framesLeft ch ≤ 1) := by
  unfold haltedResidual
  cases hstep : ch.step with
  | none => exact .inl (by simp [framesLeft, hstep])
  | some h =>
    dsimp only
    split
    · rename_i hdue
      have hleft : framesLeft ch = h.step.fade + h.step.hold - ch.frames := by rw [framesLeft, hstep]
      exact .inr ⟨rfl, by omega⟩
    · exact .inl rfl

/-- R116: HALT of a unit by its state. -/
theorem onHalt_idle {s : State} {b : Byte} {u : UnitNo} (hb : b.toNat = u.val) (hst : (s.unit u).state = .idle) :
    onHalt s [b] = (s, doneWith .quiet []) := by
  simp only [onHalt, unitNo_eq hb, hst]

theorem onHalt_halting {s : State} {b : Byte} {u : UnitNo} (hb : b.toNat = u.val) (hst : (s.unit u).state = .halting) :
    onHalt s [b] = (s, doneWith .halting []) := by
  simp only [onHalt, unitNo_eq hb, hst]

theorem onHalt_running {s : State} {b : Byte} {u : UnitNo} (hb : b.toNat = u.val) (hst : (s.unit u).state = .running) :
    onHalt s [b] = (haltUnit u s, doneWith (if haltWaits s u then .halting else .ended) []) := by
  simp only [onHalt, unitNo_eq hb, hst]

theorem onHalt_refused {s : State} {b : Byte} (hb : 10 < b.toNat) : onHalt s [b] = (s, refusedWith .badValue []) := by
  simp only [onHalt, unitNo_eq_none hb]

/-- R117: a halt of a running winch unit. -/
theorem winchHalt_running {s : State} (cause : EndCause) (hst : (s.unit 0).state = .running) : winchHalt cause s =
    if s.wch.clutch.moving then s.modUnit 0 fun x => { x with state := .halting, haltCause := some cause }
    else winchEnds cause s := by
  unfold winchHalt
  rw [hst]

/-- Settles O42: a unit that does not run changes nothing; the winch unit waits for a moving clutch; the others end. -/
theorem haltByUnit : Obligations.HaltByUnit := by
  intro tag b s hfree
  refine ⟨fun hb => ?_, fun u hb => ⟨fun hst => ?_, fun hst => ?_, fun hst hu hmoving => ?_, fun hst hu hstill => ?_,
    fun c hst hu => ?_⟩⟩
  · exact congrArg _ (frameArrives_unchanged .halt tag [b] s _ hfree (onHalt_refused hb))
  · exact congrArg _ (frameArrives_unchanged .halt tag [b] s _ hfree (onHalt_idle hb hst))
  · exact congrArg _ (frameArrives_unchanged .halt tag [b] s _ hfree (onHalt_halting hb hst))
  · subst hu
    have hhalts : onHalt (s.modLnk (lnkOf ⟨0x24, tag, [b]⟩)) [b] =
        ((s.modUnit 0 fun x => { x with state := .halting, haltCause := some .halted }).modLnk (lnkOf ⟨0x24, tag, [b]⟩),
          doneWith .halting []) := by
      rw [onHalt_running (s := s.modLnk (lnkOf ⟨0x24, tag, [b]⟩)) hb hst]
      have hwaits : haltWaits (s.modLnk (lnkOf ⟨0x24, tag, [b]⟩)) 0 = true := by
        simp [haltWaits, hmoving]
      rw [hwaits, if_pos rfl]
      exact congrArg (·, doneWith .halting [])
        ((winchHalt_running (s := s.modLnk (lnkOf ⟨0x24, tag, [b]⟩)) .halted hst).trans (if_pos hmoving))
    exact congrArg Host.Outcome.next (frameArrives_replied .halt tag [b] s hfree hhalts)
  · subst hu
    have hhalts : onHalt (s.modLnk (lnkOf ⟨0x24, tag, [b]⟩)) [b] =
        (winchEnds .halted (s.modLnk (lnkOf ⟨0x24, tag, [b]⟩)), doneWith .ended []) := by
      rw [onHalt_running (s := s.modLnk (lnkOf ⟨0x24, tag, [b]⟩)) hb hst]
      have hwaits : haltWaits (s.modLnk (lnkOf ⟨0x24, tag, [b]⟩)) 0 = false := by
        simp [haltWaits, hstill]
      rw [hwaits, if_neg nofun]
      exact congrArg (·, doneWith .ended [])
        ((winchHalt_running (s := s.modLnk (lnkOf ⟨0x24, tag, [b]⟩)) .halted hst).trans
          (if_neg (by rw [Bool.not_eq_true]; exact hstill)))
    refine ⟨_, congrArg Host.Outcome.next (frameArrives_replied .halt tag [b] s hfree hhalts), answeredBy_replied .., ?_⟩
    have hends := (programEnds_residual (cause := .halted) (by nofun) (s.modLnk (lnkOf ⟨0x24, tag, [b]⟩))).linked s.lnk
    obtain ⟨hunit, -, hwch, -, -, -, hstores, hlevels, hlights, hnot, -⟩ := hends
    refine ⟨hunit, (congrArg Wch.state hwch :), (congrArg Wch.step hwch :), (congrArg Wch.applied hwch :),
      (congrArg Wch.position hwch :), hstores, hlevels, hlights, fun hop => ?_⟩
    obtain ⟨hnotices, hended, htrc, hscan, hvsc, -, hstc, hltc, -⟩ := hnot fun hc => hop hc.1
    exact ⟨hnotices.1, hvsc, hstc, hended, hltc, htrc, hscan⟩
  · subst hu
    have hwaits : haltWaits (s.modLnk (lnkOf ⟨0x24, tag, [b]⟩)) (unitOf c) = false := by
      simp [haltWaits, unitOf_ne_zero]
    have hhalts := onHalt_running (s := s.modLnk (lnkOf ⟨0x24, tag, [b]⟩)) hb hst
    rw [hwaits, if_neg nofun, haltUnit, chanOf_unitOf] at hhalts
    dsimp only at hhalts
    obtain ⟨residual, hresidual⟩ : ∃ residual, haltedResidual (Config.frameDue
        (s.modLnk (lnkOf ⟨0x24, tag, [b]⟩)).choice) ((s.modLnk (lnkOf ⟨0x24, tag, [b]⟩)).chan c) = residual := ⟨_, rfl⟩
    have hleft : residual = framesLeft (s.chan c) ∨ (residual = 0 ∧ framesLeft (s.chan c) ≤ 1) :=
      hresidual ▸ haltedResidual_spec _ (s.chan c)
    rw [haltChannel, hresidual] at hhalts
    have hframe := endLightWith_frame c .halted residual (s.modLnk (lnkOf ⟨0x24, tag, [b]⟩)).nextChoice
    obtain ⟨hvsc, hscn, hsup, htrc, hstc, hwch, hlmx, -, hcfg, -, hpending, hstore⟩ := hframe
    have hchan := endLightWith_chan c .halted residual (s.modLnk (lnkOf ⟨0x24, tag, [b]⟩)).nextChoice
    have hself := (hchan c).trans (if_pos rfl)
    refine ⟨_, congrArg Host.Outcome.next (frameArrives_replied .halt tag [b] s hfree hhalts), answeredBy_replied ..,
      ⟨residual, hleft, ?_⟩, ?_, fun v hv => ?_, ?_, fun slot => ?_, ?_, fun d hd => ?_, hvsc, hscn, hsup, htrc, hstc, hwch,
      endLightWith_hazard .., hcfg, hstore, hlmx, hpending⟩
    · have hsame : SameNotices (s.modLnk (lnkOf ⟨0x24, tag, [b]⟩)).nextChoice s := .of_eq rfl rfl
      obtain ⟨hnq, hstacked⟩ := (sameNotices_endLightWith c .halted residual
        (s.modLnk (lnkOf ⟨0x24, tag, [b]⟩)).nextChoice).trans (hsame.offerEnding _)
      exact ⟨hnq, hstacked⟩
    · exact (endLightWith_context c .halted residual (s.modLnk (lnkOf ⟨0x24, tag, [b]⟩)).nextChoice (unitOf c)).trans
        (if_pos rfl)
    · exact endLightWith_unit_ne c .halted residual (s.modLnk (lnkOf ⟨0x24, tag, [b]⟩)).nextChoice hv
    · rw [replied_chan, hself]
      exact levelFormed_formLevel ..
    · exact endLightWith_useCount c .halted residual (s.modLnk (lnkOf ⟨0x24, tag, [b]⟩)).nextChoice slot
    · rw [replied_chan, hself]
      rfl
    · exact (hchan d).trans (if_neg hd)

end Sys2Proof.Machine

/-! START by the unit's state (06 R113, R114). -/

namespace Sys2Proof.Machine

/-! ## The checks (06 R113) -/

theorem slotNo_eq {f : Byte} {first : Slot} (hf : f.toNat = first.val) : slotNo f = some first := by
  unfold slotNo
  rw [dif_pos (hf ▸ first.isLt)]
  exact congrArg some (Fin.ext hf)

theorem slotNo_eq_none {f : Byte} (hf : 127 < f.toNat) : slotNo f = none := dif_neg (by omega)

theorem onStart_refused {s : State} {b f start : Byte} (h : 10 < b.toNat ∨ 127 < f.toNat) :
    onStart s [b, f, start] = (s, refusedWith .badValue []) := by
  unfold onStart
  dsimp only
  split
  · rename_i u first hu hfirst
    obtain hb | hf := h
    · rw [unitNo_eq_none hb] at hu
      contradiction
    · rw [slotNo_eq_none hf] at hfirst
      contradiction
  · rfl

section
variable {s : State} {b f start : Byte} {u : UnitNo} {first : Slot} (hb : b.toNat = u.val) (hf : f.toNat = first.val)
include hb hf

theorem onStart_status {e : EndingStatus} (hout : s.outstanding u = some e) :
    onStart s [b, f, start] = (takeOutstanding u s, ⟨.status, e.bytes⟩) := by
  simp only [onStart, unitNo_eq hb, slotNo_eq hf, hout, answerStatus]

theorem onStart_busy (hout : s.outstanding u = none) (hactive : (s.unit u).state ≠ .idle) :
    onStart s [b, f, start] = (s, busyWith s (Config.busySide 0x22) u) := by
  simp only [onStart, unitNo_eq hb, slotNo_eq hf, hout, hactive, if_false]

theorem onStart_idle (hout : s.outstanding u = none) (hidle : (s.unit u).state = .idle) :
    onStart s [b, f, start] = startIdle s u first start := by
  simp only [onStart, unitNo_eq hb, slotNo_eq hf, hout, hidle, if_true]

end

theorem startIdle_forbidden {s : State} {u : UnitNo} {r : Reason} (h : startForbidden s u = some r) (first : Slot)
    (tag : Byte) : startIdle s u first tag = (s, refusedWith r []) := by
  simp only [startIdle, h]

theorem startIdle_failed {s : State} {u : UnitNo} {first slot : Slot} {detail : WalkDetail}
    (h : startForbidden s u = none) (hwalk : walk s u first = .failed slot detail) (tag : Byte) :
    startIdle s u first tag = (s, refusedWith .badProgram (u8 slot.val ++ u8 detail.code)) := by
  simp only [startIdle, h, hwalk]

/-- R113: where a unit may not start. -/
theorem startForbidden_winch {s : State} (h : s.vsc.op ≠ .armed) : startForbidden s 0 = some .notArmed :=
  (if_pos rfl).trans (if_neg h)

theorem startForbidden_light {s : State} {u : UnitNo} (hu : u ≠ 0) (h : s.sup.stage = .cutoff) :
    startForbidden s u = some .lowBattery := (if_neg hu).trans (if_pos h)

theorem startForbidden_none {s : State} {u : UnitNo} (hwinch : u = 0 → s.vsc.op = .armed)
    (hlight : u ≠ 0 → s.sup.stage ≠ .cutoff) : startForbidden s u = none := by
  by_cases hu : u = 0
  · exact (if_pos hu).trans (if_pos (hwinch hu))
  · exact (if_neg hu).trans (if_neg (hlight hu))

/-- R121: taking a status does not touch the link. -/
theorem takeOutstanding_modLnk (u : UnitNo) (s : State) (f : Lnk → Lnk) :
    takeOutstanding u (s.modLnk f) = (takeOutstanding u s).modLnk f := by
  unfold takeOutstanding
  cases h : queuedEnding u s.nq with
  | none =>
    have h' : queuedEnding u (s.modLnk f).nq = none := h
    rw [h']
    rfl
  | some e =>
    have h' : queuedEnding u (s.modLnk f).nq = some e := h
    rw [h']
    rfl

/-! ## A started context (06 R114) -/

/-- R114: the context of a unit that is started. -/
def UnitCtx.started (x : UnitCtx) (first : Slot) (slots : List Slot) (tag : Byte) : UnitCtx :=
  { x with state := .running, first := first, current := first, walked := slots, loop := .notLoaded, progress := 0
           haltCause := none, tag := tag }

theorem startContext_unit (u v : UnitNo) (first : Slot) (slots : List Slot) (tag : Byte) (s : State) :
    (startContext u first slots tag s).unit v = if v = u then (s.unit u).started first slots tag else s.unit v := by
  rw [startContext, unit_modPgc _ _ rfl, State.unit_modUnit]
  rfl

theorem startContext_useCount (u : UnitNo) (first : Slot) (slots : List Slot) (tag : Byte) (s : State) (slot : Slot) :
    (startContext u first slots tag s).pgc.useCount[slot] = s.pgc.useCount[slot] + if slot ∈ slots then 1 else 0 := by
  have hcount : (startContext u first slots tag s).pgc.useCount = changeUse slots (· + 1) s.pgc.useCount := rfl
  rw [hcount, getElem_changeUse]
  split <;> simp

/-- R114: what every START that passes leaves. -/
structure StartsFrom (s t : State) (u : UnitNo) (first : Slot) (slots : List Slot) (tag : Byte) : Prop where
  first : (t.unit u).first = first
  walked : (t.unit u).walked = slots
  tag : (t.unit u).tag = tag
  others : ∀ v, v ≠ u → { t.unit v with stacked := none } = { s.unit v with stacked := none }
  vsc : t.vsc = s.vsc
  sup : t.sup = s.sup
  stc : t.stc = s.stc
  stores : SameStores s t

/-- R114: the winch unit starts, and may end at once. -/
theorem startsFrom_winch {s : State} (hop : s.vsc.op = .armed) (first : Slot) (slots : List Slot) (tag : Byte) :
    StartsFrom s (startUnit 0 first slots tag s) 0 first slots tag := by
  have hunit : (startContext 0 first slots tag s).unit 0 = (s.unit 0).started first slots tag :=
    (startContext_unit ..).trans (if_pos rfl)
  have hothers (v : UnitNo) (hv : v ≠ 0) : (startContext 0 first slots tag s).unit v = s.unit v :=
    (startContext_unit ..).trans (if_neg hv)
  have hframe := startContext_frame 0 first slots tag s
  rw [startUnit_winch]
  generalize startContext 0 first slots tag s = q at *
  obtain ⟨hvsc, -, hsup, -, hstc, -, -, hlmx, -, -, hcfg, -, hpending, hstore⟩ := hframe
  obtain ⟨tsup, tlmx, -, tcfg, -, tpending, tstore⟩ := startWinch_frame first q
  obtain ⟨w, hmoves, ht⟩ := startWinch_does first q
  have hwvsc : w.vsc = s.vsc := hmoves.vsc.trans hvsc
  have hwunit := hmoves.unit.trans hunit
  have hends (cause : EndCause) : winchEnds cause w = winchEnd cause w :=
    completionTest_other (by simp [hwvsc, hop])
  have hkept : (∀ v, { (startWinch first q).unit v with state := .idle, haltCause := none, stacked := none } =
      { w.unit v with state := .idle, haltCause := none, stacked := none }) ∧
      (∀ v, v ≠ 0 → { (startWinch first q).unit v with stacked := none } = { w.unit v with stacked := none }) ∧
      (startWinch first q).vsc = w.vsc ∧ (startWinch first q).stc = w.stc := by
    obtain heq | ⟨cause, heq⟩ := ht
    · rw [heq]
      exact ⟨fun _ => rfl, fun _ _ => rfl, rfl, rfl⟩
    · rw [heq, hends]
      refine ⟨fun v => ?_, fun v hv => (winchEnd_context cause w v).trans (if_neg hv), by simp, by simp⟩
      have hcontext := congrArg (fun x : UnitCtx => { x with state := .idle, haltCause := none }) (winchEnd_context cause w v)
      refine hcontext.trans ?_
      by_cases hv : v = 0
      · subst hv
        rw [if_pos rfl]
      · rw [if_neg hv]
  obtain ⟨hsame, hlights, tvsc, tstc⟩ := hkept
  exact
    { first := ((congrArg UnitCtx.first (hsame 0) :)).trans (congrArg UnitCtx.first hwunit :)
      walked := ((congrArg UnitCtx.walked (hsame 0) :)).trans (congrArg UnitCtx.walked hwunit :)
      tag := ((congrArg UnitCtx.tag (hsame 0) :)).trans (congrArg UnitCtx.tag hwunit :)
      others := fun v hv => (hlights v hv).trans (by rw [hmoves.lights v hv, hothers v hv])
      vsc := tvsc.trans hwvsc
      sup := tsup.trans hsup
      stc := tstc.trans (hmoves.stc.trans hstc)
      stores := ⟨tcfg.trans hcfg, tstore.trans hstore, tlmx.trans hlmx, tpending.trans hpending⟩ }

/-! ## A light unit that starts (08 R147) -/

theorem startUnit_light (c : Chan) (first : Slot) (slots : List Slot) (tag : Byte) (s : State) :
    startUnit (unitOf c) first slots tag s = startLightUnit c first (startContext (unitOf c) first slots tag s) := by
  unfold startUnit
  rw [chanOf_unitOf]

/-- R147, R149: the record of a channel that takes its first step. -/
def Channel.startedWith (ch : Channel) (first : Slot) (r : LightRec) : Channel :=
  { ch with source := .program, step := some ⟨first, r⟩, frames := 0, fadeStart := ch.manual
            program := if r.fade = 0 then r.level else ch.manual }

theorem startLightUnit_chan {c : Chan} {first : Slot} {r : LightRec} {s : State} (hr : s.pgc.store[first] = .light r)
    (d : Chan) : (startLightUnit c first s).chan d =
      if d = c then formLevel s.cfg.ltc.chan[c] s.ltc.hazard ((s.chan c).startedWith first r) else s.chan d := by
  have hhand (q : State) (hq : q.pgc.store[first] = .light r) : handLight c first q = beginLightStep c first r q := by
    unfold handLight
    rw [hq]
  have hhazard (q : State) (f : Channel → Channel) : (q.modChan c f).ltc.hazard = q.ltc.hazard := rfl
  rw [startLightUnit, hhand (s.modChan c fun ch => { ch with source := .program, program := ch.manual }) hr, beginLightStep, chan_formDesired, hhazard, hhazard, State.chan_modChan_self,
    State.chan_modChan_self, State.chan_modChan, State.chan_modChan]
  by_cases hd : d = c
  · rw [if_pos hd, if_pos hd]
    rfl
  · simp only [hd, if_false, State.chan_modChan]

theorem startsFrom_light (s : State) (c : Chan) (first : Slot) (slots : List Slot) (tag : Byte) :
    StartsFrom s (startUnit (unitOf c) first slots tag s) (unitOf c) first slots tag := by
  have hunit : (startContext (unitOf c) first slots tag s).unit (unitOf c) = (s.unit (unitOf c)).started first slots tag :=
    (startContext_unit ..).trans (if_pos rfl)
  have hothers (v : UnitNo) (hv : v ≠ unitOf c) : (startContext (unitOf c) first slots tag s).unit v = s.unit v :=
    (startContext_unit ..).trans (if_neg hv)
  have hframe := startContext_frame (unitOf c) first slots tag s
  rw [startUnit_light]
  generalize startContext (unitOf c) first slots tag s = q at *
  obtain ⟨hvsc, -, hsup, -, hstc, -, -, hlmx, -, -, hcfg, -, hpending, hstore⟩ := hframe
  obtain ⟨tvsc, -, tsup, -, tstc, tpgc, -, tlmx, -, -, tcfg, -, tpending⟩ := startLightUnit_frame c first q
  have htunit (v : UnitNo) : (startLightUnit c first q).unit v = q.unit v := by rw [State.unit, tpgc, State.unit]
  exact
    { first := by rw [htunit, hunit]; rfl
      walked := by rw [htunit, hunit]; rfl
      tag := by rw [htunit, hunit]; rfl
      others := fun v hv => by rw [htunit, hothers v hv]
      vsc := tvsc.trans hvsc
      sup := tsup.trans hsup
      stc := tstc.trans hstc
      stores := ⟨tcfg.trans hcfg, by rw [tpgc, hstore], tlmx.trans hlmx, tpending.trans hpending⟩ }

/-- R147: what the start of a light unit leaves. -/
theorem startUnit_light_spec {s : State} (c : Chan) {first : Slot} (slots : List Slot) (tag : Byte) {r : LightRec}
    (hr : s.pgc.store[first] = .light r) :
    let t := startUnit (unitOf c) first slots tag s
    t.unit (unitOf c) = (s.unit (unitOf c)).started first slots tag ∧
    (∀ slot : Slot, t.pgc.useCount[slot] = s.pgc.useCount[slot] + if slot ∈ slots then 1 else 0) ∧
    t.chan c = formLevel s.cfg.ltc.chan[c] s.ltc.hazard ((s.chan c).startedWith first r) ∧
    (∀ d, d ≠ c → t.chan d = s.chan d) ∧ t.trc = s.trc ∧ t.wch = s.wch ∧ t.scn = s.scn ∧ t.nq = s.nq := by
  obtain ⟨-, hscn, -, htrc, -, hwch, hltc, -, hnq, -, hcfg, -⟩ := startContext_frame (unitOf c) first slots tag s
  have hstore : (startContext (unitOf c) first slots tag s).pgc.store[first] = .light r := by
    rw [startContext_store]
    exact hr
  have hchan (d : Chan) : (startContext (unitOf c) first slots tag s).chan d = s.chan d := by rw [State.chan, hltc, State.chan]
  obtain ⟨-, tscn, -, ttrc, -, tpgc, twch, -, tnq, -⟩ :=
    startLightUnit_frame c first (startContext (unitOf c) first slots tag s)
  dsimp only
  rw [startUnit_light]
  refine ⟨?_, fun slot => ?_, ?_, fun d hd => ?_, ttrc.trans htrc, twch.trans hwch, tscn.trans hscn, tnq.trans hnq⟩
  · rw [State.unit, tpgc]
    exact (startContext_unit ..).trans (if_pos rfl)
  · rw [tpgc, startContext_useCount]
  · rw [startLightUnit_chan hstore, if_pos rfl, hchan, hcfg, hltc]
  · rw [startLightUnit_chan hstore, if_neg hd, hchan]

/-- R133: a step that passes every test at its beginning. -/
theorem beginEnding_none {s : State} {r : WinchRec}
    (hin : r.action = .inward ∨ r.action = .assist → s.fairleadActive = false ∧ 0 < s.wch.position)
    (hout : r.action = .outward ∨ r.action = .free → s.wch.position < s.cfg.wch.lineMax * 10) :
    beginEnding s r = none := by
  unfold beginEnding
  dsimp only
  rw [if_neg fun h => by simp [(hin h.1).1] at h, if_neg fun h => absurd h.2 (by have := (hin h.1).2; omega),
    if_neg fun h => absurd h.2 (Nat.not_le.mpr (hout h.1))]

/-! ## START -/

/-- Settles O41: the checks in their order, and the start by the unit. -/
theorem startByUnit : Obligations.StartByUnit := by
  intro tag b f start s hfree p
  have hunchanged (a : Answer) (h : onStart (s.modLnk (lnkOf ⟨0x22, tag, p⟩)) p = (s.modLnk (lnkOf ⟨0x22, tag, p⟩), a)) :
      exec (.start tag p) s = .next (replied s s 0x22 tag p a.outcome a.fields) :=
    congrArg Host.Outcome.next (frameArrives_unchanged .start tag p s _ hfree h)
  refine ⟨fun h => hunchanged _ (onStart_refused h), fun u first hb hf => ⟨fun e hout => ?_, fun hout hactive => ?_,
    fun hout hidle => ⟨fun hu hop => ?_, fun hu hstage => ?_, fun hwinch hlight => ⟨fun slot detail hwalk => ?_,
    fun slots hwalk => ?_⟩⟩⟩⟩
  · have hdoes := onStart_status (s := s.modLnk (lnkOf ⟨0x22, tag, p⟩)) (start := start) hb hf hout
    rw [takeOutstanding_modLnk] at hdoes
    exact congrArg Host.Outcome.next (frameArrives_replied .start tag p s hfree hdoes)
  · obtain ⟨fields, hfields, hbusy⟩ := busyWith_fields s (Config.busySide 0x22) u
    have hdoes := onStart_busy (s := s.modLnk (lnkOf ⟨0x22, tag, p⟩)) (start := start) hb hf hout hactive
    exact ⟨fields, hfields, (hunchanged _ hdoes).trans
      (congrArg (fun a : Answer => Host.Outcome.next (replied s s 0x22 tag p a.outcome a.fields)) hbusy)⟩
  · subst hu
    have hstart := onStart_idle (s := s.modLnk (lnkOf ⟨0x22, tag, p⟩)) (start := start) hb hf hout hidle
    exact hunchanged _ (hstart.trans (startIdle_forbidden
      (startForbidden_winch (s := s.modLnk (lnkOf ⟨0x22, tag, p⟩)) hop) first start))
  · have hstart := onStart_idle (s := s.modLnk (lnkOf ⟨0x22, tag, p⟩)) (start := start) hb hf hout hidle
    exact hunchanged _ (hstart.trans (startIdle_forbidden
      (startForbidden_light (s := s.modLnk (lnkOf ⟨0x22, tag, p⟩)) hu hstage) first start))
  · have hstart := onStart_idle (s := s.modLnk (lnkOf ⟨0x22, tag, p⟩)) (start := start) hb hf hout hidle
    exact hunchanged _ (hstart.trans (startIdle_failed
      (startForbidden_none (s := s.modLnk (lnkOf ⟨0x22, tag, p⟩)) hwinch hlight) hwalk start))
  · have hpassed := onStart_passed (s := s.modLnk (lnkOf ⟨0x22, tag, p⟩)) (start := start) hb hf hout hidle
      (startForbidden_none hwinch hlight) hwalk
    refine ⟨_, congrArg Host.Outcome.next (frameArrives_replied .start tag p s hfree hpassed), answeredBy_replied .., ?_⟩
    have hcommon : StartsFrom (s.modLnk (lnkOf ⟨0x22, tag, p⟩))
        (startUnit u first slots start (s.modLnk (lnkOf ⟨0x22, tag, p⟩))) u first slots start := by
      by_cases hu : u = 0
      · subst hu
        exact startsFrom_winch (s := s.modLnk (lnkOf ⟨0x22, tag, p⟩)) (hwinch rfl) first slots start
      · obtain ⟨c, rfl⟩ : ∃ c, u = unitOf c := ⟨u.pred hu, unitOf_of_chanOf (dif_pos hu)⟩
        exact startsFrom_light _ c first slots start
    refine ⟨hcommon.first, hcommon.walked, hcommon.tag, hcommon.others, hcommon.vsc, hcommon.sup, hcommon.stc, hcommon.stores,
      fun c r hc hr => ?_, fun r hu hr hno => ?_, fun r hu hr hmeets hin hpays => ?_⟩
    · obtain rfl := unitOf_of_chanOf hc
      obtain ⟨hunit, huse, hself, hother, htrc, hwch, hscn, hnq⟩ :=
        startUnit_light_spec (s := s.modLnk (lnkOf ⟨0x22, tag, p⟩)) c slots start hr
      refine ⟨hunit, huse, ?_, ?_, hother, htrc, hwch, hscn, hnq⟩
      · rw [replied_chan, hself]
        rfl
      · rw [replied_chan, hself]
        exact levelFormed_formLevel ..
    · subst hu
      have hstarts := winchStarts_of_start (slots := slots) (tag := start) hr (lnkOf ⟨0x22, tag, p⟩)
      have hwaits : clutchMeets (startContext 0 first slots start s) r.action = false := by
        rw [← hno]
        exact clutchMeets_congr (by rw [startContext_eq]) (by rw [startContext_eq]) r.action
      obtain ⟨hwch, -, hpgc, -⟩ := hstarts.2 hwaits
      have hunit : ((startUnit 0 first slots start (s.modLnk (lnkOf ⟨0x22, tag, p⟩))).unit 0) =
          (s.unit 0).started first slots start := by
        have hcontext := startContext_unit 0 0 first slots start s
        rw [if_pos rfl, State.unit, ← hpgc] at hcontext
        exact hcontext
      exact ⟨(congrArg UnitCtx.state hunit :), (congrArg UnitCtx.current hunit :), (congrArg Wch.state hwch :),
        (congrArg Wch.step hwch :), (congrArg Wch.applied hwch :), (congrArg Wch.travel hwch :),
        (congrArg Wch.frames hwch :), (congrArg Wch.lastCurrent hwch :), (congrArg Wch.position hwch :),
        (congrArg Wch.clutch hwch :)⟩
    · subst hu
      have hstarts := winchStarts_of_start (slots := slots) (tag := start) hr (lnkOf ⟨0x22, tag, p⟩)
      have hbegins : clutchMeets (startContext 0 first slots start s) r.action = true := by
        rw [← hmeets]
        exact clutchMeets_congr (by rw [startContext_eq]) (by rw [startContext_eq]) r.action
      have hfirst : WinchBegins (handed first r (startContext 0 first slots start s)) _ r WinchStepCompletes :=
        hstarts.1 hbegins
      have hlevel : (handed first r (startContext 0 first slots start s)).fairleadActive = s.fairleadActive :=
        fairleadActive_congr (by simp [handed, startContext])
      have hnot : ¬ CompletesAtOnce (handed first r (startContext 0 first slots start s)) r := fun ⟨hhauls, hon, _⟩ => by
        rw [hlevel, (hin hhauls).1] at hon
        contradiction
      have hnone : beginEnding (handed first r (startContext 0 first slots start s)) r = none :=
        beginEnding_none (fun h => ⟨hlevel.trans (hin h).1, (hin h).2⟩) hpays
      obtain ⟨hwch, htrc, hpgc, -⟩ := hfirst.1 hnot hnone
      have hunit : ((startUnit 0 first slots start (s.modLnk (lnkOf ⟨0x22, tag, p⟩))).unit 0) =
          (s.unit 0).started first slots start := by
        have hcontext := startContext_unit 0 0 first slots start s
        rw [if_pos rfl, State.unit] at hcontext
        exact (congrArg (fun p : Pgc => p.units[(0 : UnitNo)]) hpgc).trans hcontext
      refine ⟨(congrArg UnitCtx.state hunit :), (congrArg UnitCtx.current hunit :), (congrArg Wch.step hwch :),
        (congrArg Wch.state hwch :), (congrArg Wch.applied hwch).trans ?_, (congrArg Wch.travel hwch :),
        (congrArg Wch.frames hwch :), (congrArg Wch.lastCurrent hwch :), (congrArg Wch.stall hwch :),
        (congrArg Wch.position hwch :), (congrArg Wch.clutch hwch :), congrArg Trc.assist htrc⟩
      cases r.action <;> rfl

end Sys2Proof.Machine

/-! SUP's publication at a completion: the STAGE notice, the ends of the light units, the cuts (03 R49, R63, 06 R117). -/

namespace Sys2Proof.Machine

/-! ## The light units that end at CUTOFF (06 R117) -/

/-- A light unit runs. -/
abbrev Runs (s : State) (c : Chan) : Prop := (s.unit (unitOf c)).state = .running

/-- R117: the notices of the ends of the channels of a list, in its order. -/
def endingsOffered (s : State) (l : List Chan) (q : State) : State :=
  l.foldl (fun q c => if (s.unit (unitOf c)).state = .running then
    offerEnding (endingOf s (unitOf c) .cutoff (framesLeft (s.chan c)) (s.chan c).program) q else q) q

/-- What stands after the running units of the channels `done` have ended, where `s` is the state found and `u` the one
with the STAGE notice offered. -/
structure LightsEnded (s u q : State) (done : List Chan) : Prop where
  chan : ∀ c, q.chan c = if c ∈ done ∧ Runs s c then endedChannel s.cfg.ltc.chan[c] s.ltc.hazard (s.chan c) else s.chan c
  hazard : q.ltc.hazard = s.ltc.hazard
  cfg : q.cfg = s.cfg
  store : q.pgc.store = s.pgc.store
  context : ∀ c, { q.unit (unitOf c) with stacked := none } =
    if c ∈ done ∧ Runs s c then { s.unit (unitOf c) with state := .idle, haltCause := none, stacked := none }
    else { s.unit (unitOf c) with stacked := none }
  winch : { q.unit 0 with stacked := none } = { s.unit 0 with stacked := none }
  useCount : ∀ slot : Slot, q.pgc.useCount[slot] = s.pgc.useCount[slot] - done.countP fun c =>
    decide ((s.unit (unitOf c)).state = .running) && (s.unit (unitOf c)).walked.contains slot
  notices : SameNotices q (endingsOffered s done u)

/-- What an ending says depends on the context of its unit and on the store. -/
theorem endingOf_congr {s q : State} {u : UnitNo} (hstore : q.pgc.store = s.pgc.store)
    (hcontext : { q.unit u with stacked := none } = { s.unit u with stacked := none }) (cause : EndCause)
    (residual finalPos : Nat) : endingOf q u cause residual finalPos = endingOf s u cause residual finalPos := by
  have hcurrent : (q.unit u).current = (s.unit u).current := (congrArg UnitCtx.current hcontext :)
  have htag : (q.unit u).tag = (s.unit u).tag := (congrArg UnitCtx.tag hcontext :)
  have hloop : (q.unit u).loop = (s.unit u).loop := (congrArg UnitCtx.loop hcontext :)
  have hwalked : (q.unit u).walked = (s.unit u).walked := (congrArg UnitCtx.walked hcontext :)
  unfold endingOf loopsRemaining
  rw [hcurrent, htag, hloop, hwalked, hstore]

theorem unitOf_inj {c d : Chan} (h : unitOf c = unitOf d) : c = d := Fin.succ_injective _ h

/-- R117: one more channel. -/
theorem LightsEnded.halts {s u q : State} {done : List Chan} (h : LightsEnded s u q done) {c : Chan} (hc : c ∉ done) :
    LightsEnded s u (haltLight .cutoff q c) (done ++ [c]) := by
  have hchan : q.chan c = s.chan c := (h.chan c).trans (if_neg fun hd => hc hd.1)
  have hcontext : { q.unit (unitOf c) with stacked := none } = { s.unit (unitOf c) with stacked := none } :=
    (h.context c).trans (if_neg fun hd => hc hd.1)
  have hstate : (q.unit (unitOf c)).state = (s.unit (unitOf c)).state := (congrArg UnitCtx.state hcontext :)
  have hwalked : (q.unit (unitOf c)).walked = (s.unit (unitOf c)).walked := (congrArg UnitCtx.walked hcontext :)
  have hoffered : endingsOffered s (done ++ [c]) u = if (s.unit (unitOf c)).state = .running then
      offerEnding (endingOf s (unitOf c) .cutoff (framesLeft (s.chan c)) (s.chan c).program) (endingsOffered s done u)
      else endingsOffered s done u := by
    rw [endingsOffered, List.foldl_append]
    rfl
  by_cases hruns : (s.unit (unitOf c)).state = .running
  · have hhalt : haltLight .cutoff q c = endLightWith c .cutoff (framesLeft (s.chan c)) q := by
      rw [haltLight, if_pos (hstate.trans hruns), endLightUnit, if_neg nofun, lightResidual_eq, hchan]
    have hmem (d : Chan) : (d ∈ done ++ [c] ∧ Runs s d) ↔ d = c ∨ (d ∈ done ∧ Runs s d) := by
      rw [List.mem_append, List.mem_singleton]
      constructor
      · rintro ⟨hd | hd, hr⟩
        · exact .inr ⟨hd, hr⟩
        · exact .inl hd
      · rintro (rfl | ⟨hd, hr⟩)
        · exact ⟨.inr rfl, hruns⟩
        · exact ⟨.inl hd, hr⟩
    obtain ⟨-, -, -, -, -, -, -, -, hcfg, -, -, hstore⟩ := endLightWith_frame c .cutoff (framesLeft (s.chan c)) q
    rw [hhalt]
    refine ⟨fun d => ?_, (endLightWith_hazard ..).trans h.hazard, hcfg.trans h.cfg, hstore.trans h.store, fun d => ?_, ?_,
      fun slot => ?_, ?_⟩
    · rw [endLightWith_chan, h.cfg, h.hazard, hchan, h.chan]
      simp only [hmem]
      by_cases hd : d = c
      · subst hd
        rw [if_pos rfl, if_pos (.inl rfl)]
      · simp only [hd, false_or, if_false]
    · rw [endLightWith_context, h.context]
      simp only [hmem]
      by_cases hd : d = c
      · subst hd
        rw [if_pos rfl, if_pos (.inl rfl)]
        exact (congrArg (fun x : UnitCtx => { x with state := .idle, haltCause := none }) hcontext :)
      · rw [if_neg fun hu => hd (unitOf_inj hu)]
        simp only [hd, false_or]
    · rw [endLightWith_context, if_neg (unitOf_ne_zero c).symm]
      exact h.winch
    · rw [endLightWith_useCount, h.useCount, hwalked, List.countP_append, List.countP_singleton]
      simp only [hruns, decide_true, Bool.true_and, List.contains_iff_mem, Nat.sub_sub]
    · rw [hoffered, if_pos hruns, ← endingOf_congr h.store hcontext, ← hchan]
      exact (sameNotices_endLightWith ..).trans (h.notices.offerEnding _)
  · have hhalt : haltLight .cutoff q c = q := if_neg fun hr => hruns (hstate.symm.trans hr)
    have hmem (d : Chan) : (d ∈ done ++ [c] ∧ Runs s d) ↔ (d ∈ done ∧ Runs s d) := by
      rw [List.mem_append, List.mem_singleton]
      constructor
      · rintro ⟨hd | rfl, hr⟩
        · exact ⟨hd, hr⟩
        · exact absurd hr hruns
      · exact fun ⟨hd, hr⟩ => ⟨.inl hd, hr⟩
    rw [hhalt]
    refine ⟨fun d => ?_, h.hazard, h.cfg, h.store, fun d => ?_, h.winch, fun slot => ?_, ?_⟩
    · simp only [hmem]
      exact h.chan d
    · simp only [hmem]
      exact h.context d
    · rw [h.useCount, List.countP_append, List.countP_singleton]
      simp [hruns]
    · rw [hoffered, if_neg hruns]
      exact h.notices

/-- R117: every channel in rising order. -/
theorem lightsEnded_cutoffLights {s u : State} (h : LightsEnded s u u []) : LightsEnded s u (cutoffLights u) allChans := by
  have hfold (l : List Chan) : ∀ (q : State) (done : List Chan), (done ++ l).Nodup → LightsEnded s u q done →
      LightsEnded s u (l.foldl (haltLight .cutoff) q) (done ++ l) := by
    induction l with
    | nil => exact fun q done _ hq => by rwa [List.append_nil]
    | cons c rest ih =>
      intro q done hnodup hq
      have hc : c ∉ done := fun hd => (List.nodup_append.mp hnodup).2.2 c hd c List.mem_cons_self rfl
      have hsplit : done ++ c :: rest = (done ++ [c]) ++ rest := by simp
      rw [hsplit] at hnodup ⊢
      exact ih _ _ hnodup (hq.halts hc)
  have hall : (allChans).Nodup := by decide
  exact hfold allChans u [] hall h

/-! ## What the cut of the axles finds (03 R49, R63) -/

/-- R49: SUP's record is set, and a changed stage offered. -/
def supPublished (s : State) : State := stageNotice s.sup.stage (s.modSup fun _ => supNext s)

/-- R117: the light units have ended where the stage has become CUTOFF. -/
def supEnded (s : State) : State :=
  if becameCutoff s.sup.stage (supPublished s) then cutoffLights (supPublished s) else supPublished s

/-- R63: the winch and the lights are cut to their caps. -/
def supTrimmed (s : State) : State := cutLights (cutWinch (supEnded s))

/-- The stage has become CUTOFF. -/
abbrev Became (s : State) : Prop := (supNext s).stage = .cutoff ∧ s.sup.stage ≠ .cutoff

theorem becameCutoff_iff {s t : State} (h : t.sup = supNext s) : becameCutoff s.sup.stage t = true ↔ Became s := by
  simp [becameCutoff, h]

/-- R49: the STAGE notice. -/
def stageOffered (s : State) : State :=
  if (supNext s).stage = s.sup.stage then s
  else offer (.stage (supNext s).stage s.sup.stage s.scn.results.minFiltered (supNext s).alloc.ceiling) s

theorem sameNotices_supPublished (s : State) : SameNotices (supPublished s) (stageOffered s) := by
  have hsup : SameNotices (s.modSup fun _ => supNext s) s := .of_eq rfl rfl
  unfold supPublished stageNotice stageOffered
  by_cases h : (supNext s).stage = s.sup.stage
  · rw [if_pos h]
    have hkept : (s.modSup fun _ => supNext s).sup.stage = s.sup.stage := h
    rw [if_pos hkept]
    exact hsup
  · rw [if_neg h]
    have hnew : ¬ (s.modSup fun _ => supNext s).sup.stage = s.sup.stage := h
    rw [if_neg hnew]
    exact hsup.offer _

theorem supPublished_context (s : State) (u : UnitNo) :
    { (supPublished s).unit u with stacked := none } = { s.unit u with stacked := none } := by
  unfold supPublished stageNotice
  split
  · rfl
  · exact offer_context ..

theorem supPublished_useCount (s : State) : (supPublished s).pgc.useCount = s.pgc.useCount := by
  unfold supPublished stageNotice
  split
  · rfl
  · rw [(offer_units ..).1]
    rfl

theorem supPublished_sup (s : State) : (supPublished s).sup = supNext s := by simp [supPublished]

theorem lightsEnded_supPublished (s : State) : LightsEnded s (supPublished s) (supPublished s) [] where
  chan c := by simp [supPublished, State.chan]
  hazard := by simp [supPublished]
  cfg := by simp [supPublished]
  store := by simp [supPublished]
  context c := by
    rw [supPublished_context]
    simp
  winch := supPublished_context s 0
  useCount slot := by
    rw [supPublished_useCount]
    simp
  notices := .refl _

/-- The channels whose units have ended. -/
abbrev endedChans (s : State) : List Chan := if Became s then allChans else []

theorem lightsEnded_supEnded (s : State) : LightsEnded s (supPublished s) (supEnded s) (endedChans s) := by
  unfold supEnded endedChans
  by_cases h : Became s
  · rw [if_pos ((becameCutoff_iff (supPublished_sup s)).mpr h), if_pos h]
    exact lightsEnded_cutoffLights (lightsEnded_supPublished s)
  · rw [if_neg fun hb => h ((becameCutoff_iff (supPublished_sup s)).mp hb), if_neg h]
    exact lightsEnded_supPublished s

theorem mem_endedChans (s : State) (c : Chan) : c ∈ endedChans s ↔ Became s := by
  unfold endedChans
  by_cases h : Became s
  · rw [if_pos h]
    exact iff_of_true (mem_allChans c) h
  · rw [if_neg h]
    exact iff_of_false List.not_mem_nil h

/-- What the ends leave alone. -/
theorem supEnded_frame (s : State) : (supEnded s).vsc = s.vsc ∧ (supEnded s).scn = s.scn ∧ (supEnded s).sup = supNext s ∧
    (supEnded s).trc = s.trc ∧ (supEnded s).stc = s.stc ∧ (supEnded s).wch = s.wch ∧ (supEnded s).lmx = s.lmx ∧
    (supEnded s).lnk = s.lnk ∧ (supEnded s).pending = s.pending := by
  unfold supEnded
  split <;> simp [supPublished]

/-- R63: the winch after the cut to its cap. -/
theorem cutWinch_wch (s : State) : (cutWinch s).wch = { s.wch with applied := min s.wch.applied s.sup.alloc.dutyCap.winch } := by
  unfold cutWinch
  split
  · rename_i h
    rw [Nat.min_eq_right (Nat.le_of_lt h)]
    simp [setWinchDuty]
  · rename_i h
    rw [Nat.min_eq_left (Nat.le_of_not_lt h)]

theorem supplyCompletion_cuts (s : State) : supplyCompletion s =
    cutAndTest (supNext s).alloc.dutyCap.front (supNext s).alloc.dutyCap.rear .cap (supTrimmed s) := by
  have hsup : (supEnded s).sup.alloc = (supNext s).alloc := by rw [(supEnded_frame s).2.2.1]
  rw [← hsup]
  rfl

/-- R63, R117: a channel's record before the overlays are tested. -/
def trimmedChannel (s : State) (c : Chan) : Channel :=
  let ch := { s.chan c with
    applied := min (s.chan c).applied (min (supNext s).alloc.budgetCap[c] (supNext s).alloc.stageCap[c]) }
  if Became s ∧ Runs s c then endedChannel s.cfg.ltc.chan[c] s.ltc.hazard ch else ch

theorem supTrimmed_chan (s : State) (c : Chan) : (supTrimmed s).chan c = trimmedChannel s c := by
  have hltc : (cutWinch (supEnded s)).chan c = (supEnded s).chan c := by simp [State.chan]
  have hcap : (cutWinch (supEnded s)).lightCap c =
      min (supNext s).alloc.budgetCap[c] (supNext s).alloc.stageCap[c] := by
    have hsup : (cutWinch (supEnded s)).sup = supNext s := by simp [(supEnded_frame s).2.2.1]
    rw [State.lightCap, hsup]
  rw [supTrimmed, chan_cutLights, hltc, hcap, (lightsEnded_supEnded s).chan, trimmedChannel]
  have hmem := mem_endedChans s c
  by_cases h : Became s ∧ Runs s c
  · rw [if_pos h, if_pos ⟨hmem.mpr h.1, h.2⟩]
    rfl
  · rw [if_neg h, if_neg fun hc => h ⟨hmem.mp hc.1, hc.2⟩]

/-- What else stands when the axles are cut. -/
theorem supTrimmed_frame (s : State) : (supTrimmed s).vsc = s.vsc ∧ (supTrimmed s).sup = supNext s ∧
    (supTrimmed s).trc = s.trc ∧ (supTrimmed s).stc = s.stc ∧ (supTrimmed s).lmx = s.lmx ∧ (supTrimmed s).lnk = s.lnk ∧
    (supTrimmed s).cfg = s.cfg ∧ (supTrimmed s).pending = s.pending ∧ (supTrimmed s).pgc = (supEnded s).pgc ∧
    (supTrimmed s).nq = (supEnded s).nq ∧ (supTrimmed s).ltc.hazard = s.ltc.hazard := by
  obtain ⟨hvsc, -, hsup, htrc, hstc, -, hlmx, hlnk, hpending⟩ := supEnded_frame s
  have hhazard (q : State) : (cutLights q).ltc.hazard = q.ltc.hazard := rfl
  simp [supTrimmed, hvsc, hsup, htrc, hstc, hlmx, hlnk, hpending, (lightsEnded_supEnded s).cfg, hhazard,
    (lightsEnded_supEnded s).hazard]

theorem supTrimmed_wch (s : State) :
    (supTrimmed s).wch = { s.wch with applied := min s.wch.applied (supNext s).alloc.dutyCap.winch } := by
  obtain ⟨-, -, hsup, -, -, hwch, -⟩ := supEnded_frame s
  simp [supTrimmed, cutWinch_wch, hsup, hwch]

/-- R26: the winch's cut to 0 ends its wait. -/
theorem supTrimmed_scan (s : State) : SameScan s (supTrimmed s) := by
  have hscn : (supEnded s).scn = s.scn := (supEnded_frame s).2.1
  have hcut : SameScan s (cutWinch (supEnded s)) := by
    unfold cutWinch
    split
    · exact sameScan_endWait hscn
    · refine .of_eq hscn fun b => ?_
      obtain ⟨-, -, -, htrc, -, hwch, -⟩ := supEnded_frame s
      cases b <;> simp [State.duty, htrc, hwch]
  exact hcut.congr rfl (fun _ => rfl) (by simp [supTrimmed]) fun b => by cases b <;> simp [State.duty, supTrimmed]

theorem supTrimmed_scan_wch (s : State) : SameScan { s with wch := (supTrimmed s).wch } (supTrimmed s) := by
  obtain ⟨hrest, hnone, hwait⟩ := supTrimmed_scan s
  obtain ⟨-, -, htrc, -⟩ := supTrimmed_frame s
  refine ⟨hrest, hnone, fun b hb => ⟨(hwait b hb).1, fun hs ht => ?_⟩⟩
  have hsame : (supTrimmed s).duty b = State.duty { s with wch := (supTrimmed s).wch } b := by
    cases b <;> simp [State.duty, htrc]
  exact absurd (hsame ▸ ht) hs

theorem cutFrom_supTrimmed (s : State) :
    CutFrom s (supTrimmed s) { s.wch with applied := min s.wch.applied (supNext s).alloc.dutyCap.winch } := by
  obtain ⟨hvsc, -, htrc, hstc, hlmx, -, hcfg, hpending, hpgc, -⟩ := supTrimmed_frame s
  have hended := lightsEnded_supEnded s
  exact
    { vsc := hvsc
      stc := hstc
      wch := supTrimmed_wch s
      clutch := rfl
      trc := by rw [htrc]
      scan := by
        rw [← supTrimmed_wch]
        exact supTrimmed_scan_wch s
      unit := by
        rw [State.unit, hpgc, ← State.unit]
        exact (congrArg UnitCtx.state hended.winch :)
      stores := ⟨hcfg, by rw [hpgc, hended.store], hlmx, hpending⟩ }

/-- The endings stand behind the same notices. -/
theorem SameNotices.endingsOffered {u v : State} (h : SameNotices u v) (s : State) (l : List Chan) :
    SameNotices (endingsOffered s l u) (endingsOffered s l v) := by
  unfold Machine.endingsOffered
  induction l generalizing u v with
  | nil => exact h
  | cons c rest ih =>
    refine ih ?_
    dsimp only
    split
    · exact h.offerEnding _
    · exact h

/-- The STAGE notice, and behind it the ends of the light units. -/
def publicationOffered (s : State) : State :=
  if Became s then endingsOffered s allChans (stageOffered s) else stageOffered s

theorem sameNotices_supTrimmed (s : State) : SameNotices (supTrimmed s) (publicationOffered s) := by
  obtain ⟨-, -, -, -, -, -, -, -, hpgc, hnq, -⟩ := supTrimmed_frame s
  have hended : SameNotices (supTrimmed s) (supEnded s) := .of_eq hnq hpgc
  refine (hended.trans (lightsEnded_supEnded s).notices).trans ?_
  unfold publicationOffered endedChans
  split
  · exact (sameNotices_supPublished s).endingsOffered s allChans
  · exact sameNotices_supPublished s

/-- R119: what SUP's publication makes of the contexts. -/
theorem supTrimmed_context (s : State) (c : Chan) : { (supTrimmed s).unit (unitOf c) with stacked := none } =
    if Became s ∧ Runs s c then { s.unit (unitOf c) with state := .idle, haltCause := none, stacked := none }
    else { s.unit (unitOf c) with stacked := none } := by
  obtain ⟨-, -, -, -, -, -, -, -, hpgc, -⟩ := supTrimmed_frame s
  have hmem := mem_endedChans s c
  rw [State.unit, hpgc, ← State.unit, (lightsEnded_supEnded s).context]
  by_cases h : Became s ∧ Runs s c
  · rw [if_pos h, if_pos ⟨hmem.mpr h.1, h.2⟩]
  · rw [if_neg h, if_neg fun hc => h ⟨hmem.mp hc.1, hc.2⟩]

theorem supTrimmed_useCount (s : State) (slot : Slot) : (supTrimmed s).pgc.useCount[slot] =
    s.pgc.useCount[slot] - if Became s then allChans.countP fun c =>
      decide ((s.unit (unitOf c)).state = .running) && (s.unit (unitOf c)).walked.contains slot else 0 := by
  obtain ⟨-, -, -, -, -, -, -, -, hpgc, -⟩ := supTrimmed_frame s
  rw [hpgc, (lightsEnded_supEnded s).useCount]
  unfold endedChans
  split
  · rfl
  · rfl

/-- R155: a channel whose unit has ended has its level formed. -/
theorem levelFormed_trimmed {s : State} {c : Chan} (h : Became s ∧ Runs s c) :
    LevelFormed s.cfg.ltc.chan[c] s.ltc.hazard (trimmedChannel s c) := by
  rw [trimmedChannel, if_pos h]
  exact levelFormed_formLevel ..

/-- What the cut, with its completion test, makes of the levels that SUP's publication has formed. -/
structure CutPasses (s t : State) : Prop where
  passes : Passes (supTrimmed s) t
  formed : ∀ c, Became s ∧ Runs s c → LevelFormed s.cfg.ltc.chan[c] t.ltc.hazard (t.chan c)
  useCount : t.pgc.useCount = (supTrimmed s).pgc.useCount
  winch : { t.unit 0 with stacked := none } = { (supTrimmed s).unit 0 with stacked := none }
  assist : t.trc.assist = s.trc.assist

/-- The duty cap of an axle's bridge in the new allocation. -/
def newCap (s : State) (x : Axle) : Nat := (supNext s).alloc.dutyCap.get x.bridge

theorem supplyCompletion_newCap (s : State) :
    supplyCompletion s = cutAndTest (newCap s .front) (newCap s .rear) .cap (supTrimmed s) := supplyCompletion_cuts s

/-- R155: in PARKED no level depends on the hazard phase. -/
theorem levelFormed_parked {s t : State} {c : Chan} {cfg : ChanCfg} {hazard : Option Nat} (h : Passes s t)
    (hcfg : t.cfg.ltc.chan[c] = cfg) (hsettles : OverlaysSettle s t) (hidle : (t.chan c).overlay = .idle)
    (hformed : LevelFormed cfg hazard (s.chan c)) : LevelFormed cfg t.ltc.hazard (t.chan c) := by
  obtain ⟨hmanual, hsource, hprogram, -⟩ := h.levels c
  obtain ⟨-, hc⟩ := hsettles
  obtain ⟨hoverlay, hdesired, hdemand⟩ | hnew := hc c
  · exact (hformed.congr (by simp only [litOf, hoverlay, hdesired, hdemand]) hmanual hsource hprogram).of_hazard (by rw [hidle]; nofun)
  · exact hcfg ▸ hnew

theorem cutPasses_supplyCompletion (s : State) : CutPasses s (supplyCompletion s) := by
  have hfrom := cutFrom_supTrimmed s
  obtain ⟨-, -, htrc, -, -, -, hcfg, -, -, -, hhazard⟩ := supTrimmed_frame s
  have hassist : (cutAxles (newCap s .front) (newCap s .rear) .cap (supTrimmed s)).trc.assist = s.trc.assist :=
    ((cutAxles_kept _ _ _ _).1).trans (by rw [htrc])
  have hpgc : (cutAxles (newCap s .front) (newCap s .rear) .cap (supTrimmed s)).pgc = (supTrimmed s).pgc := by simp
  rw [supplyCompletion_newCap]
  obtain ⟨-, -, heq⟩ | ⟨habove, -, heq⟩ | ⟨habove, -, heq⟩ := hfrom.cases (newCap s) .cap
  · rw [heq]
    refine ⟨.refl _, fun c hc => ?_, rfl, rfl, by rw [htrc]⟩
    rw [supTrimmed_chan, hhazard]
    exact levelFormed_trimmed hc
  · have hq := (hfrom.above_iff (newCap s)).mpr habove
    rw [heq]
    refine ⟨passes_cutAxles hq .cap, fun c hc => ?_, by rw [hpgc], by rw [State.unit, hpgc, ← State.unit], hassist⟩
    have htested := overlayTested_cutAxles hq .cap c
    obtain ⟨-, -, -, -, -, -, hsame, hnew⟩ := htested
    by_cases ho : ((cutAxles (newCap s .front) (newCap s .rear) .cap (supTrimmed s)).chan c).overlay =
        ((supTrimmed s).chan c).overlay
    · rw [hsame ho, cutAxles_hazard hq, hhazard, supTrimmed_chan]
      exact levelFormed_trimmed hc
    · have h := hnew ho
      have hcfg' : (cutAxles (newCap s .front) (newCap s .rear) .cap (supTrimmed s)).cfg = s.cfg := by simp [hcfg]
      rw [hcfg'] at h
      exact h
  · have hq := (hfrom.above_iff (newCap s)).mpr habove
    have hpasses := (passes_cutAxles hq .cap).trans (passes_enterParked .shutdownComplete _)
    have hsettles := hpasses.settles (overlaysOk_enterParked .shutdownComplete _) (enterParked_hazard .shutdownComplete _)
    rw [heq]
    refine ⟨hpasses, fun c hc => ?_, by rw [enterParked_useCount, hpgc], ?_, ?_⟩
    · refine levelFormed_parked hpasses (by rw [hpasses.cfg, hcfg]) hsettles (enterParked_overlay ..)
        (hazard := s.ltc.hazard) ?_
      rw [supTrimmed_chan]
      exact levelFormed_trimmed hc
    · rw [enterParked_context, State.unit, hpgc, ← State.unit]
    · rw [enterParked_trc]
      exact hassist

theorem chan_ofFn (s : State) (f : Chan → Channel) (c : Chan) :
    State.chan { s with ltc := { s.ltc with channels := Vector.ofFn f } } c = f c := by
  simp [State.chan]

/-- Settles O29: the cut of the axles comes last, from the state that the notice, the ends and the other cuts leave. -/
theorem supplyPublishesAndCuts : Obligations.SupplyPublishesAndCuts := by
  intro s
  have hcuts := cutPasses_supplyCompletion s
  have hfrom := cutFrom_supTrimmed s
  obtain ⟨-, -, -, -, hlmx, hlnk, hcfg, hpending, hpgc, -, hhazard⟩ := supTrimmed_frame s
  have haxles := hfrom.axlesCut (newCap s) .cap
  have hcases := hfrom.cases (newCap s) .cap
  rw [← supplyCompletion_newCap] at haxles hcases
  have hcfg' : (supplyCompletion s).cfg = s.cfg := hcuts.passes.cfg.trans hcfg
  dsimp only
  rw [supplyCompletion_sup]
  refine ⟨haxles, fun hno c => ?_, fun habove hnot c => ?_, fun hdone => ?_, fun hnot => ?_, fun hdone => ?_,
    hcuts.assist, fun c => ?_, fun slot => ?_, ?_, ?_, ?_⟩
  · obtain ⟨-, -, heq⟩ | ⟨habove, -, -⟩ | ⟨habove, -, -⟩ := hcases
    · rw [heq, supTrimmed_chan]
      rfl
    · exact absurd habove hno
    · exact absurd habove hno
  · have hbefore : OverlayTested (supplyCompletion s) c (trimmedChannel s c) := by
      obtain ⟨hno, -, -⟩ | ⟨-, -, heq⟩ | ⟨-, hdone, -⟩ := hcases
      · exact absurd habove hno
      · rw [heq, ← supTrimmed_chan]
        exact overlayTested_cutAxles ((hfrom.above_iff (newCap s)).mpr habove) .cap c
      · exact absurd hdone hnot
    exact hbefore
  · obtain ⟨-, hno, -⟩ | ⟨-, hno, -⟩ | ⟨-, -, heq⟩ := hcases
    · exact absurd hdone hno
    · exact absurd hdone hno
    · have hok : OverlaysOk (supplyCompletion s) := heq ▸ overlaysOk_enterParked _ _
      have hstopped : (supplyCompletion s).ltc.hazard = none := heq ▸ enterParked_hazard ..
      obtain ⟨-, hsettles⟩ := hcuts.passes.settles hok hstopped
      refine ⟨hok, fun c => ?_⟩
      have hbefore := hsettles c
      rw [supTrimmed_chan] at hbefore
      rw [chan_ofFn]
      exact hbefore
  · obtain ⟨-, -, heq⟩ | ⟨habove, -, heq⟩ | ⟨-, hdone, -⟩ := hcases
    · rw [heq]
      exact ⟨sameNotices_supTrimmed s, hhazard, supTrimmed_scan s⟩
    · have hq := (hfrom.above_iff (newCap s)).mpr habove
      have hsame : SameNotices (cutAxles (newCap s .front) (newCap s .rear) .cap (supTrimmed s)) (supTrimmed s) :=
        .of_eq (by simp) (by simp)
      rw [heq]
      exact ⟨hsame.trans (sameNotices_supTrimmed s), (cutAxles_hazard hq .cap).trans hhazard,
        (supTrimmed_scan s).trans (sameScan_cutAxles hq .cap) fun _ => duty_cutAxles (newCap s) .cap⟩
    · exact absurd hdone hnot
  · obtain ⟨-, hno, -⟩ | ⟨-, hno, -⟩ | ⟨-, -, heq⟩ := hcases
    · exact absurd hdone hno
    · exact absurd hdone hno
    · have hop : (cutAxles (newCap s .front) (newCap s .rear) .cap (supTrimmed s)).vsc.op = .shuttingDown := by
        simpa [hfrom.vsc] using hdone.1
      have hnotices := completed_notices (s := supTrimmed s) (by simp) (by simp) hop
      rw [heq]
      exact hnotices.trans ((sameNotices_supTrimmed s).offer _)
  · obtain ⟨hmanual, hsource, hprogram, hstep, hframes, happlied⟩ := hcuts.passes.levels c
    have hcontext := hcuts.passes.lightUnits c
    rw [supTrimmed_chan] at hmanual hsource hprogram hstep hframes happlied
    rw [supTrimmed_context] at hcontext
    have hkept : (trimmedChannel s c).applied =
        min (s.chan c).applied (min (supNext s).alloc.budgetCap[c] (supNext s).alloc.stageCap[c]) ∧
        (trimmedChannel s c).manual = (s.chan c).manual ∧ (trimmedChannel s c).program = (s.chan c).program := by
      unfold trimmedChannel
      split <;> exact ⟨rfl, rfl, rfl⟩
    refine ⟨happlied.trans hkept.1, hmanual.trans hkept.2.1, hprogram.trans hkept.2.2, fun hb hr => ?_, fun hno => ?_⟩
    · have htrimmed : trimmedChannel s c = endedChannel s.cfg.ltc.chan[c] s.ltc.hazard { s.chan c with
          applied := min (s.chan c).applied (min (supNext s).alloc.budgetCap[c] (supNext s).alloc.stageCap[c]) } :=
        if_pos ⟨hb, hr⟩
      rw [htrimmed] at hsource hstep hframes
      exact ⟨hcontext.trans (if_pos ⟨hb, hr⟩), hsource, hstep, hframes, hcuts.formed c ⟨hb, hr⟩⟩
    · have hnot : ¬ (Became s ∧ Runs s c) := fun ⟨hb, hr⟩ => hno.elim (fun h => h hb) fun h => h hr
      have htrimmed : trimmedChannel s c = { s.chan c with
          applied := min (s.chan c).applied (min (supNext s).alloc.budgetCap[c] (supNext s).alloc.stageCap[c]) } :=
        if_neg hnot
      rw [htrimmed] at hsource hstep hframes
      exact ⟨hcontext.trans (if_neg hnot), hsource, hstep, hframes⟩
  · rw [hcuts.useCount]
    exact supTrimmed_useCount s slot
  · refine hcuts.winch.trans ?_
    rw [State.unit, hpgc, ← State.unit]
    exact (lightsEnded_supEnded s).winch
  · exact hcuts.passes.lnk.trans hlnk
  · have hended := (lightsEnded_supEnded s).store
    rw [← hpgc] at hended
    exact ⟨hcfg', hcuts.passes.store.trans hended, hcuts.passes.lmx.trans hlmx, hcuts.passes.pending.trans hpending⟩

end Sys2Proof.Machine

/-! A drive frame (04 R72 to R78). -/

namespace Sys2Proof.Machine

/-! ## What the frame makes of TRC's record -/

/-- R67, R71, R72: the dig requested and the FRONT_RATIO held are taken up, and the targets formed. -/
def aimed (s : State) : State := formTargets (takeRatio (takeDig s))

/-- R73, R75: the duty of an axle after its slew. -/
def slewedDuty (s : State) (x : Axle) : Int :=
  slewDuty (s.trc.applied.get x) (s.trc.target.get x) s.cfg.trc.throttleSlew

/-- R73, R75: the duty of an axle after its slew and its limit. -/
def framedDuty (s : State) (x : Axle) : Int := limitTo (axleLimit s x) (slewedDuty s x)

/-- R73, R75: one axle's duty and limiter. -/
theorem slewAxle_eq (x : Axle) (s : State) : slewAxle x s = s.modTrc fun t => { t with
    applied := t.applied.put x (framedDuty s x)
    limiter := t.limiter.put x (limiterOf s x (slewedDuty s x) (framedDuty s x) (s.trc.target.get x)) } := rfl

theorem limiterOf_congr {s q : State} (hassist : q.trc.assist = s.trc.assist) (hsup : q.sup = s.sup) (x : Axle)
    (slewed applied target : Int) : limiterOf q x slewed applied target = limiterOf s x slewed applied target := by
  unfold limiterOf axleLimit
  rw [hassist, hsup]

/-- R73, R75: both axles. -/
theorem slewAxles_trc (s : State) : (slewAxle .rear (slewAxle .front s)).trc = { s.trc with
    applied := PerAxle.of (framedDuty s)
    limiter := PerAxle.of fun x => limiterOf s x (slewedDuty s x) (framedDuty s x) (s.trc.target.get x) } := by
  have hslewed : slewedDuty (slewAxle .front s) .rear = slewedDuty s .rear := rfl
  have hlimit : axleLimit (slewAxle .front s) .rear = axleLimit s .rear := rfl
  have hframed : framedDuty (slewAxle .front s) .rear = framedDuty s .rear := by
    rw [framedDuty, hslewed, hlimit, framedDuty]
  rw [slewAxle_eq .rear, hframed, hslewed, limiterOf_congr (s := s) (q := slewAxle .front s) rfl rfl]
  rfl

/-- R73: the state with both duties slewed and limited. -/
def slewed (s : State) : State := slewAxle .rear (slewAxle .front (aimed s))

theorem driveFrame_eq (s : State) : driveFrame s = publishDuties (classifyTraction (chooseModes (slewed s))) := rfl

/-- R76 to R78: TRC's record after the frame. -/
theorem driveFrame_trc (s : State) : (driveFrame s).trc = ({ (slewed s).trc with
    mode := PerAxle.of (modeOf s.vsc.op s.cfg.trc.dragBrake (slewed s).trc)
    dragInForce := s.cfg.trc.dragBrake } : Trc).classified s.vsc.op := by
  have hpublish (q : State) : (publishDuties q).trc = q.trc := by simp
  rw [driveFrame_eq, hpublish, classifyTraction_eq, State.modTrc_trc]
  rfl

/-- R71, R72: what the frame takes up. -/
theorem aimed_trc (s : State) : (aimed s).trc = { s.trc with
    digInForce := s.trc.digRequested, ratioInForce := s.cfg.trc.frontRatio
    target := PerAxle.of (targetOf s.cfg.trc.frontRatio { s.trc with
      digInForce := s.trc.digRequested, ratioInForce := s.cfg.trc.frontRatio }) } := rfl

theorem tractionOk_driveFrame (s : State) : TractionOk (driveFrame s) := by
  have hvsc : (driveFrame s).vsc = s.vsc := by simp
  refine (classified_iff _).mp ⟨?_, ?_⟩
  · rw [hvsc, driveFrame_trc]
    rfl
  · rw [hvsc, driveFrame_trc]
    rfl

/-- R71: the target of an axle. -/
def frameTarget (s : State) (x : Axle) : Int :=
  if s.trc.hold ≠ .none ∨ (digHold s.trc.digRequested x).isSome = true then 0 else match x with
    | .front => max (-1000) (min 1000 ((s.trc.throttle * s.cfg.trc.frontRatio).tdiv 1000))
    | .rear => s.trc.throttle

theorem aimed_target (s : State) (x : Axle) : (aimed s).trc.target.get x = frameTarget s x := by
  rw [aimed_trc]
  simp only [PerAxle.get_of, targetOf, frameTarget]
  by_cases hhold : s.trc.hold = .none
  · simp only [hhold, ne_eq, not_true_eq_false, if_false, false_or]
    split
    · rfl
    · cases x <;> rfl
  · simp only [hhold, ne_eq, not_false_eq_true, if_true, true_or]

/-- R73, R74: the slew of an axle. -/
def frameSlew (s : State) (x : Axle) : Int :=
  let a := s.trc.applied.get x
  let n : Int := s.cfg.trc.throttleSlew
  if a * frameTarget s x < 0 then (if a < 0 then min 0 (a + n) else max 0 (a - n))
  else if a ≤ frameTarget s x then min (frameTarget s x) (a + n) else max (frameTarget s x) (a - n)

/-- R74: one frame's approach. -/
theorem approach_eq (a t : Int) (n : Nat) :
    approach a t n = if a ≤ t then min t (a + n) else max t (a - n) := by
  unfold approach
  split
  · split <;> omega
  · split <;> split <;> omega

theorem slewedDuty_aimed (s : State) (x : Axle) : slewedDuty (aimed s) x = frameSlew s x := by
  have happlied : (aimed s).trc.applied = s.trc.applied := rfl
  have hcfg : (aimed s).cfg = s.cfg := rfl
  unfold slewedDuty slewDuty frameSlew
  rw [aimed_target, happlied, hcfg]
  dsimp only
  split
  · rename_i hcross
    rw [approach_eq]
    have hne : s.trc.applied.get x ≠ 0 := fun h => by simp [h] at hcross
    by_cases hneg : s.trc.applied.get x < 0
    · rw [if_pos (Int.le_of_lt hneg), if_pos hneg]
    · rw [if_neg (by omega), if_neg hneg]
  · rw [approach_eq]

/-- R75: the limit of an axle. -/
def frameLimit (s : State) (x : Axle) : Nat :=
  min (s.sup.alloc.dutyCap.get x.bridge) (s.trc.assist.getD (s.sup.alloc.dutyCap.get x.bridge))

theorem axleLimit_eq (s : State) (x : Axle) : axleLimit s x = frameLimit s x := by
  unfold axleLimit frameLimit
  cases s.trc.assist with
  | none => exact (Nat.min_self _).symm
  | some a => rfl

/-- R73, R75: the duty of an axle after the frame. -/
theorem driveFrame_applied (s : State) (x : Axle) :
    (driveFrame s).trc.applied.get x = cutTo (frameLimit s x) (frameSlew s x) := by
  have hlimit : axleLimit (aimed s) x = frameLimit s x := (axleLimit_eq (aimed s) x).trans rfl
  rw [driveFrame_trc]
  have happlied : (slewed s).trc.applied = PerAxle.of (framedDuty (aimed s)) := by rw [slewed, slewAxles_trc]
  show (slewed s).trc.applied.get x = _
  rw [happlied, PerAxle.get_of, framedDuty, hlimit, slewedDuty_aimed, limitTo_eq]

/-- R75: the limiter of an axle after the frame. -/
theorem driveFrame_limiter (s : State) (x : Axle) : (driveFrame s).trc.limiter.get x =
    if cutTo (frameLimit s x) (frameSlew s x) = frameTarget s x then .none
    else if (frameSlew s x).natAbs ≤ frameLimit s x then .slew
    else if s.trc.assist.isSome = true ∧ frameLimit s x < s.sup.alloc.dutyCap.get x.bridge then .assist else .cap := by
  have hlimiter : (slewed s).trc.limiter = PerAxle.of fun x =>
      limiterOf (aimed s) x (slewedDuty (aimed s) x) (framedDuty (aimed s) x) ((aimed s).trc.target.get x) := by
    rw [slewed, slewAxles_trc]
  have hlimit : axleLimit s x = frameLimit s x := axleLimit_eq s x
  have hframed : framedDuty (aimed s) x = cutTo (frameLimit s x) (frameSlew s x) := by
    have haimed : axleLimit (aimed s) x = frameLimit s x := (axleLimit_eq (aimed s) x).trans rfl
    rw [framedDuty, haimed, slewedDuty_aimed, limitTo_eq]
  rw [driveFrame_trc]
  show (slewed s).trc.limiter.get x = _
  rw [hlimiter, PerAxle.get_of, slewedDuty_aimed, hframed, aimed_target,
    limiterOf_congr (s := s) (q := aimed s) rfl rfl, limiterOf, hlimit]
  split
  · rfl
  · split
    · rfl
    · cases hassist : s.trc.assist with
      | none => simp
      | some a =>
        have heq : frameLimit s x < s.sup.alloc.dutyCap.get x.bridge ↔ a < s.sup.alloc.dutyCap.get x.bridge := by
          simp [frameLimit, hassist]
        simp [heq]

/-- R76: the mode of an axle bridge after the frame. -/
theorem driveFrame_mode (s : State) (x : Axle) : (driveFrame s).trc.mode.get x =
    if cutTo (frameLimit s x) (frameSlew s x) ≠ 0 then .drive else match s.vsc.op with
      | .armed => (digHold s.trc.digRequested x).getD
          (if frameTarget s x ≠ 0 then .bridgeOpen else .shortBrake s.cfg.trc.dragBrake)
      | .failsafe => .shortBrake 1000
      | .shuttingDown => .shortBrake s.cfg.trc.dragBrake
      | .parked => .bridgeOpen
      | .tripped => .bridgeOpen := by
  have happlied := driveFrame_applied s x
  rw [driveFrame_trc] at happlied ⊢
  have hduty : (slewed s).trc.applied.get x = cutTo (frameLimit s x) (frameSlew s x) := happlied
  have hdig : (slewed s).trc.digInForce = s.trc.digRequested := rfl
  have htarget : (slewed s).trc.target.get x = frameTarget s x := aimed_target s x
  have hmode : (PerAxle.of (modeOf s.vsc.op s.cfg.trc.dragBrake (slewed s).trc)).get x =
      modeOf s.vsc.op s.cfg.trc.dragBrake (slewed s).trc x := PerAxle.get_of _ _
  refine hmode.trans ?_
  unfold modeOf modeAtZero
  rw [hduty, hdig, htarget]
  split
  · rfl
  · cases s.vsc.op with
    | armed => cases digHold s.trc.digRequested x <;> rfl
    | _ => rfl

/-- R76 to R78: the state that the frame publishes from: TRC's record alone is another. -/
def framed (s : State) : State := s.modTrc fun _ => (driveFrame s).trc

theorem slewed_eq (s : State) : slewed s = s.modTrc fun _ => (slewed s).trc := by
  unfold slewed
  rw [slewAxle_eq .rear, slewAxle_eq .front]
  rfl

theorem classifyTraction_chooseModes_eq (s : State) (t : Trc) : classifyTraction (chooseModes (s.modTrc fun _ => t)) =
    s.modTrc fun _ => (classifyTraction (chooseModes (s.modTrc fun _ => t))).trc := by
  rw [classifyTraction_eq]
  rfl

theorem driveFrame_framed (s : State) : driveFrame s = publishDuties (framed s) := by
  have hchosen := classifyTraction_chooseModes_eq s (slewed s).trc
  rw [← slewed_eq] at hchosen
  have htrc : (classifyTraction (chooseModes (slewed s))).trc = (driveFrame s).trc := by
    rw [driveFrame_eq]
    simp
  rw [htrc] at hchosen
  rw [driveFrame_eq, hchosen, framed]

theorem driveFrame_steers (s : State) : SteerFollowsDuties s (driveFrame s) := by
  have hsteer := publishDuties_steers (framed s)
  rw [← driveFrame_framed] at hsteer
  exact hsteer.congr rfl rfl rfl rfl rfl

theorem driveFrame_scan (s : State) : SameScan s (driveFrame s) := by
  rw [driveFrame_framed]
  exact publishDuties_scan rfl

theorem driveFrame_hazard (s : State) : (driveFrame s).ltc.hazard = s.ltc.hazard := by
  rw [driveFrame_framed, publishDuties_hazard]
  rfl

theorem overlayTested_driveFrame (s : State) (c : Chan) : OverlayTested (driveFrame s) c (s.chan c) := by
  rw [driveFrame_framed]
  exact overlayTested_publishDuties (framed s) c

/-- What the frame takes up. -/
def frameTaken (s : State) : State :=
  { s with trc := { s.trc with digInForce := s.trc.digRequested, ratioInForce := s.cfg.trc.frontRatio } }

theorem passes_driveFrame (s : State) : Passes s (driveFrame s) := by
  have hframed : Passes s (framed s) := .of_eq rfl rfl rfl rfl rfl rfl rfl
  rw [driveFrame_framed]
  exact hframed.trans (passes_publishDuties _)

theorem parksFrom_driveFrame (s : State) : ParksFrom (frameTaken s) (driveFrame s) := by
  have hscan := driveFrame_scan s
  have hsteer := driveFrame_steers s
  unfold SteerFollowsDuties at hsteer
  have hpasses := passes_driveFrame s
  exact
    { comparator := by simp [frameTaken]
      measured := by simp [frameTaken]
      scn := hscan.1
      digRequested := by rw [driveFrame_trc]; rfl
      digInForce := by rw [driveFrame_trc]; rfl
      ratio := by rw [driveFrame_trc]; rfl
      mode := by rw [hsteer]; rfl
      period := by rw [hsteer]; rfl
      passes := ⟨hpasses.cfg, hpasses.store, hpasses.lmx, hpasses.pending⟩ }

/-- R13: a frame that completes a shutdown. -/
theorem driveFrame_done_iff (s : State) : ShutdownDone (driveFrame s) ↔ s.vsc.op = .shuttingDown ∧
    cutTo (frameLimit s .front) (frameSlew s .front) = 0 ∧ cutTo (frameLimit s .rear) (frameSlew s .rear) = 0 ∧
    (s.unit 0).state = .idle ∧ s.wch.clutch.moving = false := by
  have hunit : (driveFrame s).unit 0 = s.unit 0 := by simp [State.unit]
  have hvsc : (driveFrame s).vsc = s.vsc := by simp
  have hwch : (driveFrame s).wch = s.wch := by simp
  rw [ShutdownDone, hunit, hvsc, hwch, PerAxle.eq_mk_iff, ← driveFrame_applied, ← driveFrame_applied, and_assoc]
  rfl

/-- Settles O33: the frame's record of TRC, field by field, and the completion test after it. -/
theorem driveFrameSlews : Obligations.DriveFrameSlews := by
  intro s
  refine ⟨fun hoff => congrArg Host.Outcome.next (if_pos hoff), fun hon =>
    ⟨completionTest (driveFrame s), congrArg Host.Outcome.next (if_neg hon), ?_⟩⟩
  have htaken : Passes (frameTaken s) (driveFrame s) := by
    have hs : Passes (frameTaken s) s := .of_eq rfl rfl rfl rfl rfl rfl rfl
    exact hs.trans (passes_driveFrame s)
  have hpgc : (driveFrame s).pgc = s.pgc := by simp
  by_cases hdone : ShutdownDone (driveFrame s)
  · have hcompletes := (driveFrame_done_iff s).mp hdone
    have hpasses := (passes_driveFrame s).trans (passes_enterParked .shutdownComplete _)
    have hwch : (driveFrame s).wch = s.wch := by simp
    have henters := entersParked_enterParked (parksFrom_driveFrame s) htaken .shutdownComplete
    rw [hwch] at henters
    rw [completionTest_done hdone]
    refine ⟨fun x => ?_, ?_, ?_, ?_, ?_, ?_, tractionOk_enterParked _ _, fun _ => ⟨henters, ?_, ?_⟩,
      fun hnot => absurd hcompletes hnot, hpasses.sup, hpasses.lnk, hpasses.stores, hpasses.levels, hpasses.lightUnits⟩
    · rw [enterParked_trc]
      cases x with
      | front => exact hcompletes.2.1.symm
      | rear => exact hcompletes.2.2.1.symm
    · rw [enterParked_trc, driveFrame_trc]; rfl
    · rw [enterParked_trc, driveFrame_trc]; rfl
    · rw [enterParked_trc, driveFrame_trc]; rfl
    · rw [enterParked_trc, driveFrame_trc]; rfl
    · rw [enterParked_trc, driveFrame_trc]; rfl
    · exact completed_notices (by simp) hpgc hdone.1
    · rw [enterParked_context, State.unit, hpgc, State.unit]
  · have hpasses := passes_driveFrame s
    rw [completionTest_not hdone]
    refine ⟨driveFrame_applied s, ?_, ?_, ?_, ?_, ?_, tractionOk_driveFrame s,
      fun hyes => absurd ((driveFrame_done_iff s).mpr hyes) hdone, fun _ => ⟨by simp, by simp, by simp, hpgc, ?_, ?_, ?_, ?_,
        ?_, ?_, fun c => ?_, ?_, driveFrame_limiter s, driveFrame_mode s⟩,
      hpasses.sup, hpasses.lnk, hpasses.stores, hpasses.levels, hpasses.lightUnits⟩
    · rw [driveFrame_trc]; rfl
    · rw [driveFrame_trc]; rfl
    · rw [driveFrame_trc]; rfl
    · rw [driveFrame_trc]; rfl
    · rw [driveFrame_trc]; rfl
    · rw [driveFrame_trc]; rfl
    · rw [driveFrame_trc]; rfl
    · rw [driveFrame_trc]; rfl
    · rw [PerAxle.eq_mk_iff, driveFrame_trc]
      exact ⟨aimed_target s .front, aimed_target s .rear⟩
    · exact driveFrame_scan s
    · exact driveFrame_hazard s
    · exact overlayTested_driveFrame s c
    · exact driveFrame_steers s

end Sys2Proof.Machine

/-! The entries that ask the winch unit to end (01 R9, R12, R14, R19), up to the winch's answer. -/

namespace Sys2Proof.Machine

/-! ## The entry actions before the winch is asked -/

/-- What the entry actions leave as the event found it, before the winch unit is asked. -/
structure Asked (s q : State) : Prop where
  passes : Passes s q
  parks : ParksFrom s q
  wch : q.wch = s.wch
  context : { q.unit 0 with stacked := none } = { s.unit 0 with stacked := none }
  scan : SameScan s q
  duty : ∀ b, q.duty b ≠ 0 → s.duty b ≠ 0
  assist : q.trc.assist = s.trc.assist

theorem Asked.trans {s q r : State} (h : Asked s q) (k : Asked q r) : Asked s r where
  passes := h.passes.trans k.passes
  parks := h.parks.trans k.parks
  wch := k.wch.trans h.wch
  context := k.context.trans h.context
  scan := h.scan.trans k.scan k.duty
  duty := fun b hb => h.duty b (k.duty b hb)
  assist := k.assist.trans h.assist

/-- An action on VSC, STC or LTC alone, or an offer. -/
theorem Asked.of_eq {s q : State} (hpasses : Passes s q) (hwch : q.wch = s.wch) (htrc : q.trc = s.trc)
    (hscn : q.scn = s.scn) (hcomparator : q.vsc.comparator = s.vsc.comparator)
    (hmeasured : q.vsc.measured = s.vsc.measured) (hmode : q.stc.mode = s.stc.mode)
    (hperiod : q.stc.framePeriod = s.stc.framePeriod)
    (hcontext : { q.unit 0 with stacked := none } = { s.unit 0 with stacked := none }) : Asked s q := by
  have hduty (b : Bridge) : q.duty b = s.duty b := duty_of_eq (by rw [htrc]) (by rw [hwch]) b
  exact
    { passes := hpasses
      parks :=
        { comparator := hcomparator
          measured := hmeasured
          scn := by rw [hscn]
          digRequested := by rw [htrc]
          digInForce := by rw [htrc]
          ratio := by rw [htrc]
          mode := hmode
          period := hperiod
          passes := hpasses.stores }
      wch := hwch
      context := hcontext
      scan := .of_eq hscn hduty
      duty := fun b hb => hduty b ▸ hb
      assist := by rw [htrc] }

theorem asked_modVsc (s : State) (f : Vsc → Vsc) (hcomparator : (f s.vsc).comparator = s.vsc.comparator)
    (hmeasured : (f s.vsc).measured = s.vsc.measured) : Asked s (s.modVsc f) :=
  .of_eq (.of_eq rfl rfl rfl rfl rfl rfl rfl) rfl rfl rfl hcomparator hmeasured rfl rfl rfl

theorem asked_offer (o : Offer) (s : State) : Asked s (offer o s) :=
  .of_eq (passes_offer o s) (by simp) (by simp) (by simp) (by simp) (by simp) (by simp) (by simp) (offer_context o s 0)

theorem asked_changeOp (new : OpState) (cause : OpCause) (s : State) : Asked s (changeOp new cause s) :=
  (asked_modVsc s (fun v => { v with op := new }) rfl rfl).trans (asked_offer _ _)

theorem asked_modStc (s : State) (f : Stc → Stc) (hmode : (f s.stc).mode = s.stc.mode)
    (hperiod : (f s.stc).framePeriod = s.stc.framePeriod) : Asked s (s.modStc f) :=
  .of_eq (.of_eq rfl rfl rfl rfl rfl rfl rfl) rfl rfl rfl rfl rfl hmode hperiod rfl

theorem asked_hazardStart (s : State) : Asked s (hazardStart s) :=
  .of_eq (passes_hazardStart s) rfl rfl rfl rfl rfl rfl rfl rfl

theorem asked_hazardStop (s : State) : Asked s (hazardStop s) :=
  .of_eq (passes_hazardStop s) rfl rfl rfl rfl rfl rfl rfl rfl

/-- R96: where STC follows the duties it keeps its mode and its frame period. -/
theorem publishDuties_mode (s : State) :
    (publishDuties s).stc.mode = s.stc.mode ∧ (publishDuties s).stc.framePeriod = s.stc.framePeriod := by
  have h := publishDuties_steers s
  unfold SteerFollowsDuties at h
  rw [h]
  exact ⟨rfl, rfl⟩

/-- TRC changes its record, drives no bridge with it and publishes. -/
theorem asked_publish (s : State) (f : Trc → Trc) (hdig : (f s.trc).digRequested = s.trc.digRequested)
    (hforce : (f s.trc).digInForce = s.trc.digInForce) (hratio : (f s.trc).ratioInForce = s.trc.ratioInForce)
    (hassist : (f s.trc).assist = s.trc.assist)
    (hduty : ∀ x : Axle, s.trc.applied.get x = 0 → (f s.trc).applied.get x = 0) : Asked s (publishDuties (s.modTrc f)) where
  passes := passes_publishTrc s f
  parks :=
    { comparator := by simp
      measured := by simp
      scn := (publishDuties_scan (s := s) (t := s.modTrc f) rfl).1
      digRequested := by simpa using hdig
      digInForce := by simpa using hforce
      ratio := by simpa using hratio
      mode := (publishDuties_mode _).1
      period := (publishDuties_mode _).2
      passes := (passes_publishTrc s f).stores }
  wch := by simp
  context := by simp [State.unit]
  scan := publishDuties_scan rfl
  duty := fun b hb => by
    cases b with
    | winch => simpa [State.duty] using hb
    | front =>
      refine fun h => hb ?_
      have hstopped : (f s.trc).applied.front = 0 := hduty .front (Int.natAbs_eq_zero.mp h)
      simp [State.duty, hstopped]
    | rear =>
      refine fun h => hb ?_
      have hstopped : (f s.trc).applied.rear = 0 := hduty .rear (Int.natAbs_eq_zero.mp h)
      simp [State.duty, hstopped]
  assist := by simpa using hassist

/-! ## The winch's answer -/

section
variable {s q : State} (h : Asked s q)
include h

theorem Asked.unit_state : (q.unit 0).state = (s.unit 0).state := (congrArg UnitCtx.state h.context :)

/-- R119: the status of a program that is cut short. -/
theorem Asked.winchEnding (cause : EndCause) : winchEnding q cause = Machine.winchEnding s cause := by
  unfold Machine.winchEnding
  rw [h.wch, endingOf_congr h.passes.store h.context]

/-- R119, R140: the program ends, and nothing else. -/
theorem Asked.winchEnded (cause : EndCause) : WinchEnded s (winchEnd cause q) := by
  refine ⟨(unitEnded_winchEnd cause q).trans ?_, ?_, ?_⟩
  · exact (congrArg (fun x : UnitCtx => { x with state := .idle, haltCause := none, stacked := none }) h.context :)
  · rw [winchEnd_ended, h.wch]
  · rw [winchEnd_trc]

theorem Asked.winchKept : WinchKept s q := ⟨h.context, h.wch, h.assist⟩

theorem Asked.notices_winchEnd {noticed : State} (hnotices : SameNotices q noticed) {cause : EndCause}
    (hcause : cause ≠ .complete) :
    SameNotices (winchEnd cause q) (offerEnding (Machine.winchEnding s cause) noticed) := by
  have hended := sameNotices_winchEnd cause q
  rw [endResidual, if_neg hcause] at hended
  have hending : endingOf q 0 cause (winchResidual q.wch) (q.wch.position / 10) = Machine.winchEnding s cause :=
    h.winchEnding cause
  rw [hending] at hended
  exact hended.trans (hnotices.offerEnding _)

end

/-- R119, R140: what the end of a program leaves to an entry to PARKED. -/
theorem parksFrom_winchEnd (cause : EndCause) (q : State) : ParksFrom q (winchEnd cause q) where
  comparator := by simp
  measured := by simp
  scn := (sameScan_winchEnd cause q).1
  digRequested := by rw [winchEnd_trc]
  digInForce := by rw [winchEnd_trc]
  ratio := by rw [winchEnd_trc]
  mode := by simp
  period := by simp
  passes := (passes_winchEnd cause q).stores

/-- R128, R16: the entry to PARKED stops the clutch, moving or not. -/
def Wch.parked (w : Wch) : Wch := { w with
  clutch := if w.clutch.moving then .unknown else w.clutch
  clutchTimer := if w.clutch.moving then none else w.clutchTimer
  pulse := none }

theorem Wch.parked_parked (w : Wch) : w.parked.parked = w.parked := by
  unfold Wch.parked
  cases hm : w.clutch.moving
  · simp [hm]
  · simp [ClutchState.moving]

/-- R16: the clutch is parked once. -/
theorem EntersParked.ofParked {s t : State} {w : Wch} (h : EntersParked s t w.parked) : EntersParked s t w := by
  obtain ⟨⟨hop, hlatch, hhold, hgrace, horigin, hcomparator, hmeasured, hscn, hstate, htrchold, hthrottle, htarget,
    happlied, hmode, hlimiter, hbraking, hopen, hdig, hdigIn, hratio, hstc, hwch, hrest⟩, hsettle⟩ := h
  have hwch' : t.wch = w.parked := (show t.wch = w.parked.parked from hwch).trans w.parked_parked
  exact ⟨⟨hop, hlatch, hhold, hgrace, horigin, hcomparator, hmeasured, hscn, hstate, htrchold, hthrottle, htarget,
    happlied, hmode, hlimiter, hbraking, hopen, hdig, hdigIn, hratio, hstc, hwch', hrest⟩, hsettle⟩

/-! ## The forced shutdown (01 R14) -/

theorem asked_tractionForced (s : State) : Asked s (tractionForced s) :=
  asked_publish s axlesOpen rfl rfl rfl rfl fun x _ => by cases x <;> rfl

/-- R14, R117: the winch unit has been ended, if it was active. -/
theorem Asked.winchKill_cases {s q : State} (h : Asked s q) (cause : EndCause) :
    ((s.unit 0).state = .idle ∧ winchKill cause q = q) ∨ ((s.unit 0).state ≠ .idle ∧ winchKill cause q = winchEnd cause q) := by
  have hstate := h.unit_state
  cases hs : (s.unit 0).state <;> simp [winchKill, hstate, hs]

/-- R14, R16: the entry to PARKED from the state in which the winch unit has been ended. -/
theorem parkedForced {s noticed : State} (hop : s.vsc.op = .shuttingDown)
    (hparks : ParksFrom s (winchKill .forced (tractionForced s))) (hpasses : Passes s (winchKill .forced (tractionForced s)))
    (hnotices : SameNotices (winchKill .forced (tractionForced s)) noticed) :
    EntersParked s (forceShutdown s) (winchKill .forced (tractionForced s)).wch ∧
    (forceShutdown s).vsc = { s.vsc with op := .parked, latch := true, hold := none, grace := none, origin := .none } ∧
    SameNotices (forceShutdown s) (offer (.opstate .parked .shuttingDown .shutdownForced) noticed) ∧
    { (forceShutdown s).unit 0 with stacked := none } =
      { (winchKill .forced (tractionForced s)).unit 0 with stacked := none } ∧
    (forceShutdown s).trc.assist = (winchKill .forced (tractionForced s)).trc.assist := by
  have hvsc : (parkClutch (winchKill .forced (tractionForced s))).vsc = s.vsc := by simp
  have hclutch (q : State) : ParksFrom q (parkClutch q) := ⟨rfl, rfl, rfl, rfl, rfl, rfl, rfl, rfl, rfl, rfl, rfl, rfl⟩
  have hkeeps (q : State) : Passes q (parkClutch q) := .of_eq rfl rfl rfl rfl rfl rfl rfl
  have hsame (q : State) : SameNotices (parkClutch q) q := ⟨rfl, fun _ => rfl⟩
  have henters := entersParked_enterParked (hparks.trans (hclutch _)) (hpasses.trans (hkeeps _)) .shutdownForced
  rw [parkClutch_wch] at henters
  have hoffered := sameNotices_enterParked .shutdownForced (parkClutch (winchKill .forced (tractionForced s)))
  rw [hvsc, hop] at hoffered
  refine ⟨EntersParked.ofParked henters, ?_, hoffered.trans (((hsame _).trans hnotices).offer _), enterParked_context .., ?_⟩
  · rw [forceShutdown, enterParked_vsc, hvsc]
  · rw [forceShutdown, enterParked_trc]
    rfl

/-- Settles O20: the axles open, the winch unit ends, and the part is parked from there. -/
theorem graceExpiryForces : Obligations.GraceExpiryForces := by
  intro s
  refine ⟨fun hnot => congrArg Host.Outcome.next ?_, fun hruns hop => ⟨forceShutdown s, congrArg Host.Outcome.next ?_, ?_⟩⟩
  · unfold graceExpiry
    obtain hnone | hop := hnot
    · rw [hnone]
    · split
      · rfl
      · exact if_neg hop
  · obtain ⟨n, hn⟩ := Option.isSome_iff_exists.mp hruns
    simp only [graceExpiry, hn, if_pos hop]
  have hasked := asked_tractionForced s
  have hforced : SameNotices (tractionForced s) s := .of_eq (by simp) (by simp)
  obtain ⟨hidle, hkill⟩ | ⟨hactive, hkill⟩ := hasked.winchKill_cases .forced
  · obtain ⟨henters, hvsc, hnotices, hcontext, hassist⟩ :=
      parkedForced hop (by rw [hkill]; exact hasked.parks) (by rw [hkill]; exact hasked.passes)
        (by rw [hkill]; exact hforced)
    rw [hkill] at henters hcontext hassist
    rw [if_pos hidle, ← hasked.wch]
    exact ⟨henters, by rw [hvsc], by rw [hvsc], by simp [forceShutdown],
      fun _ => ⟨hnotices, hassist.trans hasked.assist, hcontext.trans hasked.context⟩, fun hactive => absurd hidle hactive⟩
  · obtain ⟨hunit, hwch, hnone⟩ := hasked.winchEnded .forced
    have hended := hasked.notices_winchEnd hforced (cause := .forced) (by decide)
    obtain ⟨henters, hvsc, hnotices, hcontext, hassist⟩ :=
      parkedForced hop (by rw [hkill]; exact hasked.parks.trans (parksFrom_winchEnd .forced _))
        (by rw [hkill]; exact hasked.passes.trans (passes_winchEnd .forced _)) (by rw [hkill]; exact hended)
    rw [hkill] at henters hcontext hassist
    rw [if_neg hactive, ← hwch]
    exact ⟨henters, by rw [hvsc], by rw [hvsc], by simp [forceShutdown], fun hidle => absurd hidle hactive,
      fun _ => ⟨hnotices, hassist.trans hnone, hcontext.trans hunit⟩⟩

end Sys2Proof.Machine

/-! PARK (01 R6, R12, R13, R21). -/

namespace Sys2Proof.Machine

/-! ## The entry actions of SHUTTING_DOWN (01 R12, 04 R82, 05 R101) -/

/-- R82: TRC's record at the entry to SHUTTING_DOWN. -/
def Trc.shutdown (op : OpState) (drag : Nat) (t : Trc) : Trc :=
  let held : Trc := { t with hold := .shutdown, throttle := 0, target := .both 0 }
  Trc.classified op { held with mode := PerAxle.of (modeOf op drag held), dragInForce := drag }

theorem tractionShutdown_eq (s : State) :
    tractionShutdown s = publishDuties (s.modTrc (Trc.shutdown s.vsc.op s.cfg.trc.dragBrake)) := rfl

/-- R12: the operating state, the timers and the origin. -/
def Vsc.shutdown (v : Vsc) (origin : Origin) (grace : Nat) : Vsc :=
  { v with op := .shuttingDown, origin := origin, hold := none, grace := some grace }

theorem wakeAtPresent_eq (s : State) : wakeAtPresent s.stc = { s.stc with output := wokenOutput s } := by
  unfold wakeAtPresent wokenOutput
  split
  · rename_i hout
    rw [if_pos hout]
  all_goals
    rename_i hout
    rw [if_neg (by rw [hout]; nofun)]

section
variable (origin : Origin) (cause : OpCause) (s : State)

theorem asked_shutdownAsked : Asked s (shutdownAsked origin cause s) := by
  have hvsc := asked_modVsc s (fun v => { v with origin := origin, hold := none, grace := some s.cfg.vsc.grace }) rfl rfl
  have hsteer (q : State) : Asked q (steerShutdown q) := by
    unfold steerShutdown
    exact asked_modStc q _ (by rw [wakeAtPresent_eq]) (by rw [wakeAtPresent_eq])
  have htraction (q : State) : Asked q (tractionShutdown q) := by
    rw [tractionShutdown_eq]
    exact asked_publish q (Trc.shutdown _ _) rfl rfl rfl rfl fun _ hx => hx
  exact (hvsc.trans (asked_changeOp _ _ _)).trans ((hsteer _).trans ((htraction _).trans (asked_hazardStop _)))

theorem shutdownAsked_vsc : (shutdownAsked origin cause s).vsc = s.vsc.shutdown origin s.cfg.vsc.grace := by
  simp [shutdownAsked, changeOp_vsc, Vsc.shutdown]

theorem shutdownAsked_trc : (shutdownAsked origin cause s).trc = s.trc.shutdown .shuttingDown s.cfg.trc.dragBrake := by
  have hstop (q : State) : (hazardStop q).trc = q.trc := rfl
  rw [shutdownAsked, hstop, tractionShutdown_eq]
  simp [changeOp_vsc]

theorem shutdownAsked_stc : (shutdownAsked origin cause s).stc =
    { s.stc with out := .pulsing, frozen := false, relax := none, output := wokenOutput s } := by
  have hstop (q : State) : (hazardStop q).stc = q.stc := rfl
  have hkept (q : State) (h : q.vsc.op = .shuttingDown) : (tractionShutdown q).stc = { q.stc with relax := none } := by
    rw [tractionShutdown_eq]
    exact (publishDuties_steers (q.modTrc (Trc.shutdown _ _))).unarmed (by simp [h])
  rw [shutdownAsked, hstop, hkept _ (by simp [changeOp_vsc]), steerShutdown]
  have hwoken (q : State) (h : q.stc = s.stc) : wakeAtPresent q.stc = { s.stc with output := wokenOutput s } := by
    rw [h, wakeAtPresent_eq]
  rw [State.modStc_stc, hwoken _ (by simp)]

theorem tractionOk_of_classified {s : State} {op : OpState} {t : Trc} (hop : s.vsc.op = op) (htrc : s.trc = t.classified op) :
    TractionOk s := by
  refine (classified_iff s).mp ⟨?_, ?_⟩
  · rw [hop, htrc]
    rfl
  · rw [hop, htrc]
    rfl

theorem overlaysRight_shutdownAsked : OverlaysRight (shutdownAsked origin cause s) := overlaysRight_overlayTests _

theorem sameNotices_shutdownAsked :
    SameNotices (shutdownAsked origin cause s) (offer (.opstate .shuttingDown s.vsc.op cause) s) := by
  have hvsc : SameNotices (s.modVsc fun v => { v with origin := origin, hold := none, grace := some s.cfg.vsc.grace }) s :=
    ⟨rfl, fun _ => rfl⟩
  have hactions (q : State) : SameNotices (hazardStop (tractionShutdown (steerShutdown q))) q := .of_eq (by simp) (by simp)
  exact (hactions _).trans ((sameNotices_changeOp _ _ _).trans (hvsc.offer _))

end

/-! ## The halt of the winch unit (06 R116, R117) -/

/-- R13, R116: the completion test after a halt is made once. -/
theorem completionTest_winchHalt (cause : EndCause) (s : State) :
    completionTest (winchHalt cause s) = completionTest (haltWinch cause s) := by
  obtain h | h := winchHalt_eq cause s <;> rw [h]
  exact completionTest_twice _

section
variable {s q : State} (h : Asked s q) {cause : EndCause}
include h

/-- R116, R117: the three cases of the halt, as the event found the unit. -/
theorem Asked.haltWinch_cases :
    ((s.unit 0).state = .running ∧ s.wch.clutch.moving = false ∧ haltWinch cause q = winchEnd cause q) ∨
    ((s.unit 0).state = .running ∧ s.wch.clutch.moving = true ∧
      haltWinch cause q = q.modUnit 0 fun x => { x with state := .halting, haltCause := some cause }) ∨
    ((s.unit 0).state ≠ .running ∧ haltWinch cause q = q) := by
  have hcases := Machine.haltWinch_cases cause q
  rwa [h.unit_state, h.wch] at hcases

theorem Asked.winchHalted : WinchHalted s (haltWinch cause q) cause := by
  obtain ⟨hrun, hstill, ht⟩ | ⟨hrun, hmoves, ht⟩ | ⟨hnot, ht⟩ := h.haltWinch_cases (cause := cause) <;> rw [ht]
  · exact ⟨fun _ hm => by simp [hstill] at hm, fun _ _ => h.winchEnded cause, fun hno => absurd hrun hno⟩
  · refine ⟨fun _ _ => ⟨?_, h.wch, h.assist⟩, fun _ hm => by simp [hmoves] at hm, fun hno => absurd hrun hno⟩
    rw [State.unit_modUnit_self]
    exact (congrArg (fun x : UnitCtx => { x with state := .halting, haltCause := some cause, stacked := none }) h.context :)
  · exact ⟨fun hrun => absurd hrun hnot, fun hrun => absurd hrun hnot, fun _ => h.winchKept⟩

theorem Asked.passes_haltWinch : Passes s (haltWinch cause q) := by
  obtain ⟨-, -, ht⟩ | ⟨-, -, ht⟩ | ⟨-, ht⟩ := h.haltWinch_cases (cause := cause) <;> rw [ht]
  · exact h.passes.trans (passes_winchEnd cause q)
  · exact h.passes.trans (passes_modUnit_zero q _)
  · exact h.passes

theorem Asked.sameScan_haltWinch : SameScan s (haltWinch cause q) := by
  obtain ⟨-, -, ht⟩ | ⟨-, -, ht⟩ | ⟨-, ht⟩ := h.haltWinch_cases (cause := cause) <;> rw [ht]
  · exact h.scan.trans (sameScan_winchEnd cause q) fun b => winchEnd_duty
  · exact h.scan
  · exact h.scan

theorem Asked.parksFrom_haltWinch : ParksFrom s (haltWinch cause q) := by
  obtain ⟨-, -, ht⟩ | ⟨-, -, ht⟩ | ⟨-, ht⟩ := h.haltWinch_cases (cause := cause) <;> rw [ht]
  · exact h.parks.trans (parksFrom_winchEnd cause q)
  · exact h.parks.trans ⟨rfl, rfl, rfl, rfl, rfl, rfl, rfl, rfl, rfl, rfl, rfl, rfl⟩
  · exact h.parks

/-- R117, R119: a unit that ends at once offers its status. -/
theorem Asked.notices_haltWinch {noticed : State} (hnotices : SameNotices q noticed) (hcause : cause ≠ .complete) :
    SameNotices (haltWinch cause q) (if (s.unit 0).state = .running ∧ s.wch.clutch.moving = false
      then offerEnding (Machine.winchEnding s cause) noticed else noticed) := by
  obtain ⟨hrun, hstill, ht⟩ | ⟨hrun, hmoves, ht⟩ | ⟨hnot, ht⟩ := h.haltWinch_cases (cause := cause) <;> rw [ht]
  · rw [if_pos ⟨hrun, hstill⟩]
    exact h.notices_winchEnd hnotices hcause
  · rw [if_neg fun hc => by simp [hmoves] at hc]
    have hhalting : SameNotices (q.modUnit 0 fun x => { x with state := .halting, haltCause := some cause }) q :=
      .modUnit q 0 fun _ => rfl
    exact hhalting.trans hnotices
  · rw [if_neg fun hc => hnot hc.1]
    exact hnotices

end

theorem haltWinch_trc_eq (cause : EndCause) (s : State) :
    (haltWinch cause s).trc = { s.trc with assist := (haltWinch cause s).trc.assist } := by
  obtain ⟨-, -, ht⟩ | ⟨-, -, ht⟩ | ⟨-, ht⟩ := haltWinch_cases cause s <;> rw [ht]
  · rw [winchEnd_trc]
  · rfl

theorem haltWinch_surroundings (cause : EndCause) (s : State) : (haltWinch cause s).vsc = s.vsc ∧
    (haltWinch cause s).stc = s.stc ∧ (haltWinch cause s).ltc = s.ltc := by
  obtain ⟨-, -, ht⟩ | ⟨-, -, ht⟩ | ⟨-, ht⟩ := haltWinch_cases cause s <;> rw [ht] <;> simp

/-! ## A shutdown begins (01 R12, R13) -/

/-- R12, R13: the state in which the completion test at the beginning of a shutdown is made. -/
def shutdownHalted (origin : Origin) (cause : OpCause) (s : State) : State :=
  haltWinch origin.endCause (shutdownAsked origin cause s)

section
variable (origin : Origin) (cause : OpCause) (s : State)

theorem beginShutdown_halted : beginShutdown origin cause s = completionTest (shutdownHalted origin cause s) :=
  completionTest_winchHalt _ _

theorem shutdownHalted_vsc : (shutdownHalted origin cause s).vsc = s.vsc.shutdown origin s.cfg.vsc.grace := by
  rw [shutdownHalted, (haltWinch_surroundings _ _).1, shutdownAsked_vsc]

theorem shutdownHalted_trc : (shutdownHalted origin cause s).trc =
    { s.trc.shutdown .shuttingDown s.cfg.trc.dragBrake with assist := (shutdownHalted origin cause s).trc.assist } := by
  have h := haltWinch_trc_eq origin.endCause (shutdownAsked origin cause s)
  rwa [shutdownAsked_trc] at h

theorem shutdownHalted_winch : WinchHalted s (shutdownHalted origin cause s) origin.endCause :=
  (asked_shutdownAsked origin cause s).winchHalted

/-- R116, R117: whether the winch unit has ended, and the clutch. -/
theorem shutdownHalted_idle_iff : (((shutdownHalted origin cause s).unit 0).state = .idle ∧
      (shutdownHalted origin cause s).wch.clutch.moving = false) ↔
    s.wch.clutch.moving = false ∧ (s.unit 0).state ≠ .halting := by
  obtain ⟨hmoving, hends, hkept⟩ := shutdownHalted_winch origin cause s
  by_cases hrun : (s.unit 0).state = .running
  · cases hm : s.wch.clutch.moving with
    | true =>
      have hstate : ((shutdownHalted origin cause s).unit 0).state = .halting :=
        (congrArg UnitCtx.state (hmoving hrun hm).1 :)
      simp [hstate]
    | false =>
      obtain ⟨hunit, hwch, -⟩ := hends hrun hm
      have hstate : ((shutdownHalted origin cause s).unit 0).state = .idle := (congrArg UnitCtx.state hunit :)
      simp [hstate, hwch, Wch.ended, hm, hrun]
  · obtain ⟨hcontext, hwch, -⟩ := hkept hrun
    have hstate : ((shutdownHalted origin cause s).unit 0).state = (s.unit 0).state :=
      (congrArg UnitCtx.state hcontext :)
    rw [hstate, hwch]
    cases hs : (s.unit 0).state with
    | running => exact absurd hs hrun
    | _ => simp

/-- R13: what the completion test finds. -/
theorem shutdownHalted_done_iff : ShutdownDone (shutdownHalted origin cause s) ↔ atRest s := by
  have hidle := shutdownHalted_idle_iff origin cause s
  have hop : (shutdownHalted origin cause s).vsc.op = .shuttingDown := by
    rw [shutdownHalted_vsc]
    rfl
  have happlied : (shutdownHalted origin cause s).trc.applied = s.trc.applied := by
    rw [shutdownHalted_trc]
    rfl
  unfold ShutdownDone atRest
  rw [hidle, happlied]
  exact ⟨And.right, fun h => ⟨hop, h⟩⟩

/-- R12: what the beginning of a shutdown leaves. -/
theorem beginsShutdown : BeginsShutdown s (beginShutdown origin cause s) origin origin.endCause := by
  have hasked := asked_shutdownAsked origin cause s
  have hhalted := shutdownHalted_winch origin cause s
  have hdone := shutdownHalted_done_iff origin cause s
  have hvsc := shutdownHalted_vsc origin cause s
  have htrc := shutdownHalted_trc origin cause s
  have hpasses : Passes s (shutdownHalted origin cause s) := hasked.passes_haltWinch
  rw [beginShutdown_halted]
  by_cases hrest : atRest s
  · have hstill : s.wch.clutch.moving = false := hrest.2.1
    obtain ⟨-, hends, hkept⟩ := hhalted
    have hcontext := enterParked_context .shutdownComplete (shutdownHalted origin cause s) 0
    have hassist : (enterParked .shutdownComplete (shutdownHalted origin cause s)).trc.assist =
        (shutdownHalted origin cause s).trc.assist := by
      rw [enterParked_trc]
      rfl
    have henters := entersParked_enterParked hasked.parksFrom_haltWinch hpasses .shutdownComplete
    have hwch : (shutdownHalted origin cause s).wch = if (s.unit 0).state = .running then s.wch.ended else s.wch := by
      split
      · rename_i hrun
        exact (hends hrun hstill).2.1
      · rename_i hrun
        exact (hkept hrun).2.1
    rw [completionTest_done (hdone.mpr hrest)]
    refine ⟨fun _ => ⟨hwch ▸ henters, fun hrun => ?_, fun hidle => ?_⟩, ?_, ?_, fun hno => absurd hrest hno⟩
    · obtain ⟨hunit, -, hnone⟩ := hends hrun hstill
      exact ⟨hcontext.trans hunit, hassist.trans hnone⟩
    · obtain ⟨hunit, -, hsame⟩ := hkept (by rw [hidle]; nofun)
      exact ⟨hcontext.trans hunit, hassist.trans hsame⟩
    · rw [enterParked_trc, htrc]
      rfl
    · rw [enterParked_trc, htrc]
      rfl
  · have hhazard : (shutdownHalted origin cause s).ltc.hazard = none :=
      (congrArg Ltc.hazard (haltWinch_surroundings origin.endCause (shutdownAsked origin cause s)).2.2).trans rfl
    have hsettles : OverlaysSettle s (shutdownHalted origin cause s) :=
      hpasses.settles ((overlaysRight_shutdownAsked origin cause s).of_same (sameOverlays_haltWinch _ _)).ok hhazard
    have hop : (shutdownHalted origin cause s).vsc.op = .shuttingDown := by
      rw [hvsc]
      rfl
    have hstc : (shutdownHalted origin cause s).stc =
        { s.stc with out := .pulsing, frozen := false, relax := none, output := wokenOutput s } :=
      (haltWinch_surroundings origin.endCause (shutdownAsked origin cause s)).2.1.trans (shutdownAsked_stc origin cause s)
    have hclassified : Classified (shutdownHalted origin cause s) :=
      ⟨by rw [hop, htrc]; rfl, by rw [hop, htrc]; rfl⟩
    rw [completionTest_not fun hd => hrest (hdone.mp hd)]
    refine ⟨fun hyes => absurd hyes hrest, by rw [htrc]; rfl, by rw [htrc]; rfl, fun _ => ⟨hop, by rw [hvsc]; rfl,
      by rw [hvsc]; rfl, by rw [hvsc]; rfl, by rw [hvsc]; rfl, by rw [htrc]; rfl, by rw [htrc]; rfl, by rw [htrc]; rfl,
      by rw [htrc]; rfl, by rw [htrc]; rfl, (classified_iff _).mp hclassified, by rw [htrc]; rfl, by rw [htrc]; rfl,
      by rw [htrc]; rfl, hstc, by rw [htrc]; rfl, by rw [htrc]; rfl, hasked.sameScan_haltWinch, hhalted, hhazard, hsettles,
      hpasses.sup, hpasses.stores, hpasses.levels, hpasses.lightUnits⟩⟩

/-- R2, R12, R13: the notices of a shutdown that begins. -/
theorem shutdownNotices :
    ShutdownNotices s (beginShutdown origin cause s) (offer (.opstate .shuttingDown s.vsc.op cause) s) origin.endCause := by
  have hcause : origin.endCause ≠ .complete := by cases origin <;> decide
  have hhalted := (asked_shutdownAsked origin cause s).notices_haltWinch (sameNotices_shutdownAsked origin cause s) hcause
  have hdone := shutdownHalted_done_iff origin cause s
  have hop : (shutdownHalted origin cause s).vsc.op = .shuttingDown := by
    rw [shutdownHalted_vsc]
    rfl
  rw [beginShutdown_halted]
  refine ⟨fun hrest => ?_, fun hrest => ?_⟩
  · rw [completionTest_not fun hd => hrest (hdone.mp hd)]
    exact hhalted
  · have hparked := sameNotices_enterParked .shutdownComplete (shutdownHalted origin cause s)
    rw [hop] at hparked
    rw [completionTest_done (hdone.mpr hrest)]
    exact hparked.trans (SameNotices.offer hhalted _)

/-- R12: the trip causes and the expiry count stand. -/
theorem beginShutdown_causes : (beginShutdown origin cause s).vsc.expiryCount = s.vsc.expiryCount ∧
    (beginShutdown origin cause s).vsc.causes = s.vsc.causes := by
  have hvsc := shutdownHalted_vsc origin cause s
  rw [beginShutdown_halted]
  obtain ⟨-, -, h⟩ | ⟨-, h⟩ := completionTest_cases (shutdownHalted origin cause s) <;> rw [h]
  · rw [enterParked_vsc, hvsc]
    exact ⟨rfl, rfl⟩
  · rw [hvsc]
    exact ⟨rfl, rfl⟩

end

/-! ## The statement -/

section
variable {s t : State} (l k : Lnk)

/-- R12: the beginning of a shutdown reads no link. -/
theorem BeginsShutdown.relinked {origin : Origin} {cause : EndCause} (h : BeginsShutdown s t origin cause) :
    BeginsShutdown (s.linked l) (t.linked k) origin cause := by
  obtain ⟨hrest, hdrag, hratio, hruns⟩ := h
  refine ⟨fun hr => ?_, hdrag, hratio, fun hr => ?_⟩
  · obtain ⟨henters, hrun, hidle⟩ := hrest hr
    exact ⟨henters.relinked l k, hrun, hidle⟩
  · obtain ⟨hop, horigin, hhold, hgrace, hlatch, htrchold, hthrottle, htarget, happlied, hstate, htraction, hlast⟩ := hruns hr
    exact ⟨hop, horigin, hhold, hgrace, hlatch, htrchold, hthrottle, htarget, happlied, hstate, htraction.linked k, hlast⟩

theorem sameNotices_linked : SameNotices (s.linked l) s := ⟨rfl, fun _ => rfl⟩

/-- R2, R160: nor do its notices. -/
theorem ShutdownNotices.relinked {noticed noticed' : State} {cause : EndCause} (h : ShutdownNotices s t noticed cause)
    (hsame : SameNotices noticed noticed') : ShutdownNotices (s.linked l) (t.linked k) noticed' cause := by
  obtain ⟨hruns, hrest⟩ := h
  have hhalted : SameNotices
      (if (s.unit 0).state = .running ∧ s.wch.clutch.moving = false then offerEnding (winchEnding s cause) noticed else noticed)
      (if (s.unit 0).state = .running ∧ s.wch.clutch.moving = false then offerEnding (winchEnding s cause) noticed'
        else noticed') := by
    split
    · exact hsame.offerEnding _
    · exact hsame
  exact ⟨fun hr => (sameNotices_linked k).trans ((hruns hr).trans hhalted),
    fun hr => (sameNotices_linked k).trans ((hrest hr).trans (hhalted.offer _))⟩

end

/-- R21: the entry to PARKED from TRIPPED. -/
theorem entersParked_leaveTripped (s : State) : EntersParked s (leaveTripped s) s.wch :=
  have hasked := asked_modVsc s (fun v => { v with causes := .empty, firstCause := none }) rfl rfl
  entersParked_enterParked hasked.parks hasked.passes .tripCleared

/-- Settles O18: PARK by operating state. -/
theorem parkByState : Obligations.ParkByState := by
  intro tag s hfree
  have hunchanged (a : Answer) (h : onPark (s.modLnk (lnkOf ⟨0x11, tag, []⟩)) [] = (s.modLnk (lnkOf ⟨0x11, tag, []⟩), a)) :
      exec (.park tag []) s = .next (replied s s 0x11 tag [] a.outcome a.fields) :=
    congrArg Host.Outcome.next (frameArrives_unchanged .park tag [] s _ hfree h)
  have hchanged (t : State) (a : Answer) (h : onPark (s.modLnk (lnkOf ⟨0x11, tag, []⟩)) [] = (t, a)) :
      exec (.park tag []) s = .next (replied s t 0x11 tag [] a.outcome a.fields) :=
    congrArg Host.Outcome.next (frameArrives_replied .park tag [] s hfree h)
  have hop : (s.modLnk (lnkOf ⟨0x11, tag, []⟩)).vsc.op = s.vsc.op := rfl
  have hsame : SameNotices (s.modLnk (lnkOf ⟨0x11, tag, []⟩)) s := ⟨rfl, fun _ => rfl⟩
  refine ⟨fun hstands => hunchanged (doneWith .none []) ?_, fun hdriven => ?_, fun htripped => ⟨fun hpresent => ?_, fun hnone => ?_⟩⟩
  · obtain h | h := hstands <;> simp only [onPark, hop, h]
  · have hdoes : onPark (s.modLnk (lnkOf ⟨0x11, tag, []⟩)) [] =
        (beginShutdown .shutdown .park (s.modLnk (lnkOf ⟨0x11, tag, []⟩)), doneWith .none []) := by
      obtain h | h := hdriven <;> simp only [onPark, hop, h]
    refine ⟨_, hchanged _ _ hdoes, answeredBy_replied .., ?_, ?_, ?_⟩
    · exact (beginsShutdown .shutdown .park (s.modLnk _)).relinked s.lnk _
    · exact (shutdownNotices .shutdown .park (s.modLnk _)).relinked s.lnk _ (hsame.offer (.opstate .shuttingDown s.vsc.op .park))
    · exact beginShutdown_causes .shutdown .park (s.modLnk _)
  · have htaken : onPark (s.modLnk (lnkOf ⟨0x11, tag, []⟩)) [] = parkTripped (s.modLnk (lnkOf ⟨0x11, tag, []⟩)) := by
      simp only [onPark, hop, htripped]
    refine hunchanged (refusedWith .tripped (u8 (presentConditions s).mask)) (htaken.trans (if_neg hpresent))
  · have htaken : onPark (s.modLnk (lnkOf ⟨0x11, tag, []⟩)) [] = parkTripped (s.modLnk (lnkOf ⟨0x11, tag, []⟩)) := by
      simp only [onPark, hop, htripped]
    have hdoes := htaken.trans (if_pos hnone)
    have hnotices := sameNotices_enterParked .tripCleared
      ((s.modLnk (lnkOf ⟨0x11, tag, []⟩)).modVsc fun v => { v with causes := .empty, firstCause := none })
    have hvsc := enterParked_vsc .tripCleared
      ((s.modLnk (lnkOf ⟨0x11, tag, []⟩)).modVsc fun v => { v with causes := .empty, firstCause := none })
    have hcontext := enterParked_context .tripCleared
      ((s.modLnk (lnkOf ⟨0x11, tag, []⟩)).modVsc fun v => { v with causes := .empty, firstCause := none }) 0
    refine ⟨_, hchanged _ _ hdoes, answeredBy_replied .., (entersParked_leaveTripped (s.modLnk _)).relinked s.lnk _,
      (congrArg Vsc.causes hvsc :), (congrArg Vsc.firstCause hvsc :), (congrArg Vsc.expiryCount hvsc :), ?_,
      hcontext⟩
    have hoffer : SameNotices
        ((s.modLnk (lnkOf ⟨0x11, tag, []⟩)).modVsc fun v => { v with causes := .empty, firstCause := none }) s := ⟨rfl, fun _ => rfl⟩
    have hpark := hnotices.trans (hoffer.offer _)
    rw [State.modVsc_vsc, hop, htripped] at hpark
    exact hpark

end Sys2Proof.Machine

/-! An accepted ARM (01 R4). -/

namespace Sys2Proof.Machine

/-! ## Overlay tests that find nothing to change (08 R152) -/

/-- What the overlay test has made of a channel stands while what it reads does. -/
theorem OverlayTested.congr {t u : State} {c : Chan} {before : Channel} (h : OverlayTested t c before)
    (hcfg : u.cfg = t.cfg) (hhazard : u.ltc.hazard = t.ltc.hazard) (hholds : overlayHolds u c ↔ overlayHolds t c)
    (hchan : u.chan c = t.chan c) : OverlayTested u c before := by
  unfold OverlayTested at h ⊢
  dsimp only at h ⊢
  rw [hcfg, hhazard, hchan]
  obtain ⟨hkept, hhaz, hblink, hidle, hon, hoff, hsame, hformed⟩ := h
  exact ⟨hkept, hhaz, fun ht hn hc => hblink ht hn (hholds.mp hc), fun ht hn hc => hidle ht hn fun k => hc (hholds.mpr k),
    fun ht hc => hon ht (hholds.mp hc), fun ht hc => hoff ht fun k => hc (hholds.mpr k), hsame, hformed⟩

theorem OverlayTested.linked {t : State} {c : Chan} {before : Channel} (h : OverlayTested t c before) (l : Lnk) :
    OverlayTested (t.linked l) c before := h

/-- R152: where every overlay is what its condition gives, the test leaves the channels alone. -/
theorem OverlaysRight.overlayChannel {s : State} (h : OverlaysRight s) (c : Chan) : overlayChannel s c = s.chan c := by
  have hcondition := overlayCondition_iff s c
  have hok : OverlayOkAt s c := h.ok c
  have hnext : overlayNext s c = (s.chan c).overlay := by
    unfold overlayNext
    dsimp only
    unfold OverlayOkAt at hok
    split at hok
    · rename_i hturn
      obtain ⟨hhazard, hblink, hidle⟩ := hok
      rw [if_pos hturn]
      split
      · rename_i hsome
        exact (hhazard hsome).symm
      · rename_i hnone
        have hnone := Option.not_isSome_iff_eq_none.mp hnone
        split
        · rename_i hc
          obtain ⟨phase, hphase⟩ := hblink hnone (hcondition.mp hc)
          rw [hphase]
          rfl
        · rename_i hc
          exact (hidle hnone fun k => hc (hcondition.mpr k)).symm
    · rename_i hturn
      obtain ⟨hon, hidle⟩ := hok
      rw [if_neg hturn]
      split
      · rename_i hc
        exact (hon (hcondition.mp hc)).symm
      · rename_i hc
        exact (hidle fun k => hc (hcondition.mpr k)).symm
  exact if_pos hnext

/-! ## The entry actions of ARMED (02 R33, 04 R80, 05 R100, 07 R128) -/

/-- R80: TRC's record at the entry to ARMED. -/
def Trc.armed (op : OpState) (drag : Nat) (t : Trc) : Trc :=
  let held : Trc := { t with hold := .latch, throttle := 0, digInForce := t.digRequested }
  let aimed : Trc := { held with target := PerAxle.of (targetOf held.ratioInForce held) }
  Trc.classified op { aimed with mode := PerAxle.of (modeOf op drag aimed), dragInForce := drag }

theorem tractionArmed_eq (s : State) :
    tractionArmed s = publishDuties (s.modTrc (Trc.armed s.vsc.op s.cfg.trc.dragBrake)) := rfl

/-- R4: the state that TRC's entry action is made from. -/
def armSteered (s : State) : State :=
  steerArmed (scanContinuous (changeOp .armed .arm
    (s.modVsc fun v => { v with expiryCount := 0, latch := true, hold := some s.cfg.vsc.holdTime })))

/-- R4: the entry before the clutch is asked. -/
def armPublished (s : State) : State := tractionArmed (armSteered s)

theorem enterArmed_eq (s : State) : enterArmed s = overlayTests (clutchArmed (armPublished s)) := rfl

section
variable (s : State)

theorem armSteered_vsc : (armSteered s).vsc =
    { s.vsc with op := .armed, expiryCount := 0, latch := true, hold := some s.cfg.vsc.holdTime } := by
  simp [armSteered, changeOp_vsc]

theorem armSteered_scn : (armSteered s).scn = { s.scn with
    mode := .continuous, watchTimer := none, scan := some (Scan.begin .continuous), wait := none } := by
  simp [armSteered, scanContinuous, startScan]

/-- R100: STC's record at the entry. -/
def Stc.armed (s : State) (t : Stc) : Stc := { t with
  out := .pulsing, frozen := false
  relax := if s.cfg.stc.relaxTime ≠ 0 ∧ s.stc.steer.natAbs ≤ s.cfg.stc.centreBand ∧ s.trc.applied = ⟨0, 0⟩
    then some (s.stc.relax.getD s.cfg.stc.relaxTime) else none
  output := ⟨s.cfg.stc.axle.front.centre, s.cfg.stc.axle.rear.centre⟩
  target := steerPulses s.cfg.stc s.stc.mode s.stc.steer s.trc.applied.front }

theorem armSteered_stc : (armSteered s).stc = s.stc.armed s := by
  have hentry (q : State) : (steerArmed q).stc = { q.stc with
      out := .pulsing, frozen := false, output := centres q, target := targetPulses q
      relax := if relaxCondition (q.modStc fun t => { t with out := .pulsing }) then
        some (q.stc.relax.getD q.cfg.stc.relaxTime) else none } := by
    rw [steerArmed, relaxTest_stc]
    rfl
  have hrelaxes (q : State) (hop : q.vsc.op = .armed) (hcfg : q.cfg = s.cfg) (htrc : q.trc = s.trc) (hstc : q.stc = s.stc) :
      relaxCondition (q.modStc fun t => { t with out := .pulsing }) = true ↔ s.cfg.stc.relaxTime ≠ 0 ∧
        s.stc.steer.natAbs ≤ s.cfg.stc.centreBand ∧ s.trc.applied = ⟨0, 0⟩ := by
    rw [relaxCondition_iff, PerAxle.eq_mk_iff]
    simp [hop, hcfg, htrc, hstc]
  have hpulses (q : State) (hcfg : q.cfg = s.cfg) (htrc : q.trc = s.trc) (hstc : q.stc = s.stc) :
      targetPulses q = steerPulses s.cfg.stc s.stc.mode s.stc.steer s.trc.applied.front := by
    rw [targetPulses_eq, hcfg, htrc, hstc]
  rw [armSteered, hentry, hpulses _ (by simp) (by simp) (by simp)]
  unfold Stc.armed
  have hcondition := hrelaxes (scanContinuous (changeOp .armed .arm
    (s.modVsc fun v => { v with expiryCount := 0, latch := true, hold := some s.cfg.vsc.holdTime })))
    (by simp [changeOp_vsc]) (by simp) (by simp) (by simp)
  simp only [hcondition]
  simp [centres]

theorem armPublished_eq : armPublished s =
    publishDuties ((armSteered s).modTrc (Trc.armed .armed s.cfg.trc.dragBrake)) := by
  have hop : (armSteered s).vsc.op = .armed := by rw [armSteered_vsc]
  have hcfg : (armSteered s).cfg = s.cfg := by simp [armSteered]
  rw [armPublished, tractionArmed_eq, hop, hcfg]

theorem armPublished_trc : (armPublished s).trc = s.trc.armed .armed s.cfg.trc.dragBrake := by
  have htrc : (armSteered s).trc = s.trc := by simp [armSteered]
  rw [armPublished_eq, ← htrc]
  simp

theorem armPublished_scn : (armPublished s).scn = (armSteered s).scn := by
  have hnone : (armSteered s).scn.wait = none := by rw [armSteered_scn]
  rw [armPublished_eq, publishDuties_scn, endWaitOnZero_none (by exact hnone)]
  rfl

theorem armPublished_stc : (armPublished s).stc = s.stc.armed s := by
  have hop : (armSteered s).vsc.op = .armed := by rw [armSteered_vsc]
  have hcfg : (armSteered s).cfg = s.cfg := by simp [armSteered]
  have happlied : (armPublished s).trc.applied = s.trc.applied := by
    rw [armPublished_trc]
    rfl
  have hfollows : SteerFollowsDuties (armSteered s) (armPublished s) := by
    have h := publishDuties_steers ((armSteered s).modTrc (Trc.armed .armed s.cfg.trc.dragBrake))
    rw [← armPublished_eq] at h
    exact h.congr rfl rfl rfl rfl rfl
  unfold SteerFollowsDuties at hfollows
  rw [hfollows, hop, hcfg, happlied, armSteered_stc]
  unfold Stc.armed
  have hdriven : (s.trc.applied.front ≠ 0 ∨ s.trc.applied.rear ≠ 0) ↔ ¬ s.trc.applied = ⟨0, 0⟩ := by
    rw [PerAxle.eq_mk_iff, not_and_or]
  by_cases hrelaxes : s.cfg.stc.relaxTime ≠ 0 ∧ s.stc.steer.natAbs ≤ s.cfg.stc.centreBand ∧ s.trc.applied = ⟨0, 0⟩
  · obtain ⟨htime, hband, hzero⟩ := hrelaxes
    simp [htime, hband, hzero]
  · simp only [hdriven, not_not]
    simp [hrelaxes]

theorem passes_armPublished : Passes s (armPublished s) := by
  have hvsc : Passes s (s.modVsc fun v => { v with expiryCount := 0, latch := true, hold := some s.cfg.vsc.holdTime }) :=
    .of_eq rfl rfl rfl rfl rfl rfl rfl
  have hsteered (q : State) : Passes q (steerArmed (scanContinuous q)) :=
    .of_eq (by simp) (by simp) (by simp) (by simp) (by simp) (by simp) (by simp)
  rw [armPublished_eq]
  exact ((hvsc.trans (passes_changeOp _ _ _)).trans (hsteered _)).trans (passes_publishTrc _ _)

/-- R128: the clutch is asked. -/
theorem clutchArmed_eq : clutchArmed s = s.modWch fun w =>
    if s.hasLine .clutchServo = true ∧ w.clutch ≠ .engaged ∧ w.clutch.moving = false then
      { w with clutch := .movingToEngage, clutchTimer := some s.cfg.wch.clutchTime } else w := by
  unfold clutchArmed
  by_cases hline : s.hasLine .clutchServo = true
  · by_cases hclutch : s.wch.clutch = .engaged
    · simp [hclutch, State.modWch]
    · obtain ⟨hm, h⟩ | ⟨hm, h⟩ := startClutch_cases .engaged s
      · simp [hline, hclutch, h, hm, State.modWch]
      · simp [hline, hclutch, h, hm, State.modWch]
  · simp [hline, State.modWch]

theorem enterArmed_chan (c : Chan) : (enterArmed s).chan c = (armPublished s).chan c := by
  have hright : OverlaysRight (clutchArmed (armPublished s)) := by
    have h : OverlaysRight (armPublished s) := overlaysRight_overlayTests _
    exact h.of_same (.of_eq (by simp) (by simp) ⟨by simp, by simp⟩ (by simp) (by simp))
  rw [enterArmed_eq, chan_overlayTests, hright.overlayChannel]
  simp [State.chan]

theorem overlayTested_enterArmed (c : Chan) : OverlayTested (enterArmed s) c (s.chan c) := by
  have hchan : (armSteered s).chan c = s.chan c := by simp [State.chan, armSteered]
  have h := overlayTested_publishDuties ((armSteered s).modTrc (Trc.armed .armed s.cfg.trc.dragBrake)) c
  rw [← armPublished_eq] at h
  have htested : OverlayTested (armPublished s) c (s.chan c) := hchan ▸ h
  have hsame : SameOverlays (armPublished s) (clutchArmed (armPublished s)) :=
    .of_eq (by simp) (by simp) ⟨by simp, by simp⟩ (by simp) (by simp)
  have hcfg : (enterArmed s).cfg = (armPublished s).cfg := by simp [enterArmed_eq]
  have hhazard : (enterArmed s).ltc.hazard = (armPublished s).ltc.hazard := by
    have htests (q : State) : (overlayTests q).ltc.hazard = q.ltc.hazard := rfl
    rw [enterArmed_eq, htests]
    simp
  have htests (q : State) : overlayHolds (overlayTests q) c ↔ overlayHolds q c := Iff.rfl
  exact htested.congr hcfg hhazard ((htests _).trans (hsame.overlayHolds c)) (enterArmed_chan s c)

theorem enterArmed_blocks : (enterArmed s).vsc = (armPublished s).vsc ∧ (enterArmed s).scn = (armPublished s).scn ∧
    (enterArmed s).trc = (armPublished s).trc ∧ (enterArmed s).stc = (armPublished s).stc ∧
    (enterArmed s).nq = (armPublished s).nq ∧ (enterArmed s).pgc = (armPublished s).pgc := by
  simp [enterArmed_eq]

theorem enterArmed_wch : (enterArmed s).wch = (if s.hasLine .clutchServo = true ∧ s.wch.clutch ≠ .engaged ∧
    s.wch.clutch.moving = false then
      { s.wch with clutch := .movingToEngage, clutchTimer := some s.cfg.wch.clutchTime } else s.wch) := by
  have hline : (armPublished s).hasLine .clutchServo = s.hasLine .clutchServo := by
    have hlmx : (armPublished s).lmx = s.lmx := by simp [armPublished, armSteered]
    simp only [State.hasLine, State.lineOf, hlmx]
  have hwch : (armPublished s).wch = s.wch := by simp [armPublished, armSteered]
  have hcfg : (armPublished s).cfg = s.cfg := by simp [armPublished, armSteered]
  have htests (q : State) : (overlayTests q).wch = q.wch := rfl
  rw [enterArmed_eq, htests, clutchArmed_eq, State.modWch_wch, hline, hwch, hcfg]

theorem enterArmed_vsc : (enterArmed s).vsc =
    { s.vsc with op := .armed, expiryCount := 0, latch := true, hold := some s.cfg.vsc.holdTime } := by
  rw [(enterArmed_blocks s).1, armPublished_eq, ← armSteered_vsc]
  simp

theorem tractionOk_enterArmed : TractionOk (enterArmed s) := by
  obtain ⟨-, -, htrc, -⟩ := enterArmed_blocks s
  exact tractionOk_of_classified (op := .armed) (by rw [enterArmed_vsc]) (htrc.trans (armPublished_trc s))

theorem passes_enterArmed : Passes s (enterArmed s) := by
  have hclutch (q : State) : Passes q (clutchArmed q) :=
    .of_eq (by simp) (by simp) (by simp) (by simp) (by simp) (by simp) (by simp)
  rw [enterArmed_eq]
  exact ((passes_armPublished s).trans (hclutch _)).trans (passes_overlayTests _)

theorem enterArmed_hazard : (enterArmed s).ltc.hazard = s.ltc.hazard := by
  have htests (q : State) : (overlayTests q).ltc.hazard = q.ltc.hazard := rfl
  have hclutch (q : State) : (clutchArmed q).ltc = q.ltc := by simp
  rw [enterArmed_eq, htests, hclutch, armPublished, tractionArmed_hazard]
  simp [armSteered]

/-- R4, R160: the notice, and the winch unit's context. -/
theorem enterArmed_notices (hop : s.vsc.op = .parked) : (enterArmed s).nq = (offer (.opstate .armed .parked .arm) s).nq ∧
    { (enterArmed s).unit 0 with stacked := none } = { s.unit 0 with stacked := none } := by
  obtain ⟨-, -, -, -, hnq, hpgc⟩ := enterArmed_blocks s
  have hkept (q : State) : (tractionArmed (steerArmed (scanContinuous q))).nq = q.nq ∧
      (tractionArmed (steerArmed (scanContinuous q))).pgc = q.pgc := by simp
  have hnotices := sameNotices_changeOp .armed .arm
    (s.modVsc fun v => { v with expiryCount := 0, latch := true, hold := some s.cfg.vsc.holdTime })
  rw [State.modVsc_vsc, hop] at hnotices
  have hvsc : SameNotices (s.modVsc fun v => { v with expiryCount := 0, latch := true, hold := some s.cfg.vsc.holdTime }) s :=
    ⟨rfl, fun _ => rfl⟩
  refine ⟨?_, ?_⟩
  · rw [hnq]
    exact (hkept _).1.trans (hnotices.trans (hvsc.offer _)).1
  · rw [State.unit, hpgc, armPublished, armSteered, (hkept _).2]
    exact offer_context _ _ 0

end

/-! ## The statement -/

/-- R71, R76: the mode of an axle at the entry to ARMED. -/
theorem armedMode (t : Trc) (drag : Nat) (x : Axle) : (t.armed .armed drag).mode.get x =
    if t.applied.get x ≠ 0 then .drive else (digHold t.digRequested x).getD (.shortBrake drag) := by
  have hget : (t.armed .armed drag).mode.get x = modeOf .armed drag { t with
      hold := .latch, throttle := 0, digInForce := t.digRequested
      target := PerAxle.of (targetOf t.ratioInForce { t with
        hold := .latch, throttle := 0, digInForce := t.digRequested }) } x := PerAxle.get_of _ _
  rw [hget]
  unfold modeOf modeAtZero
  split
  · rfl
  · cases hd : digHold t.digRequested x with
    | none =>
      have htarget : (PerAxle.of (targetOf t.ratioInForce { t with
        hold := .latch, throttle := 0, digInForce := t.digRequested })).get x = 0 := by
        cases x <;> rfl
      simp [htarget]
    | some m => simp

/-- Settles O16: an ARM in PARKED that passes its checks. -/
theorem armAccepted : Obligations.ArmAccepted := by
  intro tag s hfree hop hmeasured hstage htaps hcells
  have hrefusal : armRefusal s = none := by
    have htap := tapTooHigh_eq_none (s := s) fun j hj => absurd (htaps j hj.1) (Nat.not_le.mpr hj.2)
    have hcell := cellTooLow_eq_none (s := s) fun j hj => absurd (hcells j hj.1) (Nat.not_le.mpr hj.2)
    simp [armRefusal, hmeasured, hstage, htap, hcell]
  have hdoes := onArm_accepted (s := s.modLnk (lnkOf ⟨0x10, tag, []⟩)) hop hrefusal
  have hreplied := frameArrives_replied .arm tag [] s hfree hdoes
  have hpasses := passes_enterArmed (s.modLnk (lnkOf ⟨0x10, tag, []⟩))
  have hvsc := enterArmed_vsc (s.modLnk (lnkOf ⟨0x10, tag, []⟩))
  have hwch := enterArmed_wch (s.modLnk (lnkOf ⟨0x10, tag, []⟩))
  have hhazard := enterArmed_hazard (s.modLnk (lnkOf ⟨0x10, tag, []⟩))
  have htraction := tractionOk_enterArmed (s.modLnk (lnkOf ⟨0x10, tag, []⟩))
  have htested := overlayTested_enterArmed (s.modLnk (lnkOf ⟨0x10, tag, []⟩))
  obtain ⟨-, hscn, htrc, hstc, -⟩ := enterArmed_blocks (s.modLnk (lnkOf ⟨0x10, tag, []⟩))
  obtain ⟨hnq, hcontext⟩ := enterArmed_notices (s.modLnk (lnkOf ⟨0x10, tag, []⟩)) hop
  rw [armPublished_scn, armSteered_scn] at hscn
  rw [armPublished_trc, State.modLnk_trc, State.modLnk_cfg] at htrc
  rw [armPublished_stc] at hstc
  have hnotice : SameNotices (s.modLnk (lnkOf ⟨0x10, tag, []⟩)) s := ⟨rfl, fun _ => rfl⟩
  have hnq := hnq.trans (hnotice.offer _).1
  generalize enterArmed (s.modLnk (lnkOf ⟨0x10, tag, []⟩)) = t at *
  refine ⟨_, congrArg Host.Outcome.next hreplied, answeredBy_replied .., hvsc, hnq, hscn,
    (congrArg Trc.hold htrc :), (congrArg Trc.throttle htrc :), (congrArg Trc.target htrc :),
    (congrArg Trc.applied htrc :), (congrArg Trc.state htrc :), (congrArg Trc.digInForce htrc :),
    (congrArg Trc.digRequested htrc :), (congrArg Trc.limiter htrc :), (congrArg Trc.assist htrc :),
    (congrArg Trc.ratioInForce htrc :), (congrArg Trc.dragInForce htrc :), htraction.linked _,
    fun c => (htested c).linked _, fun x => ?_, hstc, hwch, hhazard, hpasses.sup, hpasses.stores, hpasses.levels,
    hpasses.lightUnits, hcontext⟩
  have hmode := armedMode s.trc s.cfg.trc.dragBrake x
  rwa [← htrc] at hmode

end Sys2Proof.Machine

/-! DRIVE (01 R8, R11, 04 R69 to R71, 05 R90, R95 to R99). -/

namespace Sys2Proof.Machine

/-! ## Steering (05 R90, R95, R98) -/

/-- R96: one relax test is as good as two. -/
theorem relaxTest_twice (s : State) : relaxTest (relaxTest s) = relaxTest s := by
  have hcondition (f : Stc → Stc) (hout : (f s.stc).out = s.stc.out) (hsteer : (f s.stc).steer = s.stc.steer) :
      relaxCondition (s.modStc f) = relaxCondition s := by
    unfold relaxCondition withinCentre
    simp only [State.modStc_stc, State.modStc_vsc, State.modStc_cfg, hout, hsteer]
    rfl
  cases h : relaxCondition s with
  | true =>
    have hrun : relaxTest s = s.modStc fun t => { t with relax := some (t.relax.getD s.cfg.stc.relaxTime) } := if_pos h
    rw [hrun, relaxTest, hcondition _ rfl rfl, if_pos h]
    rfl
  | false =>
    have hstop : relaxTest s = s.modStc fun t => { t with relax := none } := if_neg (by simp [h])
    rw [hstop, relaxTest, hcondition _ rfl rfl, if_neg (by simp [h])]
    rfl

theorem modStc_same {s : State} {f : Stc → Stc} (h : f s.stc = s.stc) : s.modStc f = s := by
  rw [State.modStc, h]

/-- R95: STC's record after the test of the pending mode. -/
def Stc.tested (band : Nat) (t : Stc) : Stc := { t with
  mode := if t.steer.natAbs ≤ band then t.pendingMode.getD t.mode else t.mode
  pendingMode := if t.steer.natAbs ≤ band then none else t.pendingMode }

theorem pendingTest_eq (s : State) : pendingTest s = s.modStc (Stc.tested s.cfg.stc.centreBand) := by
  unfold pendingTest withinCentre
  cases h : s.stc.pendingMode with
  | none =>
    have hmode : s.stc.pendingMode.getD s.stc.mode = s.stc.mode := by rw [h, Option.getD_none]
    have hpending : (if s.stc.steer.natAbs ≤ s.cfg.stc.centreBand then none else s.stc.pendingMode) = s.stc.pendingMode := by
      rw [h, ite_self]
    refine (modStc_same ?_).symm
    simp only [Stc.tested, hmode, ite_self, hpending]
  | some m =>
    by_cases hw : s.stc.steer.natAbs ≤ s.cfg.stc.centreBand
    · simp only [hw, decide_true, if_true]
      simp only [State.modStc, Stc.tested, hw, h, if_true, Option.getD_some]
    · simp only [hw, decide_false, Bool.false_eq_true, if_false]
      refine (modStc_same ?_).symm
      simp only [Stc.tested, hw, if_false]

/-- R96, R98: STC's record after the wake test and the relax test, in ARMED. -/
theorem wakeTest_stc {s : State} (throttle : Int) (hop : s.vsc.op = .armed) :
    (relaxTest (wakeTest throttle s)).stc =
      let g := s.cfg.stc
      let within : Prop := s.stc.steer.natAbs ≤ g.centreBand
      let outside : Prop := ¬ within ∨ s.cfg.vsc.neutralBand < throttle.natAbs
      let wakes : Prop := s.stc.out = .relaxed ∧ outside
      let holds : Prop := g.relaxTime ≠ 0 ∧ (s.stc.out = .pulsing ∨ wakes) ∧ within ∧ s.trc.applied = ⟨0, 0⟩
      let pulses := steerPulses g s.stc.mode s.stc.steer s.trc.applied.front
      { s.stc with
        out := if wakes then .pulsing else s.stc.out
        target := if wakes then pulses else s.stc.target
        output := if wakes then pulses else s.stc.output
        relax := if holds then some (if outside then g.relaxTime else s.stc.relax.getD g.relaxTime) else none } := by
  have houtside : (withinCentre s s.stc.steer && withinNeutral s throttle) = true ↔
      ¬ (¬ s.stc.steer.natAbs ≤ s.cfg.stc.centreBand ∨ s.cfg.vsc.neutralBand < throttle.natAbs) := by
    simp [withinCentre, withinNeutral]
  have hcondition (q : State) (hq : q.vsc = s.vsc) (hcfg : q.cfg = s.cfg) (htrc : q.trc = s.trc)
      (hsteer : q.stc.steer = s.stc.steer) : relaxCondition q = true ↔ s.cfg.stc.relaxTime ≠ 0 ∧ q.stc.out = .pulsing ∧
        s.stc.steer.natAbs ≤ s.cfg.stc.centreBand ∧ s.trc.applied = ⟨0, 0⟩ := by
    rw [relaxCondition_iff, PerAxle.eq_mk_iff, hq, hcfg, htrc, hsteer]
    simp [hop]
  dsimp only
  by_cases ho : ¬ s.stc.steer.natAbs ≤ s.cfg.stc.centreBand ∨ s.cfg.vsc.neutralBand < throttle.natAbs
  · have hwake : wakeTest throttle s = (let q := s.modStc fun t => { t with relax := none }
        if q.stc.out = .relaxed then wake q else q) := if_neg fun h => houtside.mp h ho
    rw [hwake]
    by_cases hrelaxed : s.stc.out = .relaxed
    · have hwoken : (let q := s.modStc fun t => { t with relax := none }
          if q.stc.out = .relaxed then wake q else q) = wake (s.modStc fun t => { t with relax := none }) := if_pos hrelaxed
      have hpulses : targetPulses (s.modStc fun t => { t with relax := none }) =
          steerPulses s.cfg.stc s.stc.mode s.stc.steer s.trc.applied.front := targetPulses_eq _
      have hholds := hcondition ((s.modStc fun t => { t with relax := none }).modStc fun t => { t with
        out := .pulsing, target := steerPulses s.cfg.stc s.stc.mode s.stc.steer s.trc.applied.front
        output := steerPulses s.cfg.stc s.stc.mode s.stc.steer s.trc.applied.front }) rfl rfl rfl rfl
      rw [hwoken, wake, relaxTest_twice, hpulses, relaxTest_stc]
      simp only [hholds, State.modStc_stc, State.modStc_cfg, ho, hrelaxed, and_self, or_true, true_and, if_true, Option.getD_none]
    · have hstopped : (let q := s.modStc fun t => { t with relax := none }
          if q.stc.out = .relaxed then wake q else q) = s.modStc fun t => { t with relax := none } := if_neg hrelaxed
      have hholds := hcondition (s.modStc fun t => { t with relax := none }) rfl rfl rfl rfl
      rw [hstopped, relaxTest_stc]
      simp only [hholds, State.modStc_stc, State.modStc_cfg, ho, hrelaxed, false_and, or_false, if_true, if_false, Option.getD_none]
  · have hstands : wakeTest throttle s = s := if_pos (houtside.mpr ho)
    have hholds := hcondition s rfl rfl rfl rfl
    rw [hstands, relaxTest_stc]
    simp only [hholds, ho, and_false, or_false, if_false]

/-- R90, R95 to R99: STC's record after a DRIVE in ARMED. -/
def Stc.driven (g : StcCfg) (neutral : Nat) (applied : PerAxle Int) (throttle steer : Int) (t : Stc) : Stc :=
  let within : Prop := steer.natAbs ≤ g.centreBand
  let outside : Prop := ¬ within ∨ neutral < throttle.natAbs
  let wakes : Prop := t.out = .relaxed ∧ outside
  let mode := if within then t.pendingMode.getD t.mode else t.mode
  let holds : Prop := g.relaxTime ≠ 0 ∧ (t.out = .pulsing ∨ wakes) ∧ within ∧ applied = ⟨0, 0⟩
  let pulses := steerPulses g mode steer applied.front
  { t with
    steer := steer
    mode := mode
    pendingMode := if within then none else t.pendingMode
    out := if wakes then .pulsing else t.out
    target := if wakes then pulses else t.target
    output := if wakes then pulses else t.output
    relax := if holds then some (if outside then g.relaxTime else t.relax.getD g.relaxTime) else none }

theorem steerDrive_stc {s : State} (throttle steer : Int) (hop : s.vsc.op = .armed) : (steerDrive throttle steer s).stc =
    s.stc.driven s.cfg.stc s.cfg.vsc.neutralBand s.trc.applied throttle steer := by
  rw [steerDrive, pendingTest_eq, wakeTest_stc throttle (by exact hop)]
  rfl

/-! ## Traction (04 R70, R71) -/

/-- R70: TRC's record after a DRIVE. -/
def Trc.driven (throttle : Int) (dig : Dig) (latched : Bool) (t : Trc) : Trc :=
  let held : Trc := { t with
    throttle := if latched then 0 else throttle, digRequested := dig, hold := if latched then .latch else .none }
  Trc.classified .armed { held with target := PerAxle.of (targetOf held.ratioInForce held) }

theorem tractionDrive_eq {s : State} (throttle : Int) (dig : Dig) (latched : Bool) (hop : s.vsc.op = .armed) :
    tractionDrive throttle dig latched s = s.modTrc (Trc.driven throttle dig latched) := by
  have heq : tractionDrive throttle dig latched s = classifyTraction (s.modTrc fun t =>
      let held : Trc := { t with
        throttle := if latched then 0 else throttle, digRequested := dig, hold := if latched then .latch else .none }
      { held with target := PerAxle.of (targetOf held.ratioInForce held) }) := rfl
  rw [heq, classifyTraction_eq, State.modTrc_vsc, hop]
  rfl

/-- R71: the targets of a DRIVE. -/
theorem Trc.driven_target (throttle : Int) (dig : Dig) (latched : Bool) (t : Trc) :
    (t.driven throttle dig latched).target = if latched then ⟨0, 0⟩ else
      ⟨if (digHold t.digInForce .front).isSome then 0
         else max (-1000) (min 1000 ((throttle * t.ratioInForce).tdiv 1000)),
       if (digHold t.digInForce .rear).isSome then 0 else throttle⟩ := by
  cases latched <;> rfl

/-! ## The return from FAILSAFE (01 R8) -/

/-- What the DRIVE finds after the return: the part in ARMED. -/
structure Returned (s b : State) : Prop where
  vsc : { b.vsc with hold := none } = { s.vsc with
    op := .armed, hold := none, latch := s.vsc.latch || decide (s.vsc.op = .failsafe)
    expiryCount := if s.vsc.op = .failsafe then 0 else s.vsc.expiryCount }
  trc : { b.trc with hold := .none, state := .held, braking := false } =
    { s.trc with hold := .none, state := .held, braking := false }
  stc : b.stc = { s.stc with frozen := if s.vsc.op = .failsafe then false else s.stc.frozen }
  scn : b.scn = s.scn
  wch : b.wch = s.wch
  nq : b.nq = if s.vsc.op = .failsafe then (offer (.opstate .armed .failsafe .linkRestored) s).nq else s.nq
  hazard : b.ltc.hazard = if s.vsc.op = .failsafe then none else s.ltc.hazard
  passes : Passes s b
  context : { b.unit 0 with stacked := none } = { s.unit 0 with stacked := none }

theorem returned_armed {s : State} (hop : s.vsc.op = .armed) : Returned s (driveReturns s) := by
  have hsame : driveReturns s = s := if_neg (by rw [hop]; decide)
  have hnot : ¬ s.vsc.op = .failsafe := by rw [hop]; decide
  rw [hsame]
  refine ⟨?_, rfl, ?_, rfl, rfl, (if_neg hnot).symm, (if_neg hnot).symm, .refl s, rfl⟩
  · simp only [hnot, decide_false, Bool.or_false, if_false, ← hop]
  · simp only [hnot, if_false]

/-- R8: the return before the hazard stops. -/
def restored (s : State) : State :=
  steerUnfreeze (tractionRestored (changeOp .armed .linkRestored
    (s.modVsc fun v => { v with expiryCount := 0, latch := true, hold := some s.cfg.vsc.holdTime })))

theorem linkRestored_eq (s : State) : linkRestored s = hazardStop (restored s) := rfl

theorem restored_trc (s : State) : (restored s).trc = Trc.classified .armed { s.trc with hold := .latch } := by
  simp [restored, tractionRestored, classifyTraction_eq, changeOp_vsc, steerUnfreeze]

theorem returned_failsafe {s : State} (hop : s.vsc.op = .failsafe) : Returned s (driveReturns s) := by
  have hreturns : driveReturns s = linkRestored s := if_pos hop
  have hvsc : (linkRestored s).vsc =
      { s.vsc with op := .armed, expiryCount := 0, latch := true, hold := some s.cfg.vsc.holdTime } := by
    simp [linkRestored, changeOp_vsc]
  have htrc : (linkRestored s).trc = Trc.classified .armed { s.trc with hold := .latch } := restored_trc s
  have hactions (q : State) : Passes q (steerUnfreeze (tractionRestored q)) := .of_eq rfl rfl rfl rfl rfl rfl rfl
  have hmod : Passes s (s.modVsc fun v => { v with expiryCount := 0, latch := true, hold := some s.cfg.vsc.holdTime }) :=
    .of_eq rfl rfl rfl rfl rfl rfl rfl
  have hnotices := sameNotices_changeOp .armed .linkRestored
    (s.modVsc fun v => { v with expiryCount := 0, latch := true, hold := some s.cfg.vsc.holdTime })
  have hsame : SameNotices (s.modVsc fun v => { v with expiryCount := 0, latch := true, hold := some s.cfg.vsc.holdTime }) s :=
    ⟨rfl, fun _ => rfl⟩
  rw [hreturns]
  refine ⟨?_, ?_, ?_, by simp [linkRestored, tractionRestored, classifyTraction_eq], by simp [linkRestored], ?_, ?_,
    ((hmod.trans (passes_changeOp _ _ _)).trans (hactions _)).trans (passes_hazardStop _), ?_⟩
  · rw [hvsc]
    simp [hop]
  · rw [htrc]
    rfl
  · simp [linkRestored, hop, steerUnfreeze]
  · rw [if_pos hop, linkRestored_eq, restored]
    rw [State.modVsc_vsc, hop] at hnotices
    simpa using hnotices.1.trans (hsame.offer _).1
  · rw [if_pos hop]
    rfl
  · have hunit : (linkRestored s).unit 0 = (changeOp .armed .linkRestored
        (s.modVsc fun v => { v with expiryCount := 0, latch := true, hold := some s.cfg.vsc.holdTime })).unit 0 := by
      simp [State.unit, linkRestored]
    rw [hunit, changeOp, offer_context]
    rfl

/-- R8, R152: the overlays and the traction state that the return leaves. -/
theorem linkRestored_tested (s : State) : TractionOk (linkRestored s) ∧
    ∀ c : Chan, OverlayTested (linkRestored s) c (s.chan c) := by
  have hop : (linkRestored s).vsc.op = .armed := by simp [linkRestored, changeOp_vsc]
  have htrc : (linkRestored s).trc = Trc.classified .armed { s.trc with hold := .latch } := restored_trc s
  refine ⟨tractionOk_of_classified hop htrc, fun c => ?_⟩
  have hchan : ((restored s).modLtc fun l => { l with hazard := none }).chan c = s.chan c := by
    simp [State.chan, restored]
  have htested := overlayTested_overlayTests ((restored s).modLtc fun l => { l with hazard := none }) c
  rwa [hchan] at htested

/-! ## A DRIVE that is taken (04 R69) -/

/-- R69: the DRIVE on a state that has returned to ARMED, before the overlay tests. -/
def driveSteered (throttle steer : Int) (dig : Dig) (b : State) : State :=
  steerDrive throttle steer (driveTraction throttle dig (driveKeepsAlive throttle b))

theorem driveTaken_eq (throttle steer : Int) (dig : Dig) (s : State) :
    driveTaken throttle steer dig s = overlayTests (driveSteered throttle steer dig (driveReturns s)) := rfl

section
variable (throttle steer : Int) (dig : Dig) {b : State} (hop : b.vsc.op = .armed)
include hop

/-- R11: the latch after the test. -/
theorem driveSteered_eq : driveSteered throttle steer dig b = steerDrive throttle steer
    ((driveKeepsAlive throttle b).modTrc (Trc.driven throttle dig (b.vsc.latch && !withinNeutral b throttle))) := by
  have hkept : (driveKeepsAlive throttle b).vsc.op = .armed := hop
  rw [driveSteered, driveTraction, tractionDrive_eq throttle dig _ hkept]
  rfl

theorem driveSteered_blocks : (driveSteered throttle steer dig b).vsc =
      { b.vsc with hold := some b.cfg.vsc.holdTime, latch := b.vsc.latch && !withinNeutral b throttle } ∧
    (driveSteered throttle steer dig b).trc =
      b.trc.driven throttle dig (b.vsc.latch && !withinNeutral b throttle) ∧
    (driveSteered throttle steer dig b).stc =
      b.stc.driven b.cfg.stc b.cfg.vsc.neutralBand b.trc.applied throttle steer ∧
    (driveSteered throttle steer dig b).ltc = b.ltc := by
  rw [driveSteered_eq throttle steer dig hop]
  refine ⟨by simp [driveKeepsAlive], by simp [driveKeepsAlive], ?_, by simp [driveKeepsAlive]⟩
  rw [steerDrive_stc throttle steer (by exact hop)]
  rfl

end

theorem driveSteered_frame (throttle steer : Int) (dig : Dig) (b : State) :
    (driveSteered throttle steer dig b).scn = b.scn ∧ (driveSteered throttle steer dig b).wch = b.wch ∧
    (driveSteered throttle steer dig b).nq = b.nq ∧ (driveSteered throttle steer dig b).pgc = b.pgc ∧
    Passes b (driveSteered throttle steer dig b) := by
  refine ⟨?_, ?_, ?_, ?_, .of_eq ?_ ?_ ?_ ?_ ?_ ?_ ?_⟩ <;>
    simp [driveSteered, driveTraction, driveKeepsAlive]

/-! ## The statement -/

/-- R179: a value of two bytes, with its sign. -/
theorem readInt16_eq (low high : Byte) : readInt16 low high = (high ++ low : BitVec 16).toInt := by
  have hvalue : BitVec.ofNat 16 (read16 low high) = (high ++ low : BitVec 16) := by
    apply BitVec.eq_of_toNat_eq
    have hlow := low.isLt
    have hhigh := high.isLt
    rw [BitVec.toNat_ofNat, BitVec.toNat_append, ← Nat.shiftLeft_add_eq_or_of_lt hlow, Nat.shiftLeft_eq]
    unfold read16
    omega
  rw [readInt16, hvalue]

theorem digOf_code {d : Byte} {dig : Dig} (h : d.toNat = dig.code) : digOf d = some dig := by
  unfold digOf
  rw [h]
  cases dig <;> rfl

theorem digOf_eq_none {d : Byte} (h : 4 < d.toNat) : digOf d = none := by
  unfold digOf
  split
  case h_6 => rfl
  all_goals omega

theorem exists_dig {d : Byte} (h : d.toNat ≤ 4) : ∃ dig, digOf d = some dig := by
  have hcode : d.toNat = 0 ∨ d.toNat = 1 ∨ d.toNat = 2 ∨ d.toNat = 3 ∨ d.toNat = 4 := by omega
  unfold digOf
  obtain h | h | h | h | h := hcode <;> rw [h] <;> exact ⟨_, rfl⟩

/-- R75: an axle's fields in the reply. -/
theorem driveAxle_fields (s : State) (x : Axle) : DriveAxleFields s x (driveAxle s x) := by
  unfold DriveAxleFields driveAxle
  obtain h | h := driveCap_cases s x <;> rw [h]
  · exact .inl rfl
  · exact .inr rfl

/-- R11: the throttle that clears the latch. -/
theorem withinNeutral_eq (s : State) (throttle : Int) : (!withinNeutral s throttle) =
    decide ((s.cfg.vsc.neutralBand : Int) < throttle ∨ throttle < -(s.cfg.vsc.neutralBand : Int)) := by
  have hband : ¬ throttle.natAbs ≤ s.cfg.vsc.neutralBand ↔
      (s.cfg.vsc.neutralBand : Int) < throttle ∨ throttle < -(s.cfg.vsc.neutralBand : Int) := by omega
  rw [withinNeutral, ← decide_not]
  exact decide_eq_decide.mpr hband

section
variable (throttle steer : Int) (dig : Dig) {s : State}

theorem returned (hop : s.vsc.op = .armed ∨ s.vsc.op = .failsafe) : Returned s (driveReturns s) :=
  hop.elim returned_armed returned_failsafe

theorem Returned.op {b : State} (h : Returned s b) : b.vsc.op = .armed := (congrArg Vsc.op h.vsc :)

theorem Returned.latch {b : State} (h : Returned s b) : (b.vsc.latch && !withinNeutral b throttle) =
    ((s.vsc.latch || decide (s.vsc.op = .failsafe)) &&
      decide ((s.cfg.vsc.neutralBand : Int) < throttle ∨ throttle < -(s.cfg.vsc.neutralBand : Int))) := by
  have hlatch : b.vsc.latch = (s.vsc.latch || decide (s.vsc.op = .failsafe)) := (congrArg Vsc.latch h.vsc :)
  rw [hlatch, withinNeutral_eq, h.passes.cfg]

/-- R70: TRC's record does not keep the hold, the state and the braking flag of before. -/
theorem Returned.driven {b : State} (h : Returned s b) (latched : Bool) :
    b.trc.driven throttle dig latched = s.trc.driven throttle dig latched :=
  (congrArg (Trc.driven throttle dig latched) h.trc :)

end

/-- Settles O22: DRIVE by operating state. -/
theorem driveByState : Obligations.DriveByState := by
  intro tag t0 t1 s0 s1 d s hfree p throttle steer latch
  have hunchanged (a : Answer) (h : onDrive (s.modLnk (lnkOf ⟨0x12, tag, p⟩)) p = (s.modLnk (lnkOf ⟨0x12, tag, p⟩), a)) :
      exec (.drive tag p) s = .next (replied s s 0x12 tag p a.outcome a.fields) :=
    congrArg Host.Outcome.next (frameArrives_unchanged .drive tag p s _ hfree h)
  refine ⟨fun hd => hunchanged (refusedWith .badValue []) ?_, fun hd harmed hfailsafe => hunchanged (refusedWith .notArmed []) ?_,
    fun dig hd hop => ?_⟩
  · simp only [onDrive, p, digOf_eq_none hd]
  · obtain ⟨dig, hdig⟩ := exists_dig hd
    have hnot : (s.modLnk (lnkOf ⟨0x12, tag, p⟩)).vsc.op.driven = false := by
      rw [OpState.driven_eq_false_iff]
      exact ⟨harmed, hfailsafe⟩
    simp only [onDrive, p, hdig]
    exact if_neg (by rw [hnot]; decide)
  have hb := returned (s := s.modLnk (lnkOf ⟨0x12, tag, p⟩)) hop
  have hback : s.vsc.op = .failsafe → driveReturns (s.modLnk (lnkOf ⟨0x12, tag, p⟩)) =
      linkRestored (s.modLnk (lnkOf ⟨0x12, tag, p⟩)) := fun h => if_pos h
  have harmed : s.vsc.op = .armed → driveReturns (s.modLnk (lnkOf ⟨0x12, tag, p⟩)) = s.modLnk (lnkOf ⟨0x12, tag, p⟩) :=
    fun h => if_neg (by rw [State.modLnk_vsc, h]; decide)
  obtain ⟨hvsc, htrc, hstc, hltc⟩ := driveSteered_blocks throttle steer dig hb.op
  obtain ⟨hscn, hwch, hnq, hpgc, hpasses⟩ :=
    driveSteered_frame throttle steer dig (driveReturns (s.modLnk (lnkOf ⟨0x12, tag, p⟩)))
  have hdoes : onDrive (s.modLnk (lnkOf ⟨0x12, tag, p⟩)) p =
      (driveTaken throttle steer dig (s.modLnk (lnkOf ⟨0x12, tag, p⟩)), doneWith .none
        (driveFields throttle steer (driveTaken throttle steer dig (s.modLnk (lnkOf ⟨0x12, tag, p⟩))))) := by
    have hdriven : (s.modLnk (lnkOf ⟨0x12, tag, p⟩)).vsc.op.driven = true := (OpState.driven_iff _).mpr hop
    simp only [onDrive, p, digOf_code hd, readInt16_eq]
    exact if_pos hdriven
  rw [driveTaken_eq] at hdoes
  rw [hb.latch throttle] at hvsc htrc
  rw [hb.driven] at htrc
  generalize driveReturns (s.modLnk (lnkOf ⟨0x12, tag, p⟩)) = b at *
  generalize driveSteered throttle steer dig b = r at *
  have hreplied := frameArrives_replied .drive tag p s hfree hdoes
  have hsame : SameNotices (s.modLnk (lnkOf ⟨0x12, tag, p⟩)) s := ⟨rfl, fun _ => rfl⟩
  have hall : Passes (s.modLnk (lnkOf ⟨0x12, tag, p⟩)) (overlayTests r) :=
    (hb.passes.trans hpasses).trans (passes_overlayTests r)
  have hlatch : r.vsc.latch = latch := (congrArg Vsc.latch hvsc :)
  have hdig : r.trc.digRequested = dig := (congrArg Trc.digRequested htrc :)
  refine ⟨_, congrArg Host.Outcome.next hreplied, ⟨driveAxle r .front, driveAxle r .rear, driveAxle_fields r .front,
    driveAxle_fields r .rear, ?_⟩, ?_⟩
  · rw [← hlatch, ← hdig]
    exact answeredBy_replied ..
  have hcfg : b.cfg = s.cfg := hb.passes.cfg
  have happlied : b.trc.applied = s.trc.applied := (congrArg Trc.applied hb.trc :)
  have hop' : b.vsc.op = .armed := hb.op
  have htraction : TractionOk (overlayTests r) :=
    tractionOk_of_classified (op := .armed) ((congrArg Vsc.op hvsc).trans hop') htrc
  have htested (c : Chan) : OverlayTested (overlayTests r) c (b.chan c) := by
    have h := overlayTested_overlayTests r c
    rwa [State.chan, hltc] at h
  have hvsc' : r.vsc = { s.vsc with
      op := .armed, hold := some s.cfg.vsc.holdTime, latch := latch
      expiryCount := if s.vsc.op = .failsafe then 0 else s.vsc.expiryCount } := by
    rw [hvsc, hcfg]
    exact (congrArg (fun v : Vsc => { v with hold := some s.cfg.vsc.holdTime, latch := latch }) hb.vsc :)
  refine ⟨hvsc', (congrArg Trc.throttle htrc :), (congrArg Trc.hold htrc :), (congrArg Trc.digRequested htrc :),
    (congrArg Trc.digInForce htrc :), (congrArg Trc.applied htrc :), (congrArg Trc.mode htrc :),
    (congrArg Trc.limiter htrc :), (congrArg Trc.assist htrc :), (congrArg Trc.ratioInForce htrc :),
    (congrArg Trc.dragInForce htrc :), (congrArg Trc.target htrc).trans (Trc.driven_target ..), ?_, ?_, htraction.linked _,
    fun h c => ?_, fun h => ⟨b.linked s.lnk, ?_, hop', ?_, ?_, hcfg, ?_, fun c => ⟨?_, ?_⟩⟩, ?_, hscn.trans hb.scn, hall.sup,
    hwch.trans hb.wch, hall.stores, hall.levels, hall.lightUnits, ?_⟩
  · refine hstc.trans ?_
    rw [hb.stc, hcfg, happlied]
    rfl
  · refine hnq.trans (hb.nq.trans ?_)
    rw [(hsame.offer _).1]
    rfl
  · have h' := htested c
    rw [harmed h] at h'
    exact h'.linked _
  · rw [hback h]
    exact (linkRestored_tested _).1.linked _
  · rw [hback h]
    exact (congrArg (fun t : Trc => { t with state := .held, braking := false }) (restored_trc _) :)
  · exact (congrArg Stc.steer hb.stc :)
  · exact hb.hazard.trans (if_pos h)
  · rw [hback h]
    exact ((linkRestored_tested _).2 c).linked _
  · exact (htested c).linked _
  · exact (congrArg Ltc.hazard hltc).trans hb.hazard
  · have hunit : r.unit 0 = b.unit 0 := by rw [State.unit, State.unit, hpgc]
    exact (congrArg (fun x : UnitCtx => { x with stacked := none }) hunit).trans hb.context

end Sys2Proof.Machine

/-! The resets (00 section 0.4, 01 R17, R19). -/

namespace Sys2Proof.Machine

/-! ## The entry to TRIPPED (01 R19, 04 R84, 05 R101) -/

/-- R84: TRC's record at the entry to TRIPPED. -/
def Trc.tripped (t : Trc) : Trc := { axlesOpen t with winchOpen := true }

theorem tractionTripped_eq (s : State) : tractionTripped s = publishDuties (s.modTrc Trc.tripped) := rfl

/-- R19: VSC's record at the entry. -/
def Vsc.tripped (v : Vsc) (added : List TripCause) (first : TripCause) : Vsc :=
  { v with causes := v.causes.addAll added, firstCause := some first, hold := none, grace := none, origin := .none }

/-- R19: the entry, up to the hazard. -/
def tripPublished (added : List TripCause) (first : TripCause) (s : State) : State :=
  tractionTripped (steerTripped (changeOp .tripped .trip
    (offer (.tripEntered (s.vsc.causes.addAll added) first) (s.modVsc fun v => v.tripped added first))))

theorem enterTripped_eq (added : List TripCause) (first : TripCause) (s : State) :
    enterTripped added first s = winchKill .tripped (hazardStart (tripPublished added first s)) := rfl

/-- R101: STC's record at the entry. -/
theorem steerTripped_stc (s : State) : (steerTripped s).stc =
    if s.stc.out = .stopped then { s.stc with relax := none }
    else { s.stc with out := .held, frozen := true, relax := none, output := wokenOutput s } := by
  unfold steerTripped wokenOutput
  rw [State.modStc_stc]
  dsimp only
  split
  · rename_i hout
    rw [if_pos hout]
  all_goals
    rename_i hout
    rw [if_neg (by rw [hout]; nofun)]
    simp [hout]

section
variable (added : List TripCause) (first : TripCause) (s : State)

theorem asked_tripPublished : Asked s (tripPublished added first s) := by
  have hvsc := asked_modVsc s (fun v => v.tripped added first) rfl rfl
  have hsteer (q : State) : Asked q (steerTripped q) := by
    refine asked_modStc q _ ?_ ?_ <;> split <;> rfl
  have htraction (q : State) : Asked q (tractionTripped q) := by
    rw [tractionTripped_eq]
    exact asked_publish q Trc.tripped rfl rfl rfl rfl fun x _ => by cases x <;> rfl
  exact ((hvsc.trans (asked_offer _ _)).trans (asked_changeOp _ _ _)).trans ((hsteer _).trans (htraction _))

theorem tripPublished_vsc : (tripPublished added first s).vsc = { s.vsc.tripped added first with op := .tripped } := by
  simp [tripPublished, changeOp_vsc]

theorem tripPublished_trc : (tripPublished added first s).trc = s.trc.tripped := by
  rw [tripPublished, tractionTripped_eq]
  simp

theorem tripPublished_stc : (tripPublished added first s).stc =
    if s.stc.out = .stopped then { s.stc with relax := none }
    else { s.stc with out := .held, frozen := true, relax := none, output := wokenOutput s } := by
  have hkept (q : State) (h : q.vsc.op = .tripped) : (tractionTripped q).stc = { q.stc with relax := none } := by
    rw [tractionTripped_eq]
    exact (publishDuties_steers (q.modTrc Trc.tripped)).unarmed (by simp [h])
  have hwoken (q : State) (h : q.stc = s.stc) : wokenOutput q = wokenOutput s := by
    unfold wokenOutput
    rw [h]
  rw [tripPublished, hkept _ (by simp [changeOp_vsc]), steerTripped_stc, hwoken _ (by simp)]
  by_cases hout : s.stc.out = .stopped <;> simp [hout]

theorem tripPublished_hazard : (tripPublished added first s).ltc.hazard = s.ltc.hazard := by
  rw [tripPublished, tractionTripped_eq, publishDuties_hazard]
  simp

theorem overlaysRight_tripPublished : OverlaysRight (tripPublished added first s) := overlaysRight_overlayTests _

end

/-- R154: where no hazard stood, its start settles the overlays. -/
theorem overlaysSettle_hazardStart {s q : State} (hpasses : Passes s q) (hright : OverlaysRight q) (hnone : q.ltc.hazard = none) :
    OverlaysSettle s (hazardStart q) := by
  have hsettle := hpasses.settles hright.ok hnone
  refine ⟨(overlaysRight_overlayTests _).ok, fun c => ?_⟩
  have htested : OverlayTested (hazardStart q) c (q.chan c) :=
    overlayTested_overlayTests (q.modLtc fun l => { l with hazard := some 0 }) c
  obtain ⟨-, -, -, -, -, -, hsame, hformed⟩ := htested
  by_cases hoverlay : ((hazardStart q).chan c).overlay = (q.chan c).overlay
  · rw [hsame hoverlay]
    obtain hkept | hlevel := hsettle.2 c
    · exact .inl hkept
    · exact .inr (hlevel.of_hazard (overlay_ne_hazard hright.ok hnone c))
  · exact .inr (hformed hoverlay)

/-- R101: a winch that is ended or kept leaves the rest of the entry as it is. -/
theorem winchKill_surroundings (cause : EndCause) (s : State) : (winchKill cause s).vsc = s.vsc ∧
    (winchKill cause s).stc = s.stc ∧ (winchKill cause s).ltc = s.ltc ∧
    (winchKill cause s).trc = { s.trc with assist := (winchKill cause s).trc.assist } := by
  obtain ⟨-, ht⟩ | ⟨-, ht⟩ := Machine.winchKill_cases cause s <;> rw [ht]
  · exact ⟨by simp, by simp, by simp, by rw [winchEnd_trc]⟩
  · exact ⟨rfl, rfl, rfl, rfl⟩

section
variable {s q : State} (h : Asked s q) {cause : EndCause}
include h

/-- R117, R142: an active winch unit ends, an idle one is kept. -/
theorem Asked.winchKilled : ((s.unit 0).state ≠ .idle → WinchEnded s (winchKill cause q)) ∧
    ((s.unit 0).state = .idle → WinchKept s (winchKill cause q)) := by
  obtain ⟨hidle, ht⟩ | ⟨hactive, ht⟩ := h.winchKill_cases cause <;> rw [ht]
  · exact ⟨fun hno => absurd hidle hno, fun _ => h.winchKept⟩
  · exact ⟨fun _ => h.winchEnded cause, fun hidle => absurd hidle hactive⟩

theorem Asked.passes_winchKill : Passes s (winchKill cause q) := by
  obtain ⟨-, ht⟩ | ⟨-, ht⟩ := h.winchKill_cases cause <;> rw [ht]
  · exact h.passes
  · exact h.passes.trans (passes_winchEnd cause q)

theorem Asked.sameScan_winchKill : SameScan s (winchKill cause q) := by
  obtain ⟨-, ht⟩ | ⟨-, ht⟩ := h.winchKill_cases cause <;> rw [ht]
  · exact h.scan
  · exact h.scan.trans (sameScan_winchEnd cause q) fun b => winchEnd_duty

end

section
variable (added : List TripCause) (first : TripCause) (s : State)

theorem asked_tripHazard : Asked s (hazardStart (tripPublished added first s)) :=
  (asked_tripPublished added first s).trans (asked_hazardStart _)

theorem enterTripped_vsc : (enterTripped added first s).vsc = { s.vsc.tripped added first with op := .tripped } := by
  rw [enterTripped_eq, (winchKill_surroundings _ _).1]
  exact tripPublished_vsc added first s

theorem enterTripped_trc : (enterTripped added first s).trc =
    { s.trc.tripped with assist := (enterTripped added first s).trc.assist } := by
  have h := (winchKill_surroundings .tripped (hazardStart (tripPublished added first s))).2.2.2
  have htrc : (hazardStart (tripPublished added first s)).trc = s.trc.tripped := tripPublished_trc added first s
  rwa [htrc] at h

/-- R19: what the entry to TRIPPED leaves, where no hazard stood before. -/
theorem entersTripped_enterTripped (hnone : s.ltc.hazard = none) : EntersTripped s (enterTripped added first s) := by
  have hasked := asked_tripHazard added first s
  have hvsc := enterTripped_vsc added first s
  have htrc := enterTripped_trc added first s
  obtain ⟨-, hstc, hltc, -⟩ := winchKill_surroundings .tripped (hazardStart (tripPublished added first s))
  have hstc : (enterTripped added first s).stc = _ := hstc.trans (tripPublished_stc added first s)
  have hltc : (enterTripped added first s).ltc = (hazardStart (tripPublished added first s)).ltc := hltc
  have hsettle := overlaysSettle_hazardStart (asked_tripPublished added first s).passes (overlaysRight_tripPublished added first s)
    ((tripPublished_hazard added first s).trans hnone)
  have hpasses : Passes s (enterTripped added first s) := hasked.passes_winchKill
  have hright : OverlaysRight (enterTripped added first s) :=
    (overlaysRight_overlayTests _).of_same (sameOverlays_winchKill .tripped _)
  have hhazard : (enterTripped added first s).ltc.hazard = some 0 := congrArg Ltc.hazard hltc
  have hchan (c : Chan) : (enterTripped added first s).chan c = (hazardStart (tripPublished added first s)).chan c := by
    rw [State.chan, State.chan, hltc]
  obtain ⟨hended, hkept⟩ := hasked.winchKilled (cause := .tripped)
  refine ⟨by rw [hvsc], by rw [hvsc]; rfl, by rw [hvsc]; rfl, by rw [hvsc]; rfl, by rw [hvsc]; rfl, by rw [hvsc]; rfl,
    by rw [hvsc]; rfl, by rw [htrc]; rfl, by rw [htrc]; rfl, by rw [htrc]; rfl, by rw [htrc]; rfl, by rw [htrc]; rfl,
    by rw [htrc]; rfl, by rw [htrc]; rfl, by rw [htrc]; rfl, by rw [htrc]; rfl, by rw [htrc]; rfl, by rw [htrc]; rfl,
    by rw [htrc]; rfl, hstc, by rw [htrc]; rfl, hasked.sameScan_winchKill, hended, hkept, hhazard, fun c hturn => ?_,
    ⟨hright.ok, fun c => ?_⟩, hpasses.sup, hpasses.stores, hpasses.levels, hpasses.lightUnits⟩
  · have hok := hright.ok c
    unfold OverlayOkAt at hok
    rw [hpasses.cfg, if_pos hturn] at hok
    exact hok.1 (by rw [hhazard]; rfl)
  · have hcfg : (enterTripped added first s).cfg = (hazardStart (tripPublished added first s)).cfg :=
      hpasses.cfg.trans hasked.passes.cfg.symm
    rw [hchan, hltc, hcfg]
    exact hsettle.2 c

end

/-! ## The comparators asserted at a reset (01 R17) -/

/-- R17, R19, R20: the state after a comparator's assertion, with the causes that have arrived. -/
def trippedAtReset (q : State) (old : OpState) (first : Bridge) (causes : CauseSet) : State :=
  { enterTripped [.short first] (.short first) q with
    vsc := { (enterTripped [.short first] (.short first) q).vsc with causes := causes }
    nq := [.opstate .tripped old .trip, .trip causes (.short first)] }

/-- The causes that the asserted comparators of a list bring. -/
def CausesOf (comparator : PerBridge Bool) (l : List Bridge) (causes : CauseSet) : Prop :=
  causes.overtemp = CauseSet.empty.overtemp ∧ causes.packOvercurrent = false ∧
  ∀ b, causes.short.get b = (decide (b ∈ l) && comparator.get b)

/-- R17: what the assertion events of the bridges of a list make of the state that a reset leaves. -/
def AssertedAtReset (q : State) (old : OpState) (l : List Bridge) (t : State) : Prop :=
  (t = q ∧ ∀ b ∈ l, q.vsc.comparator.get b = false) ∨
  ∃ first causes, q.vsc.comparator.get first = true ∧ CausesOf q.vsc.comparator l causes ∧
    t = trippedAtReset q old first causes

/-- What a reset leaves in VSC, the queue and the winch unit. -/
structure FreshlyReset (q : State) (old : OpState) : Prop where
  op : q.vsc.op = .parked
  causes : q.vsc.causes = .empty
  notices : q.nq = noticesAtReset old
  idle : (q.unit 0).state = .idle

/-- R160: an offer whose kind is in the list. -/
theorem offer_updated {o : Offer} {s : State} {q : List Notice} (h : updateInPlace o s.nq = some q) :
    (offer o s).nq = q := by
  rw [offer, h]
  rfl

/-- R160: an offer whose kind is not in the list, with room. -/
theorem offer_appended {o : Offer} {s : State} (h : updateInPlace o s.nq = none) (hroom : s.nq.length < Config.noticeCapacity) :
    (offer o s).nq = s.nq ++ [o.fresh] := by
  rw [offer, h]
  dsimp only
  rw [if_pos hroom]
  rfl

/-- R2, R160: the notices of an entry to TRIPPED right after a reset. -/
theorem offeredTrip {old : OpState} (s : State) (causes : CauseSet) (first : TripCause) (h : s.nq = noticesAtReset old) :
    (changeOp .tripped .trip (offer (.tripEntered causes first) s)).nq =
      [.opstate .tripped old .trip, .trip causes first] := by
  have htrip : (offer (.tripEntered causes first) s).nq = [.opstate .parked old .reset, .trip causes first] := by
    rw [offer_appended (by rw [h]; rfl) (by rw [h]; show (1 : Nat) < 8; omega), h]
    rfl
  exact offer_updated (by rw [State.modVsc_nq, htrip]; rfl)

section
variable {q : State} {old : OpState} (h : FreshlyReset q old)
include h

/-- R19: the first asserted comparator. -/
theorem FreshlyReset.trips (b : Bridge) : enterTripped [.short b] (.short b) q =
    trippedAtReset q old b (CauseSet.empty.add (.short b)) := by
  have hcauses : (enterTripped [.short b] (.short b) q).vsc.causes = CauseSet.empty.add (.short b) := by
    rw [enterTripped_vsc, Vsc.tripped, h.causes]
    rfl
  have hnq : (enterTripped [.short b] (.short b) q).nq =
      [.opstate .tripped old .trip, .trip (CauseSet.empty.add (.short b)) (.short b)] := by
    have hstays : winchKill .tripped (hazardStart (tripPublished [.short b] (.short b) q)) =
        hazardStart (tripPublished [.short b] (.short b) q) := by
      obtain ⟨-, ht⟩ | ⟨hactive, -⟩ := (asked_tripHazard [.short b] (.short b) q).winchKill_cases .tripped
      · exact ht
      · exact absurd h.idle hactive
    have hactions (x : State) : (hazardStart (tractionTripped (steerTripped x))).nq = x.nq := by simp
    rw [enterTripped_eq, hstays, tripPublished, hactions, ← offeredTrip (q.modVsc fun v => v.tripped [.short b] (.short b))
      (CauseSet.empty.add (.short b)) (.short b) h.notices, h.causes]
    rfl
  unfold trippedAtReset
  rw [← hnq, ← hcauses]

end

/-- R20: an asserted comparator that is not yet a cause. -/
theorem trippedAtReset_adds {q : State} {old : OpState} {first b : Bridge} {causes : CauseSet} (hnew : causes.short.get b = false) :
    tripWith [.short b] (trippedAtReset q old first causes) =
      trippedAtReset q old first (causes.add (.short b)) := by
  have hop : (trippedAtReset q old first causes).vsc.op = .tripped := by
    have hvsc := enterTripped_vsc [.short first] (.short first) q
    exact (congrArg Vsc.op hvsc :)
  have hfilter : ([TripCause.short b].filter fun c => !(trippedAtReset q old first causes).vsc.causes.has c) = [.short b] := by
    have hhas : (trippedAtReset q old first causes).vsc.causes.has (.short b) = false := hnew
    simp [hhas]
  unfold tripWith
  dsimp only
  rw [if_pos hop, addCauses, hfilter]
  unfold trippedAtReset
  generalize enterTripped [.short first] (.short first) q = e
  rfl

/-- The causes that one more comparator brings. -/
theorem CausesOf.add {comparator : PerBridge Bool} {l : List Bridge} {causes : CauseSet} (h : CausesOf comparator l causes)
    {b : Bridge} (hb : comparator.get b = true) : CausesOf comparator (b :: l) (causes.add (.short b)) := by
  obtain ⟨htemp, hpack, hshort⟩ := h
  refine ⟨htemp, hpack, fun b' => ?_⟩
  have hput : (causes.short.put b true).get b' = if b' = b then true else causes.short.get b' := PerBridge.get_put ..
  refine hput.trans ?_
  by_cases hbb : b' = b
  · simp [hbb, hb]
  · simp [hbb, hshort]

theorem CausesOf.skip {comparator : PerBridge Bool} {l : List Bridge} {causes : CauseSet} (h : CausesOf comparator l causes)
    {b : Bridge} (hb : comparator.get b = false) : CausesOf comparator (b :: l) causes := by
  obtain ⟨htemp, hpack, hshort⟩ := h
  refine ⟨htemp, hpack, fun b' => ?_⟩
  rw [hshort]
  by_cases hbb : b' = b
  · simp [hbb, hb]
  · simp [hbb]

theorem causesOf_nil {comparator : PerBridge Bool} {l : List Bridge} (h : ∀ b ∈ l, comparator.get b = false) :
    CausesOf comparator l .empty := by
  refine ⟨rfl, rfl, fun b => ?_⟩
  have hempty : CauseSet.empty.short.get b = false := by cases b <;> rfl
  rw [hempty]
  by_cases hb : b ∈ l
  · simp [h b hb]
  · simp [hb]

/-- R17: one more bridge, in whatever order. -/
theorem FreshlyReset.asserted {q : State} {old : OpState} (h : FreshlyReset q old) {l : List Bridge} {t : State}
    (ht : AssertedAtReset q old l t) {b : Bridge} (hb : b ∉ l) : AssertedAtReset q old (b :: l) (assertedAtReset b t) := by
  obtain ⟨rfl, hnone⟩ | ⟨first, causes, hfirst, hcauses, rfl⟩ := ht
  · cases hasserted : t.vsc.comparator.get b with
    | true =>
      have htrips : assertedAtReset b t = trippedAtReset t old b (CauseSet.empty.add (.short b)) := by
        rw [assertedAtReset, if_pos hasserted, tripWith, if_neg (by rw [h.op]; decide), h.trips]
      exact .inr ⟨b, _, hasserted, (causesOf_nil hnone).add hasserted, htrips⟩
    | false =>
      have hstays : assertedAtReset b t = t := if_neg (by rw [hasserted]; decide)
      rw [hstays]
      exact .inl ⟨rfl, List.forall_mem_cons.mpr ⟨hasserted, hnone⟩⟩
  · have hcomparator : (trippedAtReset q old first causes).vsc.comparator = q.vsc.comparator :=
      (congrArg Vsc.comparator (enterTripped_vsc [.short first] (.short first) q) :)
    cases hasserted : q.vsc.comparator.get b with
    | true =>
      have hnew : causes.short.get b = false := by simp [hcauses.2.2, hb]
      have hadds : assertedAtReset b (trippedAtReset q old first causes) =
          trippedAtReset q old first (causes.add (.short b)) := by
        rw [assertedAtReset, if_pos (by rw [hcomparator, hasserted]), trippedAtReset_adds hnew]
      exact .inr ⟨first, _, hfirst, hcauses.add hasserted, hadds⟩
    | false =>
      have hstays : assertedAtReset b (trippedAtReset q old first causes) = trippedAtReset q old first causes :=
        if_neg (by rw [hcomparator, hasserted]; decide)
      rw [hstays]
      exact .inr ⟨first, causes, hfirst, hcauses.skip hasserted, rfl⟩

theorem CausesOf.all {comparator : PerBridge Bool} {l : List Bridge} {causes : CauseSet} (h : CausesOf comparator l causes)
    (hall : ∀ b, b ∈ l) : causes = { CauseSet.empty with short := comparator } := by
  obtain ⟨htemp, hpack, hshort⟩ := h
  have heq (b : Bridge) : causes.short.get b = comparator.get b := by simp [hshort, hall]
  have hfront : causes.short.front = comparator.front := heq .front
  have hrear : causes.short.rear = comparator.rear := heq .rear
  have hwinch : causes.short.winch = comparator.winch := heq .winch
  obtain ⟨⟨_, _, _⟩, _, _⟩ := causes
  subst htemp hpack hfront hrear hwinch
  rfl

theorem PerBridge.eq_none {c : PerBridge Bool} (h : ∀ b, c.get b = false) : c = ⟨false, false, false⟩ := by
  obtain ⟨front, rear, winch⟩ := c
  obtain rfl : front = false := h .front
  obtain rfl : rear = false := h .rear
  obtain rfl : winch = false := h .winch
  rfl

theorem AssertedAtReset.all {q : State} {old : OpState} {l : List Bridge} {t : State} (h : AssertedAtReset q old l t)
    (hall : ∀ b, b ∈ l) (hany : q.vsc.comparator ≠ ⟨false, false, false⟩) :
    ∃ first, q.vsc.comparator.get first = true ∧
      t = trippedAtReset q old first { CauseSet.empty with short := q.vsc.comparator } := by
  obtain ⟨-, hnone⟩ | ⟨first, causes, hfirst, hcauses, ht⟩ := h
  · exact absurd (PerBridge.eq_none fun b => hnone b (hall b)) hany
  · exact ⟨first, hfirst, hcauses.all hall ▸ ht⟩

theorem anyAsserted_iff (c : PerBridge Bool) : anyAsserted c = true ↔ c ≠ ⟨false, false, false⟩ := by
  obtain ⟨front, rear, winch⟩ := c
  cases front <;> cases rear <;> cases winch <;> decide

/-- R17: with no comparator asserted a reset leaves its state. -/
theorem assertionsAtReset_none {q : State} (hnone : q.vsc.comparator = ⟨false, false, false⟩) : assertionsAtReset q = q :=
  if_neg fun h => (anyAsserted_iff _).mp h hnone

/-- R17: with comparators asserted, in whatever order they are taken. -/
theorem FreshlyReset.trippedByAssertions {q : State} {old : OpState} (h : FreshlyReset q old)
    (hany : q.vsc.comparator ≠ ⟨false, false, false⟩) : ∃ first, q.vsc.comparator.get first = true ∧
      assertionsAtReset q = trippedAtReset q.nextChoice old first { CauseSet.empty with short := q.vsc.comparator } := by
  have hfresh : FreshlyReset q.nextChoice old := ⟨h.op, h.causes, h.notices, h.idle⟩
  have hthree {a b c : Bridge} (hab : b ∉ [a]) (hbc : c ∉ [b, a]) : AssertedAtReset q.nextChoice old [c, b, a]
      (assertedAtReset c (assertedAtReset b (assertedAtReset a q.nextChoice))) := by
    have hstart : AssertedAtReset q.nextChoice old [] q.nextChoice := .inl ⟨rfl, nofun⟩
    exact hfresh.asserted (hfresh.asserted (hfresh.asserted hstart (List.not_mem_nil)) hab) hbc
  rw [assertionsAtReset, if_pos ((anyAsserted_iff _).mpr hany)]
  have hdone {a b c : Bridge} (hab : b ∉ [a]) (hbc : c ∉ [b, a]) (hall : ∀ x : Bridge, x ∈ [c, b, a]) :=
    (hthree hab hbc).all hall hany
  have hall {a b c : Bridge} (h : Bridge.front ∈ [c, b, a] ∧ .rear ∈ [c, b, a] ∧ .winch ∈ [c, b, a]) (x : Bridge) :
      x ∈ [c, b, a] := by
    obtain ⟨hf, hr, hw⟩ := h
    cases x <;> assumption
  obtain h | h | h | h | h | h := runOrder_cases (Config.order q.choice) (assertedAtReset .front) (assertedAtReset .rear)
    (assertedAtReset .winch) q.nextChoice <;> rw [h] <;> exact hdone (by decide) (by decide) (hall (by decide))

/-- R19: the entry that the assertions at a reset make. -/
theorem entersTripped_atReset {q : State} (hnone : q.ltc.hazard = none) (old : OpState) (first : Bridge) (causes : CauseSet) :
    EntersTripped q (trippedAtReset q old first causes) := by
  have h := entersTripped_enterTripped [.short first] (.short first) q hnone
  unfold trippedAtReset
  generalize enterTripped [.short first] (.short first) q = e at h ⊢
  exact h

theorem trippedAtReset_rest (q : State) (old : OpState) (first : Bridge) (causes : CauseSet) :
    (trippedAtReset q old first causes).vsc.comparator = q.vsc.comparator ∧
    (trippedAtReset q old first causes).vsc.firstCause = some (.short first) ∧
    (trippedAtReset q old first causes).lnk = q.lnk ∧ (trippedAtReset q old first causes).pending = q.pending ∧
    (trippedAtReset q old first causes).vsc.causes = causes ∧
    (trippedAtReset q old first causes).nq = [.opstate .tripped old .trip, .trip causes (.short first)] := by
  have hvsc := enterTripped_vsc [.short first] (.short first) q
  have hlnk : (enterTripped [.short first] (.short first) q).lnk = q.lnk := by simp
  have hpending : (enterTripped [.short first] (.short first) q).pending = q.pending := by simp
  exact ⟨(congrArg Vsc.comparator hvsc :), (congrArg Vsc.firstCause hvsc :), hlnk, hpending, rfl, rfl⟩

/-- R19: the entry reads neither the comparators nor what the model adds to the state. -/
theorem EntersTripped.readsNot {s t : State} (h : EntersTripped s t) (comparator : PerBridge Bool) (choice : Nat)
    (pending : List Instr) : EntersTripped
      { s with vsc := { s.vsc with comparator := comparator }, choice := choice, pending := pending }
      { t with pending := pending } := by
  obtain ⟨hop, hhold, hgrace, horigin, hlatch, hcount, hmeasured, hstate, htrchold, hthrottle, htarget, happlied, hmode,
    hbraking, hopen, hdig, hdigIn, hdrag, hratio, hstc, hlimiter, hscan, hended, hkept, hhazard, hturn, hsettle, hsup,
    ⟨hcfg, hstore, hlmx, -⟩, hlevels, hlights⟩ := h
  exact ⟨hop, hhold, hgrace, horigin, hlatch, hcount, hmeasured, hstate, htrchold, hthrottle, htarget, happlied, hmode,
    hbraking, hopen, hdig, hdigIn, hdrag, hratio, hstc, hlimiter, hscan, hended, hkept, hhazard, hturn, hsettle, hsup,
    ⟨hcfg, hstore, hlmx, rfl⟩, hlevels, hlights⟩

/-! ## The full reset -/

/-- Settles O58: the reset state, and the entry to TRIPPED of an asserted comparator. -/
theorem fullResetRestores : Obligations.FullResetRestores := by
  intro s
  refine ⟨fun hnone => congrArg Host.Outcome.next ?_, fun hany => ?_⟩
  · rw [fullReset, assertionsAtReset_none (by exact hnone), resetTo, hnone]
    rfl
  · have hfresh : FreshlyReset (resetTo Settings.default (Vector.replicate 128 .empty) (Vector.replicate 4 .off) 0 .parked s)
        .parked := ⟨rfl, rfl, rfl, rfl⟩
    obtain ⟨first, hfirst, ht⟩ := hfresh.trippedByAssertions (by exact hany)
    have henters := entersTripped_atReset (q := (resetTo Settings.default (Vector.replicate 128 .empty)
      (Vector.replicate 4 .off) 0 .parked s).nextChoice) rfl .parked first { CauseSet.empty with short := s.vsc.comparator }
    obtain ⟨hcomparator, hcause, hlnk, hpending, hcauses, hnq⟩ := trippedAtReset_rest (resetTo Settings.default
      (Vector.replicate 128 .empty) (Vector.replicate 4 .off) 0 .parked s).nextChoice .parked first
      { CauseSet.empty with short := s.vsc.comparator }
    have hexec : exec .fullReset s = .next (trippedAtReset (resetTo Settings.default
        (Vector.replicate 128 .empty) (Vector.replicate 4 .off) 0 .parked s).nextChoice .parked first
        { CauseSet.empty with short := s.vsc.comparator }) := congrArg Host.Outcome.next ht
    generalize trippedAtReset (resetTo Settings.default (Vector.replicate 128 .empty) (Vector.replicate 4 .off) 0 .parked
      s).nextChoice .parked first { CauseSet.empty with short := s.vsc.comparator } = t at *
    rw [← hcauses] at hnq
    exact ⟨t, hexec, henters.readsNot ⟨false, false, false⟩ 0 [], hpending, hcauses, hcomparator, hlnk, first, hfirst, hcause,
      hnq⟩

/-! ## The soft reset -/

/-- Settles O59: what a soft reset keeps and restores, and the entry to TRIPPED of an asserted comparator. -/
theorem softResetKeepsStores : Obligations.SoftResetKeepsStores := by
  intro s
  refine ⟨fun hnone => ⟨resetTo s.cfg s.pgc.store (lineFns s) s.wch.position s.vsc.op s, congrArg Host.Outcome.next ?_, ?_⟩,
    fun hany => ?_⟩
  · rw [softReset, assertionsAtReset_none (by exact hnone)]
  · refine ⟨rfl, rfl, rfl, fun i => ?_, rfl, rfl, ?_, rfl, rfl, rfl, rfl, rfl, rfl, rfl, rfl, rfl, rfl, rfl, rfl, rfl, rfl,
      rfl, rfl, rfl, rfl, rfl, rfl⟩
    · simp [resetTo, Lmx.atReset, lineFns]
    · rw [resetTo, hnone]
      rfl
  · have hfresh : FreshlyReset (resetTo s.cfg s.pgc.store (lineFns s) s.wch.position s.vsc.op s) s.vsc.op :=
      ⟨rfl, rfl, rfl, rfl⟩
    obtain ⟨first, hfirst, ht⟩ := hfresh.trippedByAssertions (by exact hany)
    have henters := entersTripped_atReset
      (q := (resetTo s.cfg s.pgc.store (lineFns s) s.wch.position s.vsc.op s).nextChoice) rfl s.vsc.op first
      { CauseSet.empty with short := s.vsc.comparator }
    obtain ⟨hcomparator, hcause, hlnk, hpending, hcauses, hnq⟩ := trippedAtReset_rest
      (resetTo s.cfg s.pgc.store (lineFns s) s.wch.position s.vsc.op s).nextChoice s.vsc.op first
      { CauseSet.empty with short := s.vsc.comparator }
    have hexec : exec .softReset s = .next (trippedAtReset
        (resetTo s.cfg s.pgc.store (lineFns s) s.wch.position s.vsc.op s).nextChoice s.vsc.op first
        { CauseSet.empty with short := s.vsc.comparator }) := congrArg Host.Outcome.next ht
    generalize trippedAtReset (resetTo s.cfg s.pgc.store (lineFns s) s.wch.position s.vsc.op s).nextChoice s.vsc.op first
      { CauseSet.empty with short := s.vsc.comparator } = t at *
    have hsame : { t with pending := s.pending } = t := hpending ▸ rfl
    have hreads := henters.readsNot ⟨false, false, false⟩ s.choice s.pending
    rw [hsame] at hreads
    rw [← hcauses] at hnq
    exact ⟨_, t, congrArg Host.Outcome.next (assertionsAtReset_none rfl), hexec, hreads, hcauses, hcomparator, hlnk, first,
      hfirst, hcause, hnq⟩

end Sys2Proof.Machine

/-! What the blocks leave of a scan's publication (02 R28 to R32, 03 R45 to R52, 62). -/

namespace Sys2Proof.Machine

/-! ## What every block leaves (02 R32) -/

/-- What SCN has published at a completion. -/
def Scn.published (n : Scn) : ScanResults × Bool × Vector Nat 4 × Nat := (n.results, n.primed, n.filtered, n.completions)

/-- What the blocks leave, in whatever order they take a completion; light levels are only cut. -/
structure Follows (s t : State) : Prop where
  published : t.scn.published = s.scn.published
  measured : s.vsc.measured = true → t.vsc.measured = true
  cfg : t.cfg = s.cfg
  applied : ∀ c, (t.chan c).applied ≤ (s.chan c).applied

theorem Follows.refl (s : State) : Follows s s := ⟨rfl, id, rfl, fun _ => Nat.le_refl _⟩

theorem Follows.trans {s t u : State} (h : Follows s t) (k : Follows t u) : Follows s u where
  published := k.published.trans h.published
  measured := k.measured ∘ h.measured
  cfg := k.cfg.trans h.cfg
  applied := fun c => (k.applied c).trans (h.applied c)

theorem published_of_wait {n m : Scn} (h : { m with wait := none } = { n with wait := none }) : m.published = n.published :=
  (congrArg Scn.published h :)

theorem Passes.follows {s t : State} (h : Passes s t) (hscn : t.scn.published = s.scn.published)
    (hmeasured : t.vsc.measured = s.vsc.measured) : Follows s t where
  published := hscn
  measured := fun hm => hmeasured.trans hm
  cfg := h.cfg
  applied := fun c => le_of_eq (h.levels c).2.2.2.2.2

/-- R13: a shutdown that completes. -/
theorem follows_completionTest (s : State) : Follows s (completionTest s) := by
  obtain ⟨-, -, h⟩ | ⟨-, h⟩ := completionTest_cases s <;> rw [h]
  · refine (passes_enterParked .shutdownComplete s).follows ?_ (by rw [enterParked_vsc])
    rw [enterParked_scn]
    rfl
  · exact .refl s

theorem follows_cutAndTest (cap : Axle → Nat) (why : Limiter) (s : State) :
    Follows s (cutAndTest (cap .front) (cap .rear) why s) := by
  unfold cutAndTest
  split
  · rename_i habove
    have habove := (anyAbove_iff s cap).mp habove
    exact ((passes_cutAxles habove why).follows (published_of_wait (sameScan_cutAxles habove why).1) (by simp)).trans
      (follows_completionTest _)
  · exact .refl s

/-! ## The blocks, one by one -/

/-- R86: TRC's assist step. -/
theorem follows_assistStep (s : State) : Follows s (assistStep s) ∧ (assistStep s).sup = s.sup := by
  refine ⟨?_, by simp⟩
  have hcap (a : Option Nat) : Follows s (s.modTrc fun t => { t with assist := a }) :=
    Passes.follows (.of_eq rfl rfl rfl rfl rfl rfl rfl) rfl rfl
  unfold assistStep
  split
  · split
    · split
      · exact (hcap _).trans (follows_cutAndTest (fun _ => _) _ _)
      · exact hcap _
    · exact .refl s
  · exact .refl s

theorem WinchMoves.follows {s t : State} (h : WinchMoves s t) : Follows s t where
  published := published_of_wait h.scn
  measured := fun hm => by rw [h.vsc, hm]
  cfg := h.cfg
  applied := fun c => by rw [State.chan, h.ltc]; exact Nat.le_refl _

theorem follows_winchEnds (cause : EndCause) (s : State) : Follows s (winchEnds cause s) :=
  ((passes_winchEnd cause s).follows (published_of_wait (sameScan_winchEnd cause s).1) (by simp)).trans
    (follows_completionTest _)

/-- R86, R138: WCH's part. -/
theorem follows_winchCompletion (s : State) : Follows s (winchCompletion s) := by
  obtain ⟨u, hmoves, ⟨h, -⟩ | ⟨-, cause, h⟩⟩ := winchCompletion_reacts s <;> rw [h]
  · exact hmoves.follows
  · exact hmoves.follows.trans (follows_winchEnds cause u)

/-- R12: a shutdown that begins. -/
theorem follows_beginShutdown (origin : Origin) (cause : OpCause) (s : State) : Follows s (beginShutdown origin cause s) := by
  have hasked := asked_shutdownAsked origin cause s
  have hpasses : Passes s (shutdownHalted origin cause s) := hasked.passes_haltWinch
  have hscan : SameScan s (shutdownHalted origin cause s) := hasked.sameScan_haltWinch
  rw [beginShutdown_halted]
  refine (hpasses.follows (published_of_wait hscan.1) ?_).trans (follows_completionTest _)
  rw [shutdownHalted_vsc]
  rfl

/-- R19: the entry to TRIPPED. -/
theorem follows_enterTripped (added : List TripCause) (first : TripCause) (s : State) :
    Follows s (enterTripped added first s) := by
  have hasked := asked_tripHazard added first s
  refine Passes.follows hasked.passes_winchKill (published_of_wait (hasked.sameScan_winchKill (cause := .tripped)).1) ?_
  exact (congrArg Vsc.measured (enterTripped_vsc added first s) :)

theorem follows_tripWith (added : List TripCause) (s : State) : Follows s (tripWith added s) := by
  have hadds (causes : CauseSet) (o : Offer) : Follows s (offer o (s.modVsc fun v => { v with causes := causes })) := by
    have hvsc : Passes s (s.modVsc fun v => { v with causes := causes }) := .of_eq rfl rfl rfl rfl rfl rfl rfl
    exact (hvsc.trans (passes_offer o _)).follows (by simp) (by simp)
  unfold tripWith
  split
  · exact .refl s
  · split
    · unfold addCauses
      split
      · exact .refl s
      · exact hadds _ _
    · exact follows_enterTripped _ _ s

/-- R1, R15, R18: VSC's part, after which a scan has been measured. -/
theorem follows_vehicleCompletion (became : Bool) (s : State) : Follows s (vehicleCompletion became s) ∧
    (vehicleCompletion became s).vsc.measured = true ∧ (vehicleCompletion became s).sup = s.sup := by
  have hmeasured : Follows s (s.modVsc fun v => { v with measured := true }) :=
    { Follows.refl s with measured := fun _ => rfl }
  have hparts : Follows (s.modVsc fun v => { v with measured := true }) (vehicleCompletion became s) := by
    unfold vehicleCompletion cutoffTest
    dsimp only
    split
    · split
      · exact follows_beginShutdown _ _ _
      · exact .refl _
    · exact follows_tripWith _ _
  exact ⟨hmeasured.trans hparts, hparts.measured rfl, by simp⟩

/-- R44, R63: SUP's part; each light is cut to its caps. -/
theorem follows_supplyCompletion (s : State) : Follows s (supplyCompletion s) ∧
    ∀ c : Chan, ((supplyCompletion s).chan c).applied ≤ (supNext s).alloc.stageCap[c] := by
  obtain ⟨hvsc, -, -, -, -, -, hcfg, -⟩ := supTrimmed_frame s
  have happlied (c : Chan) : ((supTrimmed s).chan c).applied =
      min (s.chan c).applied (min (supNext s).alloc.budgetCap[c] (supNext s).alloc.stageCap[c]) := by
    rw [supTrimmed_chan, trimmedChannel]
    split <;> rfl
  have htrimmed : Follows s (supTrimmed s) :=
    { published := published_of_wait (supTrimmed_scan s).1
      measured := fun hm => by rw [hvsc, hm]
      cfg := hcfg
      applied := fun c => by rw [happlied]; exact Nat.min_le_left .. }
  have hcut : Follows (supTrimmed s) (supplyCompletion s) := by
    rw [supplyCompletion_newCap]
    exact follows_cutAndTest _ _ _
  refine ⟨htrimmed.trans hcut, fun c => (hcut.applied c).trans ?_⟩
  rw [happlied]
  exact (Nat.min_le_right ..).trans (Nat.min_le_right ..)

/-! ## The completion (02 R32) -/

/-- What SUP makes of a completion that SCN has published in `s`, with what the other blocks leave of it. -/
def SupPublished (s t : State) : Prop :=
  ∃ u, Follows s u ∧ u.sup = s.sup ∧ t.sup = supNext u ∧ ∀ c : Chan, (t.chan c).applied ≤ t.sup.alloc.stageCap[c]

theorem SupPublished.follows {s t q : State} (h : SupPublished s t) (hq : Follows t q) (hsup : q.sup = t.sup) :
    SupPublished s q := by
  obtain ⟨u, hu, hold, hnew, hcap⟩ := h
  refine ⟨u, hu, hold, hsup.trans hnew, fun c => ?_⟩
  rw [hsup]
  exact (hq.applied c).trans (hcap c)

/-- R44, R1: SUP and VSC after it. -/
theorem supplyAndVehicle_publishes {s u : State} (h : Follows s u) (hsup : u.sup = s.sup) :
    Follows s (supplyAndVehicle u) ∧ SupPublished s (supplyAndVehicle u) ∧ (supplyAndVehicle u).vsc.measured = true := by
  obtain ⟨hsupply, hcap⟩ := follows_supplyCompletion u
  obtain ⟨hvehicle, hmeasured, hkept⟩ :=
    follows_vehicleCompletion (becameCutoff u.sup.stage (supplyCompletion u)) (supplyCompletion u)
  have hpublished : SupPublished s (supplyCompletion u) :=
    ⟨u, h, hsup, supplyCompletion_sup u, fun c => by rw [supplyCompletion_sup]; exact hcap c⟩
  exact ⟨(h.trans hsupply).trans hvehicle, hpublished.follows hvehicle hkept, hmeasured⟩

/-- R32: the three parts, in whatever order. -/
theorem completionEvent_publishes (order : Order3) (s : State) : Follows s (completionEvent order s) ∧
    SupPublished s (completionEvent order s) ∧ (completionEvent order s).vsc.measured = true := by
  have hassist (t : State) := follows_assistStep t
  have hwinch (t : State) : Follows t (winchCompletion t) ∧ (winchCompletion t).sup = t.sup :=
    ⟨follows_winchCompletion t, by simp⟩
  have hkeeps {f : State → State} (hf : ∀ t, Follows t (f t) ∧ (f t).sup = t.sup) (t : State)
      (ht : Follows s t ∧ SupPublished s t ∧ t.vsc.measured = true) :
      Follows s (f t) ∧ SupPublished s (f t) ∧ (f t).vsc.measured = true :=
    ⟨ht.1.trans (hf t).1, ht.2.1.follows (hf t).1 (hf t).2, (hf t).1.measured ht.2.2⟩
  have hbefore {f : State → State} (hf : ∀ t, Follows t (f t) ∧ (f t).sup = t.sup) (t : State)
      (ht : Follows s t ∧ t.sup = s.sup) : Follows s (f t) ∧ (f t).sup = s.sup :=
    ⟨ht.1.trans (hf t).1, (hf t).2.trans ht.2⟩
  exact runOrder_reaches (fun t ht => supplyAndVehicle_publishes ht.1 ht.2) (hbefore hassist) (hkeeps hassist)
    (hbefore hwinch) (hkeeps hwinch) order s ⟨.refl s, rfl⟩

/-- R32: what SCN publishes stands through its next scan and its watch window check. -/
theorem scanComplete_published (c : Scan) (s : State) : (scanComplete c s).scn.published =
    (resultsOf s.cfg s.scn c, true, (resultsOf s.cfg s.scn c).filtered, (s.scn.completions + 1) % 65536) := by
  have hpublish : (publishScan c s).scn.published =
      (resultsOf s.cfg s.scn c, true, (resultsOf s.cfg s.scn c).filtered, (s.scn.completions + 1) % 65536) := rfl
  have hoffer (o : Offer) (q : State) : (offer o q).scn = q.scn := by simp
  have hwatch (q : State) : (watchCheck q).scn.published = q.scn.published := by
    unfold watchCheck
    dsimp only
    split
    · split <;> rfl
    · split
      · rw [hoffer]
        rfl
      · rfl
  rw [scanComplete, ← hpublish]
  unfold afterScan
  split
  · rfl
  · split
    · exact hwatch _
    · rfl

/-- R32: the end of the conversion of slot 12, and what stands of SCN's publication after it. -/
theorem conversionEnd_publishes {last : Code} {c : Scan} {s : State} (hscan : s.scn.scan = some c)
    (hwait : s.scn.wait = none) (hslot : c.slot = 11) :
    ∃ t q, exec (.conversionEnd last) s = .next t ∧ q = scanComplete { c with codes := c.codes.set 11 (some last) } s ∧
      Follows q t ∧ SupPublished q t ∧ t.vsc.measured = true := by
  have hevent := completionEvent_publishes (Config.order s.choice)
    (scanComplete { c with codes := c.codes.set 11 (some last) } s).nextChoice
  obtain ⟨hfollows, ⟨u, hu, hold, hnew, hcap⟩, hmeasured⟩ := hevent
  refine ⟨_, _, congrArg Host.Outcome.next (conversionEnd_last hscan hwait hslot), rfl, ?_, ⟨u, ?_, hold, hnew, hcap⟩, hmeasured⟩
  · exact ⟨hfollows.published, hfollows.measured, hfollows.cfg, hfollows.applied⟩
  · exact ⟨hu.published, hu.measured, hu.cfg, hu.applied⟩

/-! ## The stage and the ceiling (03 R45 to R52, R62) -/

/-- R45 to R48: the stage after a completion, case by case. -/
theorem stageNext_eq (g : SupCfg) (held : Stage) (count f : Nat) : stageNext g held count f =
    if held = .cutoff then (if f < g.reserveLevel + g.hyst then .cutoff else releasedStage g f)
    else if g.cutoffConfirm ≤ count then .cutoff
    else if f < g.reserveLevel ∨ (held = .reserve ∧ f < g.reserveLevel + g.hyst) then .reserve
    else if f < g.cautionLevel ∨ (held ≠ .normal ∧ releasedStage g f = .caution) then .caution
    else .normal := by
  have hreleased : releasedStage g f = .normal ∨ releasedStage g f = .caution := by
    unfold releasedStage
    split
    · exact .inl rfl
    · exact .inr rfl
  have hescalation : escalation g f = if f < g.reserveLevel then .reserve else if f < g.cautionLevel then .caution
      else .normal := rfl
  cases held with
  | cutoff => rfl
  | normal =>
    have hworse (a : Stage) : a.worse .normal = a := if_neg (Nat.not_lt_zero _)
    simp only [stageNext, release, hworse, hescalation]
    simp
  | caution =>
    simp only [stageNext, release, hescalation]
    by_cases hreserve : f < g.reserveLevel
    · obtain hr | hr := hreleased <;> simp [hreserve, hr, Stage.worse, Stage.severity]
    · by_cases hcaution : f < g.cautionLevel <;> obtain hr | hr := hreleased <;>
        simp [hreserve, hcaution, hr, Stage.worse, Stage.severity]
  | reserve =>
    simp only [stageNext, release, hescalation]
    by_cases hhyst : f < g.reserveLevel + g.hyst
    · by_cases hreserve : f < g.reserveLevel
      · simp [hreserve, hhyst, Stage.worse, Stage.severity]
      · by_cases hcaution : f < g.cautionLevel <;> simp [hreserve, hhyst, hcaution, Stage.worse, Stage.severity]
    · have hreserve : ¬ f < g.reserveLevel := fun h => hhyst (Nat.lt_add_right _ h)
      by_cases hcaution : f < g.cautionLevel <;> obtain hr | hr := hreleased <;>
        simp [hreserve, hhyst, hcaution, hr, Stage.worse, Stage.severity]

theorem ceilingNext_eq (raw previous : Nat) : ceilingNext raw previous = min raw (previous + 2000) := by
  unfold ceilingNext
  split
  · omega
  · rfl

/-- Settles O27: SUP's record after a completion. -/
theorem completionSetsStageAndCeiling : Obligations.CompletionSetsStageAndCeiling := by
  intro last c s hscan hwait hslot
  obtain ⟨t, q, hexec, hq, hfollows, ⟨u, hu, hold, hnew, hcap⟩, -⟩ := conversionEnd_publishes (last := last) hscan hwait hslot
  have hresults : u.scn.results = t.scn.results := congrArg Prod.fst (hu.published.trans hfollows.published.symm)
  have hcfg : u.cfg = s.cfg := by rw [hu.cfg, hq, (scanComplete_frame _ s).2.2.2.2.2.2.2.2.1]
  have hsup : u.sup = s.sup := by rw [hold, hq, (scanComplete_frame _ s).2.1]
  have hassessed : t.sup.assessed = true := by rw [hnew]; rfl
  have hcount : t.sup.cutoffCount = cutoffCountNext s.cfg.sup.cutoffLevel t.scn.results.minFiltered s.sup.cutoffCount := by
    rw [hnew, ← hresults, ← hcfg, ← hsup]
    rfl
  have hstage : t.sup.stage =
      stageNext s.cfg.sup s.sup.stage t.sup.cutoffCount t.scn.results.minFiltered := by
    rw [hcount, hnew, ← hresults, ← hcfg, ← hsup]
    rfl
  have halloc : t.sup.alloc = allocate s.cfg t.sup.stage t.scn.results u.demands s.sup.alloc := by
    rw [hnew, ← hresults, ← hcfg, ← hsup]
    rfl
  have hstageCap (k : Chan) : t.sup.alloc.stageCap[k] = stageLight t.sup.stage s.cfg.ltc.chan[k].cls := by
    simp [halloc, allocate]
  refine ⟨t, hexec, hassessed, hcount, hstage.trans (stageNext_eq ..), ?_, ?_, ?_, ?_, fun k => ?_, fun k hcut => ?_⟩
  · rw [halloc]
    show stageBase _ _ = _
    cases t.sup.stage <;> rfl
  · rw [halloc]
    exact Nat.min_comm _ _
  · rw [halloc]
    rfl
  · rw [halloc]
    exact ceilingNext_eq _ _
  · rw [hstageCap]
    cases t.sup.stage <;> cases s.cfg.ltc.chan[k].cls <;> rfl
  · have hzero := hcap k
    rw [hstageCap, hcut] at hzero
    exact Nat.le_zero.mp hzero

end Sys2Proof.Machine

/-! The results of a scan (02 R28 to R38). -/

namespace Sys2Proof.Machine

/-! ## The conversions (02 R28 to R31) -/

/-- R23: the codes of a scan whose slot 12 has been converted. -/
theorem lastCode_eq (c : Scan) (last : Code) (k : Fin 12) :
    Scan.code { c with codes := c.codes.set 11 (some last) } k =
      if k = 11 then last.toNat else (c.codes[k].getD 0).toNat := by
  unfold Scan.code
  have hget : (c.codes.set 11 (some last))[k] = if k = 11 then some last else c.codes[k] :=
    getElem_set_fin c.codes 11 k (some last)
  rw [hget]
  split <;> rfl

theorem taps_get (c : Scan) (k : Fin 4) : c.taps[k] = tapVoltage (k.val + 1) (c.code ⟨k.val, by omega⟩) := by
  match k with
  | 0 => rfl
  | 1 => rfl
  | 2 => rfl
  | 3 => rfl

/-- R28: a tap is rounded to the nearest, one half up. -/
theorem tapVoltage_rounds (tap code : Nat) :
    8190 * tapVoltage tap code ≤ 2 * (code * 4400 * tap) + 4095 ∧
    2 * (code * 4400 * tap) + 4095 < 8190 * (tapVoltage tap code + 1) := by
  have hvalue : tapVoltage tap code = (2 * (code * 4400 * tap) + 4095) / 8190 := by
    rw [tapVoltage, Nat.mul_assoc code 4400 tap]
  rw [hvalue]
  exact ⟨Nat.mul_div_le _ _, Nat.lt_mul_div_succ _ (by omega)⟩

/-- R29: a raw cell. -/
theorem rawCells_get {n : Nat} (h2 : 2 ≤ n) (taps : Vector Nat 4) (k : Fin 4) : (rawCells n taps)[k] =
    if k.val < n then taps[k] - (if k.val = 0 then 0 else taps[k.val - 1]) else 0 := by
  match k with
  | 0 => simp [rawCells, show 0 < n by omega]
  | 1 => simp [rawCells, show 1 < n by omega]
  | 2 => rfl
  | 3 => rfl

/-- R37: a filtered cell. -/
theorem filterCells_get (n : Nat) (primed : Bool) (filtered raw : Vector Nat 4) (k : Fin 4) :
    (filterCells n primed filtered raw)[k] = if n ≤ k.val then 0 else if primed = false then raw[k]
      else ((filtered[k] : Int) + ((raw[k] : Int) - filtered[k]).tdiv 4).toNat := by
  have hget : (filterCells n primed filtered raw)[k] = if k.val < n then filterCell primed filtered[k] raw[k] else 0 := by
    simp [filterCells]
  rw [hget]
  by_cases hk : n ≤ k.val
  · rw [if_neg (Nat.not_lt.mpr hk), if_pos hk]
  · rw [if_pos (Nat.not_le.mp hk), if_neg hk]
    cases primed <;> rfl

/-- R29, R37: the lowest of the cells in use. -/
theorem minCell_eq {n : Nat} (h2 : 2 ≤ n) (h4 : n ≤ 4) (v : Vector Nat 4) : minCell n v =
    if n = 2 then min v[0] v[1] else if n = 3 then min (min v[0] v[1]) v[2] else min (min (min v[0] v[1]) v[2]) v[3] := by
  obtain rfl | rfl | rfl : n = 2 ∨ n = 3 ∨ n = 4 := by omega
  all_goals rfl

theorem minCell_le {n : Nat} (h2 : 2 ≤ n) (h4 : n ≤ 4) (v : Vector Nat 4) {k : Fin 4} (hk : k.val < n) :
    minCell n v ≤ v[k] := by
  have hvalue := minCell_eq h2 h4 v
  match k, hk with
  | 0, _ => show _ ≤ v[0]; split at hvalue <;> [skip; split at hvalue] <;> omega
  | 1, _ => show _ ≤ v[1]; split at hvalue <;> [skip; split at hvalue] <;> omega
  | 2, h => show _ ≤ v[2]; have : 2 < n := h; split at hvalue <;> [skip; split at hvalue] <;> omega
  | 3, h => show _ ≤ v[3]; have : 3 < n := h; split at hvalue <;> [skip; split at hvalue] <;> omega

theorem exists_minCell {n : Nat} (h2 : 2 ≤ n) (h4 : n ≤ 4) (v : Vector Nat 4) :
    ∃ k : Fin 4, k.val < n ∧ minCell n v = v[k] := by
  have hvalue := minCell_eq h2 h4 v
  have hlowest : (minCell n v = v[0]) ∨ (minCell n v = v[1]) ∨ (2 < n ∧ minCell n v = v[2]) ∨ (3 < n ∧ minCell n v = v[3]) := by
    split at hvalue <;> [skip; split at hvalue] <;> omega
  obtain h | h | ⟨hn, h⟩ | ⟨hn, h⟩ := hlowest
  · exact ⟨0, Nat.lt_of_lt_of_le (by decide) h2, h⟩
  · exact ⟨1, Nat.lt_of_lt_of_le (by decide) h2, h⟩
  · exact ⟨2, hn, h⟩
  · exact ⟨3, hn, h⟩

/-- R36: the first sensor that is hottest. -/
theorem hottestSensor_first (t : PerSensor Int) : t.get (hottestSensor t) = hottestOf t ∧
    ∀ y : Sensor, y.code < (hottestSensor t).code → t.get y ≠ hottestOf t := by
  have hone : t.board = hottestOf t ∨ t.front = hottestOf t ∨ t.rear = hottestOf t ∨ t.winch = hottestOf t := by
    unfold hottestOf
    omega
  unfold hottestSensor
  split
  · rename_i h
    exact ⟨h, fun y hy => absurd hy (Nat.not_lt_zero _)⟩
  · rename_i hboard
    split
    · rename_i h
      refine ⟨h, fun y hy => ?_⟩
      cases y with
      | board => exact hboard
      | _ => exact absurd hy (by decide)
    · rename_i hfront
      split
      · rename_i h
        refine ⟨h, fun y hy => ?_⟩
        cases y with
        | board => exact hboard
        | front => exact hfront
        | _ => exact absurd hy (by decide)
      · rename_i hrear
        refine ⟨(hone.resolve_left hboard).resolve_left hfront |>.resolve_left hrear, fun y hy => ?_⟩
        cases y with
        | board => exact hboard
        | front => exact hfront
        | rear => exact hrear
        | winch => exact absurd hy (by decide)

/-! ## SCN's own part (02 R32, R36) -/

/-- R36: the watch window check on results that have just been published. -/
theorem watchCheck_outside (s : State) : (watchCheck s).scn = { s.scn with excursion := watchLow s || watchHot s } ∧
    (s.scn.excursion = true ∨ (watchLow s || watchHot s) = false → SameNotices (watchCheck s) s) ∧
    (s.scn.excursion = false → (watchLow s || watchHot s) = true → SameNotices (watchCheck s)
      (offer (.watch s.scn.results.minFiltered s.scn.results.hottest (hottestSensor s.scn.results.temp) (watchLow s)
        (watchHot s)) s)) := by
  have hstands {e : Bool} (h : s.scn.excursion = e) : s.scn = { s.scn with excursion := e } := by rw [← h]
  have hscn (e : Bool) : SameNotices (s.modScn fun n => { n with excursion := e }) s := ⟨rfl, fun _ => rfl⟩
  unfold watchCheck
  dsimp only
  cases hexcursion : s.scn.excursion with
  | true =>
    cases houtside : watchLow s || watchHot s with
    | true =>
      exact ⟨hstands hexcursion, fun _ => .refl s, nofun⟩
    | false => exact ⟨rfl, fun _ => hscn false, nofun⟩
  | false =>
    cases houtside : watchLow s || watchHot s with
    | true =>
      refine ⟨by simp, fun h => ?_, fun _ _ => (hscn true).offer _⟩
      obtain h | h := h <;> contradiction
    | false => exact ⟨hstands hexcursion, fun _ => .refl s, fun _ h => nomatch h⟩

/-- Settles O25: what a completion publishes, and SCN's own part of it. -/
theorem completionPublishesResults : Obligations.CompletionPublishesResults := by
  intro last c s hscan hwait hslot h2 h4 code n
  obtain ⟨t, q, hexec, hq, hfollows, -, hmeasured⟩ := conversionEnd_publishes (last := last) hscan hwait hslot
  have hpublished := scanComplete_published { c with codes := c.codes.set 11 (some last) } s
  rw [← hq] at hpublished
  have hpublic := hfollows.published.trans hpublished
  have hresults : t.scn.results = resultsOf s.cfg s.scn { c with codes := c.codes.set 11 (some last) } :=
    congrArg Prod.fst hpublic
  have hcode (k : Fin 12) : Scan.code { c with codes := c.codes.set 11 (some last) } k = code k := lastCode_eq c last k
  have htap (k : Fin 4) : t.scn.results.taps[k] = tapVoltage (k.val + 1) (code ⟨k.val, by omega⟩) := by
    rw [hresults, ← hcode]
    exact taps_get _ k
  obtain ⟨hlmx, hlnk, hcfg, hpending, hstore⟩ := conversionEnd_frame last s
  obtain rfl : conversionEnd last s = t := Host.Outcome.next.inj hexec
  refine ⟨conversionEnd last s, rfl, ?_⟩
  have hraw (k : Fin 4) : (conversionEnd last s).scn.results.raw[k] =
      (rawCells n (conversionEnd last s).scn.results.taps)[k] := by
    rw [hresults]
    rfl
  have hfiltered (k : Fin 4) : (conversionEnd last s).scn.results.filtered[k] =
      (filterCells n s.scn.primed s.scn.filtered (conversionEnd last s).scn.results.raw)[k] := by
    rw [hresults]
    rfl
  have hminRaw : (conversionEnd last s).scn.results.minRaw = minCell n (conversionEnd last s).scn.results.raw := by
    rw [hresults]
    rfl
  have hminFiltered : (conversionEnd last s).scn.results.minFiltered =
      minCell n (conversionEnd last s).scn.results.filtered := by
    rw [hresults]
    rfl
  refine ⟨congrArg ScanResults.kind hresults, fun k => ?_, fun k => (hraw k).trans (rawCells_get h2 _ k),
    fun k => (hfiltered k).trans (filterCells_get ..), fun k hk => ⟨hminRaw ▸ minCell_le h2 h4 _ hk,
      hminFiltered ▸ minCell_le h2 h4 _ hk⟩, hminRaw ▸ exists_minCell h2 h4 _, hminFiltered ▸ exists_minCell h2 h4 _,
    fun hkind => ?_, fun hkind => ?_, ?_, ?_, congrArg (·.2.1) hpublic, ?_, congrArg (·.2.2.2) hpublic, hmeasured, hlnk,
    hstore, hcfg, hlmx, hpending, ?_⟩
  · rw [htap]
    exact tapVoltage_rounds (k.val + 1) _
  · have hpack : Scan.pack { c with codes := c.codes.set 11 (some last) } = code 4 * 80000 / 4095 := by
      rw [← hcode]
      simp only [Scan.pack, hkind]
      rfl
    have hbridges : Scan.bridges { c with codes := c.codes.set 11 (some last) } =
        ⟨code 5 * 40000 / 4095, code 6 * 40000 / 4095, code 7 * 40000 / 4095⟩ := by
      rw [← hcode, ← hcode, ← hcode]
      simp only [Scan.bridges, hkind]
      rfl
    rw [hresults]
    refine ⟨hpack, hbridges, ?_⟩
    show countAfter _ _ _ = _
    simp only [countAfter, hkind]
    rfl
  · have hpack : Scan.pack { c with codes := c.codes.set 11 (some last) } = 0 := by
      simp only [Scan.pack, hkind]
    have hbridges : Scan.bridges { c with codes := c.codes.set 11 (some last) } = ⟨0, 0, 0⟩ := by
      simp only [Scan.bridges, hkind]
      rfl
    rw [hresults]
    refine ⟨hpack, hbridges, ?_⟩
    show countAfter _ _ _ = _
    simp only [countAfter, hkind]
  · rw [hresults]
    show Scan.temps _ = _
    simp only [Scan.temps, temperature, hcode]
  · rw [hresults]
    rfl
  · rw [hresults]
    exact congrArg (·.2.2.1) hpublic
  · have hscn : q.scn.results = (conversionEnd last s).scn.results := (congrArg Prod.fst hpublished).trans hresults.symm
    have hsame : SameNotices (publishScan { c with codes := c.codes.set 11 (some last) } s) s := ⟨rfl, fun _ => rfl⟩
    rw [← hq, ← hscn]
    have hafter : q = afterScan c.kind (publishScan { c with codes := c.codes.set 11 (some last) } s) := hq
    generalize hp : publishScan { c with codes := c.codes.set 11 (some last) } s = p at hafter hsame
    have hmodes : p.scn.mode = s.scn.mode := by rw [← hp]; rfl
    have hidle : p.scn.wait = none ∧ p.scn.scan = none ∧ p.scn.excursion = s.scn.excursion ∧ p.cfg = s.cfg := by
      rw [← hp]
      exact ⟨rfl, rfl, rfl, rfl⟩
    obtain ⟨hnowait, hnoscan, hexcursion, hkept⟩ := hidle
    obtain ⟨hchecked, hquiet, hnotice⟩ := watchCheck_outside p
    refine ⟨rfl, ?_, fun hmode => ?_, fun hmode => ?_, fun hmode hkind => ?_⟩
    · rw [hafter]
      unfold afterScan
      split
      · rfl
      · split
        · rw [hchecked, hnowait]
        · exact hnowait
    · have hnext : q = startScan p := by simp only [hafter, afterScan, hmodes, hmode]
      rw [hnext]
      refine ⟨?_, hexcursion, hsame⟩
      show some (Scan.begin p.scn.mode) = _
      rw [hmodes, hmode]
      rfl
    · rw [hafter]
      unfold afterScan
      rw [hmodes, hmode]
      dsimp only
      split
      · rw [hchecked, hnoscan]
      · exact hnoscan
    · have hnext : q = watchCheck p := by simp only [hafter, afterScan, hmodes, hmode, hkind]
      have hresults : q.scn.results = p.scn.results := by rw [hnext, hchecked]
      have hlow : watchLow p = decide (q.scn.results.minFiltered < s.cfg.scn.watchLow) := by
        rw [watchLow, hresults, hkept]
      have hhot : watchHot p = decide ((s.cfg.scn.watchTemp : Int) < q.scn.results.hottest) := by
        rw [watchHot, hresults, hkept]
      have hhottest : q.scn.results.hottest = hottestOf q.scn.results.temp := by
        rw [hresults, ← hp]
        rfl
      have hsensor := hottestSensor_first q.scn.results.temp
      rw [← hhottest] at hsensor
      rw [← hlow, ← hhot]
      refine ⟨by rw [hnext, hchecked], fun h => ?_, fun hclear hout => ⟨_, hsensor.1, hsensor.2, ?_⟩⟩
      · rw [← hexcursion] at h
        rw [hnext]
        exact (hquiet h).trans hsame
      · have hoffered := hnotice (hexcursion.trans hclear) hout
        rw [← hresults, ← hnext] at hoffered
        exact hoffered.trans (hsame.offer _)

end Sys2Proof.Machine

/-! A SET that passes its checks (10 R178, with the rules of the settings' owners). -/

namespace Sys2Proof.Machine

/-! ## Storing a value -/

/-- R178, checks 2 to 5: the value that passes. -/
theorem setCheck_passes {s : State} {k : Key} {v : Nat} (hop : k.parkedOnly = true → s.vsc.op = .parked)
    (hnamed : k.named = true → v ≤ k.high) (horder : levelsOrdered s.cfg.sup k (clampNat k.low k.high v)) :
    setCheck s k v = .ok (clampNat k.low k.high v) := by
  rw [setCheck, if_neg fun h => h.2 (hop h.1), if_neg fun h => Nat.not_lt_of_le (hnamed h.1) h.2,
    if_pos ((levelOrder_iff _ _ _).mpr horder)]

theorem AxleCfg.put_value (c : AxleCfg) (a : AxleId) : c.put a (c.value a) = c := by
  cases a with
  | reverse =>
    obtain ⟨centre, left, right, reverse⟩ := c
    cases reverse <;> rfl
  | _ => rfl

theorem ChanCfg.put_value (c : ChanCfg) (k : ChanId) : c.put k (c.value k) = c := by
  obtain ⟨rated, cls, overlay, level⟩ := c
  cases k with
  | cls => cases cls <;> rfl
  | overlay => cases overlay <;> rfl
  | _ => rfl

/-- R178: storing the value held changes nothing. -/
theorem Settings.put_value (c : Settings) (k : Key) : c.put k (c.value k) = c := by
  cases k with
  | plain p => cases p <;> rfl
  | axle a x =>
    rw [Settings.put, Settings.value, AxleCfg.put_value]
    cases x <;> rfl
  | chan k i =>
    rw [Settings.put, Settings.value, ChanCfg.put_value]
    simp

/-- R178: the value already held starts no action. -/
theorem storeSetting_held {k : Key} {v : Nat} {s : State} (h : s.cfg.value k = v) : storeSetting k v s = s := if_pos h

/-- R178: a changed value is stored and acts. -/
theorem storeSetting_changed {k : Key} {v : Nat} {s : State} (h : s.cfg.value k ≠ v) :
    storeSetting k v s = settingChanged k (s.modCfg fun c => c.put k v) := if_neg h

/-- R178: a setting that takes no action at the SET. -/
theorem settingChanged_still {k : Key} (h : k.actsAtSet = false) (s : State) : settingChanged k s = s := by
  cases k with
  | plain p =>
    cases p with
    | cellCount | centreBand | relaxTime | lineMax | turnThreshold | slowThreshold => contradiction
    | _ => rfl
  | axle a x =>
    cases a with
    | reverse => rfl
    | _ => contradiction
  | chan k c =>
    cases k with
    | cls => rfl
    | _ => contradiction

theorem storeSetting_still {k : Key} (h : k.actsAtSet = false) (v : Nat) (s : State) :
    storeSetting k v s = s.modCfg fun c => c.put k v := by
  by_cases hv : s.cfg.value k = v
  · rw [storeSetting_held hv, ← hv, State.modCfg, Settings.put_value]
  · rw [storeSetting_changed hv, settingChanged_still h]

/-! ## The owners' actions -/

/-- R89: the pulses of one axle brought into its window. -/
theorem settingChanged_window {k : Key} {x : Axle}
    (h : k = .axle .centre x ∨ k = .axle .travelLeft x ∨ k = .axle .travelRight x) (s : State) :
    settingChanged k s = clampWindow x s := by
  obtain rfl | rfl | rfl := h <;> rfl

/-- R145: the level of one channel formed anew. -/
theorem settingChanged_level {k : Key} {c : Chan} (h : k = .chan .rated c ∨ k = .chan .overlayLevel c) (s : State) :
    settingChanged k s = formDesired c s := by
  obtain rfl | rfl := h <;> rfl

theorem settingChanged_threshold {k : Key} (h : k = .plain .turnThreshold ∨ k = .plain .slowThreshold) (s : State) :
    settingChanged k s = overlayTests s := by
  obtain rfl | rfl := h <;> rfl

/-- R155: a channel whose level is formed anew. -/
theorem formDesired_chan (c : Chan) (s : State) :
    LevelFormed s.cfg.ltc.chan[c] s.ltc.hazard ((formDesired c s).chan c) ∧
    { (formDesired c s).chan c with desired := 0, demand := 0 } = { s.chan c with desired := 0, demand := 0 } ∧
    ∀ d, d ≠ c → (formDesired c s).chan d = s.chan d := by
  have hc : (formDesired c s).chan c = formLevel s.cfg.ltc.chan[c] s.ltc.hazard (s.chan c) := by
    rw [chan_formDesired, if_pos rfl]
  refine ⟨hc ▸ levelFormed_formLevel _ _ _, by rw [hc]; rfl, fun d hd => ?_⟩
  rw [chan_formDesired, if_neg hd]

/-- R152: the test of one channel's overlay is that channel's test among those of all. -/
theorem overlayTested_overlayTest (s : State) (c : Chan) : OverlayTested (overlayTest c s) c (s.chan c) := by
  refine (overlayTested_overlayTests s c).congr rfl rfl Iff.rfl ?_
  rw [overlayTest, State.chan_modChan_self, chan_overlayTests]

theorem overlayTest_others {c d : Chan} (h : d ≠ c) (s : State) : (overlayTest c s).chan d = s.chan d :=
  State.chan_modChan_ne _ _ h

/-! ### The relax test (05 R96, R98) -/

theorem relaxCondition_iff_applied (s : State) : relaxCondition s = true ↔
    s.vsc.op = .armed ∧ s.cfg.stc.relaxTime ≠ 0 ∧ s.stc.out = .pulsing ∧ s.stc.steer.natAbs ≤ s.cfg.stc.centreBand ∧
      s.trc.applied = ⟨0, 0⟩ := by
  rw [relaxCondition_iff, PerAxle.eq_mk_iff]

/-- R98: a SET of RELAX_TIME to 0 wakes relaxed outputs in ARMED. -/
def WakesAtSet (k : Key) (v : Nat) (s : State) : Prop :=
  k = .plain .relaxTime ∧ v = 0 ∧ s.stc.out = .relaxed ∧ s.vsc.op = .armed

/-- R99: a wake with RELAX_TIME 0, which starts no timer. -/
theorem wake_still {s : State} (h : s.cfg.stc.relaxTime = 0) : wake s = s.modStc fun t =>
    { t with out := .pulsing, target := targetPulses s, output := targetPulses s, relax := none } := by
  have hfalse : relaxCondition (s.modStc fun t =>
      { t with out := .pulsing, target := targetPulses s, output := targetPulses s }) = false :=
    Bool.eq_false_iff.mpr fun hc => ((relaxCondition_iff _).mp hc).2.1 h
  rw [wake, relaxTest, hfalse]
  rfl

/-- R98: the wake at a SET. -/
theorem storeSetting_wakes {k : Key} {v : Nat} {s : State} (hv : s.cfg.value k ≠ v) (h : WakesAtSet k v s) :
    storeSetting k v s = (s.modCfg fun c => c.put k v).modStc fun t =>
      { t with
        out := .pulsing, relax := none
        target := steerPulses s.cfg.stc t.mode t.steer s.trc.applied.front
        output := steerPulses s.cfg.stc t.mode t.steer s.trc.applied.front } := by
  obtain ⟨rfl, rfl, hout, hop⟩ := h
  have hpulses : targetPulses (s.modCfg fun c => c.put (.plain .relaxTime) 0) =
      steerPulses s.cfg.stc s.stc.mode s.stc.steer s.trc.applied.front := targetPulses_eq _
  have hwake : settingChanged (.plain .relaxTime) (s.modCfg fun c => c.put (.plain .relaxTime) 0) =
      wake (s.modCfg fun c => c.put (.plain .relaxTime) 0) := if_pos ⟨hout, hop, rfl⟩
  rw [storeSetting_changed hv, hwake, wake_still rfl, hpulses]
  rfl

/-- R96: without a wake, CENTRE_BAND and RELAX_TIME make the relax test. -/
theorem storeSetting_relaxTests {k : Key} {v : Nat} {s : State} (hk : k = .plain .centreBand ∨ k = .plain .relaxTime)
    (hv : s.cfg.value k ≠ v) (h : ¬ WakesAtSet k v s) :
    storeSetting k v s = relaxTest (s.modCfg fun c => c.put k v) := by
  rw [storeSetting_changed hv]
  obtain rfl | rfl := hk
  · rfl
  · exact if_neg fun hwake => h ⟨rfl, hwake.2.2, hwake.1, hwake.2.1⟩

/-! ## SET (10 R178) -/

/-- Settles O14: the value that passes is stored, and its owner acts where it has changed. -/
theorem setStoresAndActs : Obligations.SetStoresAndActs := by
  intro tag setting index low high k s hfree p v fields hk hop hnamed horder
  let q := s.modLnk (lnkOf ⟨0x05, tag, p⟩)
  have hbound : v ≤ k.high := (k.clamp_mem _).2
  have hfields : setFields setting k.index v = fields := by rw [setFields, u8_toNat]
  have hdoes : onSet q p = (storeSetting k v q, doneWith .none fields) := by
    rw [← hfields]
    exact onSet_done hk (setCheck_passes (s := q) hop hnamed horder)
  have hcfg (j : Key) : (storeSetting k v q).cfg.value j = if j = k then v else s.cfg.value j := by
    rw [storeSetting_cfg]
    split
    · next hheld =>
      split
      · next hj => rw [hj]; exact hheld
      · rfl
    · exact q.cfg.value_put k j hbound
  refine ⟨_, congrArg Host.Outcome.next (frameArrives_replied .set tag p s hfree hdoes), answeredBy_replied .., ?_⟩
  generalize hS : storeSetting k v q = S at hcfg
  have hframe : S.vsc = q.vsc ∧ S.sup = q.sup ∧ S.trc = q.trc ∧ S.pgc = q.pgc ∧ S.lmx = q.lmx ∧ S.nq = q.nq ∧
      S.lnk = q.lnk ∧ S.choice = q.choice ∧ S.pending = q.pending := hS ▸ storeSetting_frame k v q
  obtain ⟨hvsc, hsup, htrc, hpgc, hlmx, hnq, -, -, hpending⟩ := hframe
  refine ⟨(hcfg k).trans (if_pos rfl), fun j hj => (hcfg j).trans (if_neg hj), fun hheld => ?_, fun hstill => ?_,
    hvsc, hsup, htrc, hpgc, hlmx, hnq, hpending, fun hne => ?_⟩
  · rw [← hS, storeSetting_held (s := q) hheld]
    rfl
  · rw [← hS, storeSetting_still hstill]
    rfl
  · have hact : S = settingChanged k (q.modCfg fun c => c.put k v) := hS.symm.trans (storeSetting_changed (s := q) hne)
    refine ⟨fun hkey => ?_, fun hkey => ?_, fun x hkey => ?_, fun c hkey => ?_, fun c hkey => ?_, fun hkey => ?_,
      fun hkey => ?_⟩
    · rw [hact, hkey]
      rfl
    · rw [hact, hkey]
      rfl
    · rw [hact, settingChanged_window hkey]
      rfl
    · rw [hact, settingChanged_level hkey]
      obtain ⟨hformed, hkept, hothers⟩ := formDesired_chan c (q.modCfg fun c => c.put k v)
      exact ⟨hformed, hkept, hothers, rfl, rfl⟩
    · subst hkey
      rw [hact]
      exact ⟨(overlayTested_overlayTest _ c).linked _, fun d hd => overlayTest_others hd _, rfl, rfl⟩
    · rw [hact, settingChanged_threshold hkey]
      exact ⟨fun c => (overlayTested_overlayTests _ c).linked _, rfl, rfl⟩
    · have hput : S.cfg = q.cfg.put k v := by rw [← hS, storeSetting_cfg, if_neg (show q.cfg.value k ≠ v from hne)]
      have hcondition : relaxCondition (q.modCfg fun c => c.put k v) = true ↔
          s.vsc.op = .armed ∧ S.cfg.stc.relaxTime ≠ 0 ∧ s.stc.out = .pulsing ∧
            s.stc.steer.natAbs ≤ S.cfg.stc.centreBand ∧ s.trc.applied = ⟨0, 0⟩ := by
        rw [hput]
        exact relaxCondition_iff_applied _
      refine ⟨fun hwakes => ?_, fun hwakes hholds => ?_, fun hwakes hholds => ?_⟩
      · rw [← hS, storeSetting_wakes (s := q) hne hwakes]
        rfl
      · rw [← hS, storeSetting_relaxTests (s := q) hkey hne hwakes, relaxTest, if_pos (hcondition.mpr hholds)]
        rfl
      · rw [← hS, storeSetting_relaxTests (s := q) hkey hne hwakes, relaxTest, if_neg fun h => hholds (hcondition.mp h)]
        rfl

end Sys2Proof.Machine

/-! A light frame on one channel and its unit (08 R146, R149, R150, 06 R118, R119), whatever the other blocks do. -/

namespace Sys2Proof.Machine

/-! ## The ending status of a unit (09 R160, R161) -/

/-- R121: the list holds no ending status of the unit but `o`, and `o` stands in the list or in the unit's context. -/
def OnlyEnding (u : UnitNo) (o : Option EndingStatus) (q : State) : Prop :=
  (∀ e, .unitEnded e ∈ q.nq → e.unit = u → o = some e) ∧
    ∀ e, o = some e → e.unit = u ∧ (.unitEnded e ∈ q.nq ∨ (q.unit u).stacked = some e)

theorem onlyEnding_none {u : UnitNo} {q : State} (h : endings u q.nq = 0) : OnlyEnding u none q := by
  refine ⟨fun e he hu => ?_, nofun⟩
  have hno := List.countP_eq_zero.mp h _ he
  exact absurd (decide_eq_true hu) hno

theorem OnlyEnding.same {u : UnitNo} {o : Option EndingStatus} {q t : State} (h : OnlyEnding u o q)
    (hsame : SameNotices t q) : OnlyEnding u o t := by
  unfold OnlyEnding
  rw [hsame.1, hsame.2 u]
  exact h

/-- R160: an update in place leaves the ending statuses. -/
theorem unitEnded_mem_update {o : Offer} {q q' : List Notice} (h : updateInPlace o q = some q') (e : EndingStatus) :
    .unitEnded e ∈ q' ↔ .unitEnded e ∈ q := by
  obtain ⟨before, n, n', after, rfl, rfl, hn, -⟩ := updateInPlace_some h
  have hnot (m : Notice) (hm : m.kind = o.fresh.kind) : Notice.unitEnded e ≠ m := fun heq => by
    have hsome := o.fresh_kind_isSome
    rw [← hm, ← heq] at hsome
    contradiction
  obtain ⟨hkind, hkind'⟩ := Offer.update_some hn
  simp only [List.mem_append, List.mem_cons, hnot n hkind, hnot n' (hkind'.trans hkind), false_or]

/-- R160: the entry that an offer appends is no ending status. -/
theorem unitEnded_mem_fresh {o : Offer} {q : List Notice} {e : EndingStatus} :
    .unitEnded e ∈ q ++ [o.fresh] ↔ .unitEnded e ∈ q := by
  have hnot : Notice.unitEnded e ≠ o.fresh := by cases o <;> nofun
  simp only [List.mem_append, List.mem_singleton, hnot, or_false]

/-- R160: an offer keeps a unit's ending status, which it may move to the unit's context. -/
theorem OnlyEnding.offer {u : UnitNo} {x : Option EndingStatus} {q : State} (h : OnlyEnding u x q) (o : Offer) :
    OnlyEnding u x (offer o q) := by
  obtain ⟨honly, hstands⟩ := h
  obtain ⟨l, hl, ho⟩ | ⟨-, -, ho⟩ | ⟨d, l, -, -, hl, ho⟩ | ⟨-, -, -, ho⟩ := offer_cases o q <;> rw [ho]
  · exact ⟨fun e he => honly e ((unitEnded_mem_update hl e).mp he),
      fun e he => (hstands e he).imp_right (Or.imp_left (unitEnded_mem_update hl e).mpr)⟩
  · exact ⟨fun e he => honly e (unitEnded_mem_fresh.mp he), fun e he => (hstands e he).imp_right (Or.imp_left unitEnded_mem_fresh.mpr)⟩
  · obtain ⟨before, after, hq, rfl, -⟩ := displaceEnded_some hl
    have hmem (e : EndingStatus) : .unitEnded e ∈ q.nq ↔ e = d ∨ .unitEnded e ∈ before ++ after := by
      rw [hq]
      simp only [List.mem_append, List.mem_cons, Notice.unitEnded.injEq]
      exact or_left_comm
    refine ⟨fun e he => honly e ((hmem e).mpr (.inr (unitEnded_mem_fresh.mp he))), fun e he => ?_⟩
    rw [State.modNq_nq, State.unit_modNq, unitEnded_mem_fresh, State.unit_modUnit]
    obtain ⟨hunit, hplace⟩ := hstands e he
    refine ⟨hunit, ?_⟩
    split
    · next hu =>
      have hd : x = some d := honly d ((hmem d).mpr (.inl rfl)) hu.symm
      exact .inr (hd.symm.trans he)
    · next hu =>
      refine hplace.imp_left fun hin => ((hmem e).mp hin).resolve_left fun hd => hu ?_
      rw [← hunit, hd]
  · exact ⟨honly, hstands⟩

/-- R161: an ending status of another unit. -/
theorem OnlyEnding.offerEnding_ne {u : UnitNo} {x : Option EndingStatus} {q : State} (h : OnlyEnding u x q)
    {e : EndingStatus} (he : e.unit ≠ u) : OnlyEnding u x (offerEnding e q) := by
  obtain ⟨honly, hstands⟩ := h
  obtain ⟨-, ho⟩ | ⟨-, ho⟩ := offerEnding_cases e q <;> rw [ho]
  · refine ⟨fun d hd hu => honly d ?_ hu, fun d hd => (hstands d hd).imp_right (Or.imp_left fun hin => ?_)⟩
    · obtain hin | heq := List.mem_append.mp hd
      · exact hin
      · rw [List.mem_singleton, Notice.unitEnded.injEq] at heq
        exact absurd (heq ▸ hu) he
    · exact List.mem_append_left _ hin
  · refine ⟨honly, fun d hd => ?_⟩
    rw [State.unit_modUnit_ne _ _ he.symm]
    exact hstands d hd

/-- R161: the unit's own ending status, where it has none in the list. -/
theorem OnlyEnding.offerEnding {u : UnitNo} {q : State} (h : OnlyEnding u none q) {e : EndingStatus} (he : e.unit = u) :
    OnlyEnding u (some e) (offerEnding e q) := by
  have hnone (d : EndingStatus) (hd : .unitEnded d ∈ q.nq) (hu : d.unit = u) : False := nomatch h.1 d hd hu
  obtain ⟨-, ho⟩ | ⟨-, ho⟩ := offerEnding_cases e q <;> rw [ho]
  · refine ⟨fun d hd hu => ?_, fun d hd => ?_⟩
    · obtain hin | heq := List.mem_append.mp hd
      · exact (hnone d hin hu).elim
      · rw [List.mem_singleton, Notice.unitEnded.injEq] at heq
        rw [heq]
    · cases hd
      exact ⟨he, .inl (List.mem_append_right _ List.mem_cons_self)⟩
  · refine ⟨fun d hd hu => (hnone d hd hu).elim, fun d hd => ?_⟩
    cases hd
    rw [← he, State.unit_modUnit_self]
    exact ⟨rfl, .inr rfl⟩

/-! ## What shows of a channel -/

/-- What the rules of a light frame read and change of one channel: the hazard phase, the channel's record, the context
of its unit, and the ending status that the frame has offered for it. -/
structure LightView where
  hazard : Option Nat
  ch : Channel
  unit : UnitCtx
  ended : Option EndingStatus

/-- The state `q`, reached from `s` in a light frame, shows the view `v` of the channel. A status may at any time move
to the unit's context (R160). -/
structure Shows (s : State) (c : Chan) (v : LightView) (q : State) : Prop where
  cfg : q.cfg = s.cfg
  sup : q.sup = s.sup
  store : q.pgc.store = s.pgc.store
  hazard : q.ltc.hazard = v.hazard
  chan : q.chan c = v.ch
  unit : { q.unit (unitOf c) with stacked := none } = { v.unit with stacked := none }
  ending : endings (unitOf c) s.nq = 0 → OnlyEnding (unitOf c) v.ended q

section
variable {s q : State} {c : Chan} {v : LightView}

theorem Shows.modChan_ne (h : Shows s c v q) {d : Chan} (hd : c ≠ d) (f : Channel → Channel) :
    Shows s c v (q.modChan d f) :=
  { h with
    chan := (State.chan_modChan_ne _ _ hd).trans h.chan
    ending := h.ending }

theorem Shows.modChan (h : Shows s c v q) (f : Channel → Channel) :
    Shows s c { v with ch := f v.ch } (q.modChan c f) :=
  { h with
    chan := by rw [State.chan_modChan_self, h.chan]
    ending := h.ending }

theorem Shows.modUnit_ne (h : Shows s c v q) {d : Chan} (hd : c ≠ d) (f : UnitCtx → UnitCtx)
    (hstacked : ∀ x, (f x).stacked = x.stacked) : Shows s c v (q.modUnit (unitOf d) f) :=
  { h with
    unit := by
      rw [State.unit_modUnit_ne _ _ fun hu => hd (unitOf_inj hu)]
      exact h.unit
    ending := fun he => (h.ending he).same (.modUnit q _ hstacked) }

/-- A change of the unit's context that passes its stacked status by. -/
theorem Shows.modUnit (h : Shows s c v q) (f : UnitCtx → UnitCtx) (hstacked : ∀ x, (f x).stacked = x.stacked)
    (hf : ∀ x, { f x with stacked := none } = f { x with stacked := none }) :
    Shows s c { v with unit := f v.unit } (q.modUnit (unitOf c) f) :=
  { h with
    unit := by rw [State.unit_modUnit_self, hf, h.unit, ← hf]
    ending := fun he => (h.ending he).same (.modUnit q _ hstacked) }

theorem Shows.endLight_ne (h : Shows s c v q) {d : Chan} (hd : c ≠ d) (cause : EndCause) (residual : Nat) :
    Shows s c v (endLightWith d cause residual q) := by
  obtain ⟨-, -, hsup, -, -, -, -, -, hcfg, -, -, hstore⟩ := endLightWith_frame d cause residual q
  refine ⟨hcfg.trans h.cfg, hsup.trans h.sup, hstore.trans h.store, (endLightWith_hazard ..).trans h.hazard, ?_, ?_,
    fun he => ?_⟩
  · rw [endLightWith_chan, if_neg hd, h.chan]
  · rw [endLightWith_unit_ne _ _ _ _ fun hu => hd (unitOf_inj hu), h.unit]
  · exact ((h.ending he).offerEnding_ne fun hu => hd (unitOf_inj hu.symm)).same (sameNotices_endLightWith ..)

/-- R119: the status of a unit whose program has completed, from its context. -/
def completedStatus (s : State) (c : Chan) (x : UnitCtx) (level : Nat) : EndingStatus :=
  { unit := unitOf c, cause := .complete, lastSlot := x.current, residual := 0, loops := loopsRemaining s x
    finalPos := level, tag := x.tag }

/-- R119: the same as the ending of a state in which the unit has that context. -/
theorem endingOf_complete {t : State} {x : UnitCtx} (hstore : t.pgc.store = s.pgc.store)
    (hunit : { t.unit (unitOf c) with stacked := none } = { x with stacked := none }) (level : Nat) :
    endingOf t (unitOf c) .complete 0 level = completedStatus s c x level := by
  have hcurrent : (t.unit (unitOf c)).current = x.current := (congrArg UnitCtx.current hunit :)
  have htag : (t.unit (unitOf c)).tag = x.tag := (congrArg UnitCtx.tag hunit :)
  have hloop : (t.unit (unitOf c)).loop = x.loop := (congrArg UnitCtx.loop hunit :)
  have hwalked : (t.unit (unitOf c)).walked = x.walked := (congrArg UnitCtx.walked hunit :)
  unfold endingOf completedStatus loopsRemaining
  rw [hcurrent, htag, hloop, hwalked, hstore]

/-- R118, R151: the program has ended with its counter at `loop`. -/
def LightView.endsAt (s : State) (c : Chan) (loop : LoopCounter) (v : LightView) : LightView :=
  { v with
    ch := endedChannel s.cfg.ltc.chan[c] v.hazard v.ch
    unit := { v.unit with loop := loop, state := .idle, haltCause := none }
    ended := some (completedStatus s c { v.unit with loop := loop } v.ch.program) }

theorem Shows.endLight (h : Shows s c v q) (hnone : v.ended = none) : Shows s c { v with
    ch := endedChannel s.cfg.ltc.chan[c] v.hazard v.ch
    unit := { v.unit with state := .idle, haltCause := none }
    ended := some (completedStatus s c v.unit v.ch.program) } (endLightWith c .complete 0 q) := by
  obtain ⟨-, -, hsup, -, -, -, -, -, hcfg, -, -, hstore⟩ := endLightWith_frame c .complete 0 q
  refine ⟨hcfg.trans h.cfg, hsup.trans h.sup, hstore.trans h.store, (endLightWith_hazard ..).trans h.hazard, ?_, ?_,
    fun he => ?_⟩
  · rw [endLightWith_chan, if_pos rfl, h.cfg, h.hazard, h.chan]
  · rw [endLightWith_context, if_pos rfl]
    exact congrArg (fun x : UnitCtx => { x with state := .idle, haltCause := none }) h.unit
  · refine OnlyEnding.same ?_ (sameNotices_endLightWith ..)
    rw [endingOf_complete h.store h.unit, h.chan]
    exact (hnone ▸ h.ending he).offerEnding rfl

theorem Shows.endsAt (h : Shows s c v q) (hnone : v.ended = none) (loop : LoopCounter) : Shows s c (v.endsAt s c loop)
    (endLightUnit c .complete (q.modUnit (unitOf c) fun y => { y with loop := loop })) :=
  (h.modUnit (fun y => { y with loop := loop }) (fun _ => rfl) fun _ => rfl).endLight hnone

/-! ### The step in hand -/

/-- R149: the record of a channel that is handed a step. -/
def beganChannel (slot : Slot) (r : LightRec) (ch : Channel) : Channel :=
  { ch with step := some ⟨slot, r⟩, fadeStart := ch.program, frames := 0,
            program := if r.fade = 0 then r.level else ch.program }

/-- R118, R149: the program has gone on to a slot with its counter at `loop`. -/
def LightView.goesTo (s : State) (slot : Slot) (loop : LoopCounter) (v : LightView) : LightView :=
  { v with
    ch := match s.pgc.store[slot] with
      | .light r => beganChannel slot r v.ch
      | _ => v.ch
    unit := { v.unit with current := slot, loop := loop, progress := 0 } }

theorem Shows.goesTo (h : Shows s c v q) (slot : Slot) (loop : LoopCounter) :
    Shows s c (v.goesTo s slot loop) (handLight c slot (passTo (unitOf c) slot loop q)) := by
  have hpassed := h.modUnit (fun x => { x with current := slot, loop := loop, progress := 0 }) (fun _ => rfl)
    fun _ => rfl
  have hstore : (passTo (unitOf c) slot loop q).pgc.store = s.pgc.store := hpassed.store
  unfold LightView.goesTo handLight
  rw [hstore]
  cases s.pgc.store[slot] with
  | light r => exact hpassed.modChan (beganChannel slot r)
  | empty => exact hpassed
  | winch r => exact hpassed

/-- R150, R120: a step has run one frame more. -/
def LightView.counts (h : InHand LightRec) (v : LightView) : LightView :=
  { v with
    ch := { v.ch with frames := v.ch.frames + 1, program := fadeLevel v.ch.fadeStart h.step (v.ch.frames + 1) }
    unit := { v.unit with progress := v.ch.frames + 1 } }

/-- R118: a completed step's link is followed. -/
def LightView.completes (s : State) (c : Chan) (v : LightView) : LightView :=
  match followLink v.unit.current s.pgc.store[v.unit.current].link v.unit.loop with
  | .to slot loop => v.goesTo s slot loop
  | .ends loop => v.endsAt s c loop

/-- R146, step 2. -/
def LightView.stepped (s : State) (c : Chan) (v : LightView) : LightView :=
  match v.ch.source, v.ch.step with
  | .program, some h =>
    if h.step.fade + h.step.hold ≤ v.ch.frames + 1 then (v.counts h).completes s c else v.counts h
  | _, _ => v

theorem Shows.completes (h : Shows s c v q) (hnone : v.ended = none) :
    Shows s c (v.completes s c) (lightStepDone c q) := by
  have hcurrent : (q.unit (unitOf c)).current = v.unit.current := (congrArg UnitCtx.current h.unit :)
  have hloop : (q.unit (unitOf c)).loop = v.unit.loop := (congrArg UnitCtx.loop h.unit :)
  unfold LightView.completes lightStepDone
  dsimp only
  simp only [h.store, hcurrent, hloop]
  split
  · next slot loop hfollow =>
    rw [hfollow]
    exact h.goesTo slot loop
  · next loop hfollow =>
    rw [hfollow]
    exact h.endsAt hnone loop

theorem Shows.stepped (h : Shows s c v q) (hnone : v.ended = none) : Shows s c (v.stepped s c) (lightStepFrame c q) := by
  unfold LightView.stepped lightStepFrame
  dsimp only
  rw [h.chan]
  cases v.ch.source with
  | manual => exact h
  | program =>
    cases v.ch.step with
    | none => exact h
    | some i =>
      have hcounts : Shows s c (v.counts i) ((q.modChan c fun ch =>
          { ch with frames := v.ch.frames + 1, program := fadeLevel ch.fadeStart i.step (v.ch.frames + 1) }).modUnit
          (unitOf c) fun x => { x with progress := v.ch.frames + 1 }) :=
        (h.modChan fun ch => { ch with
          frames := v.ch.frames + 1, program := fadeLevel ch.fadeStart i.step (v.ch.frames + 1) }).modUnit
          (fun x => { x with progress := v.ch.frames + 1 }) (fun _ => rfl) fun _ => rfl
      dsimp only
      split
      · exact hcounts.completes hnone
      · exact hcounts

/-! ### The whole frame of a channel -/

/-- R146, step 1: the next phase of a blink. -/
def Overlay.advanced : Overlay → Overlay
  | .blink phase => .blink ((phase + 1) % 100)
  | other => other

/-- R146, steps 3 and 4: the levels formed. -/
def levelledChannel (s : State) (c : Chan) (hazard : Option Nat) (ch : Channel) : Channel :=
  let formed := formLevel s.cfg.ltc.chan[c] hazard ch
  { formed with applied := min formed.desired (s.lightCap c) }

/-- R146: what a light frame makes of a channel, once the hazard phase has advanced. -/
def LightView.framed (s : State) (c : Chan) (v : LightView) : LightView :=
  let w := { v with ch := { v.ch with overlay := v.ch.overlay.advanced } }.stepped s c
  { w with ch := levelledChannel s c w.hazard w.ch }

theorem Shows.levelled (h : Shows s c v q) :
    Shows s c { v with ch := levelledChannel s c v.hazard v.ch } (takeLevel c (formDesired c q)) := by
  have hcap : (formDesired c q).lightCap c = s.lightCap c := by
    rw [State.lightCap, (formDesired_frame c q).2.2.1, h.sup, State.lightCap]
  have hformed : Shows s c { v with ch := formLevel s.cfg.ltc.chan[c] v.hazard v.ch } (formDesired c q) := by
    rw [formDesired, h.cfg, h.hazard]
    exact h.modChan _
  rw [takeLevel, hcap]
  exact hformed.modChan fun ch => { ch with applied := min ch.desired (s.lightCap c) }

theorem Shows.framed (h : Shows s c v q) (hnone : v.ended = none) : Shows s c (v.framed s c) (channelFrame q c) := by
  have hblinked : Shows s c { v with ch := { v.ch with overlay := v.ch.overlay.advanced } } (blinkFrame c q) := by
    have hadvanced : blinkFrame c q = q.modChan c fun ch => { ch with overlay := ch.overlay.advanced } := by
      unfold blinkFrame
      congr 1
      funext ch
      obtain ⟨manual, source, program, step, fadeStart, frames, overlay, desired, demand, applied⟩ := ch
      cases overlay <;> rfl
    rw [hadvanced]
    exact h.modChan fun ch => { ch with overlay := ch.overlay.advanced }
  exact (hblinked.stepped hnone).levelled

/-! ### The other channels -/

theorem Shows.handLight_ne (h : Shows s c v q) {d : Chan} (hd : c ≠ d) (slot : Slot) :
    Shows s c v (handLight d slot q) := by
  unfold handLight
  split
  · exact h.modChan_ne hd _
  · exact h
  · exact h

theorem Shows.stepDone_ne (h : Shows s c v q) {d : Chan} (hd : c ≠ d) : Shows s c v (lightStepDone d q) := by
  unfold lightStepDone
  dsimp only
  split
  · exact (h.modUnit_ne hd _ (by intro x; rfl)).handLight_ne hd _
  · exact (h.modUnit_ne hd _ (by intro x; rfl)).endLight_ne hd .complete _

theorem Shows.stepFrame_ne (h : Shows s c v q) {d : Chan} (hd : c ≠ d) : Shows s c v (lightStepFrame d q) := by
  unfold lightStepFrame
  dsimp only
  split
  · split
    · exact ((h.modChan_ne hd _).modUnit_ne hd _ (by intro x; rfl)).stepDone_ne hd
    · exact (h.modChan_ne hd _).modUnit_ne hd _ (by intro x; rfl)
  · exact h

theorem Shows.channelFrame_ne (h : Shows s c v q) {d : Chan} (hd : c ≠ d) : Shows s c v (channelFrame q d) := by
  have hblinked : Shows s c v (blinkFrame d q) := h.modChan_ne hd _
  have hformed : Shows s c v (formDesired d (lightStepFrame d (blinkFrame d q))) := (hblinked.stepFrame_ne hd).modChan_ne hd _
  exact hformed.modChan_ne hd fun ch => { ch with applied := min ch.desired (State.lightCap _ d) }

theorem foldl_preserves_of_mem {α : Type} {P : State → Prop} {f : State → α → State} {l : List α}
    (h : ∀ k ∈ l, ∀ q, P q → P (f q k)) {q : State} (hq : P q) : P (l.foldl f q) := by
  induction l generalizing q with
  | nil => exact hq
  | cons a l ih => exact ih (fun k hk => h k (List.mem_cons_of_mem a hk)) (h a List.mem_cons_self q hq)

/-- A fold over a list without repetition, of which one element establishes a property that the others keep. -/
theorem foldl_reaches {α : Type} {P Q : State → Prop} {f : State → α → State} {i : α} {l : List α} (hl : l.Nodup)
    (hi : i ∈ l) (hbefore : ∀ q k, k ≠ i → P q → P (f q k)) (hafter : ∀ q k, k ≠ i → Q q → Q (f q k))
    (hreach : ∀ q, P q → Q (f q i)) {q : State} (h : P q) : Q (l.foldl f q) := by
  induction l generalizing q with
  | nil => contradiction
  | cons a l ih =>
    obtain ⟨ha, hl⟩ := List.nodup_cons.mp hl
    rw [List.foldl_cons]
    by_cases hai : a = i
    · subst hai
      exact foldl_preserves_of_mem (fun k hk q hq => hafter q k (fun heq => ha (heq ▸ hk)) hq) (hreach q h)
    · exact ih hl ((List.mem_cons.mp hi).resolve_left fun heq => hai heq.symm) (hbefore q a hai h)

/-- R146: the next hazard phase. -/
def advancedPhase (hazard : Option Nat) : Option Nat := hazard.map fun phase => (phase + 1) % 100

/-- R146: what LTC's part of a light frame makes of a channel. -/
theorem Shows.lightsFrame (h : Shows s c v q) (hnone : v.ended = none) :
    Shows s c ({ v with hazard := advancedPhase v.hazard }.framed s c) (lightsFrame q) := by
  have hphase : Shows s c { v with hazard := advancedPhase v.hazard }
      (q.modLtc fun l => { l with hazard := l.hazard.map fun phase => (phase + 1) % 100 }) :=
    { h with
      hazard := congrArg advancedPhase h.hazard
      ending := h.ending }
  have hchans : allChans.Nodup := by decide
  exact foldl_reaches hchans (mem_allChans c) (fun q d hd hq => hq.channelFrame_ne (Ne.symm hd))
    (fun q d hd hq => hq.channelFrame_ne (Ne.symm hd)) (fun q hq => hq.framed hnone) hphase

end

end Sys2Proof.Machine

/-! A light frame in whatever order its blocks act (08 R146, 07 R134, R135, 09 R167, R168). -/

namespace Sys2Proof.Machine

/-! ## The other blocks leave the lights alone -/

/-- In SHUTTING_DOWN no winch step has begun. -/
def Calm (q : State) : Prop := q.vsc.op = .shuttingDown → ¬ WinchBegun q

theorem Calm.of_eq {q t : State} (h : Calm q) (hvsc : t.vsc = q.vsc) (hwch : t.wch.state = q.wch.state) : Calm t := by
  intro hop hb
  unfold WinchBegun at hb
  rw [hwch] at hb
  exact h (hvsc ▸ hop) hb

/-- R13: outside SHUTTING_DOWN a program that ends completes no shutdown. -/
theorem winchEnds_outside {q : State} (h : q.vsc.op ≠ .shuttingDown) (cause : EndCause) :
    winchEnds cause q = winchEnd cause q := by
  have hvsc : (winchEnd cause q).vsc = q.vsc := (winchEnd_frame cause q).1
  obtain ⟨hop, -, -⟩ | ⟨-, hsame⟩ := completionTest_cases (winchEnd cause q)
  · exact absurd (hvsc ▸ hop) h
  · exact hsame

section
variable {s q t : State} {c : Chan} {v : LightView}

theorem Shows.moves (h : Shows s c v q) (hmoves : WinchMoves q t) : Shows s c v t where
  cfg := hmoves.cfg.trans h.cfg
  sup := hmoves.sup.trans h.sup
  store := hmoves.store.trans h.store
  hazard := (congrArg Ltc.hazard hmoves.ltc).trans h.hazard
  chan := (congrArg (fun l : Ltc => l.channels[c]) hmoves.ltc).trans h.chan
  unit := by rw [hmoves.lights _ (unitOf_ne_zero c), h.unit]
  ending := fun he => (h.ending he).same ⟨hmoves.nq, fun u => by
    by_cases hu : u = 0
    · subst hu
      exact (congrArg UnitCtx.stacked hmoves.unit :)
    · rw [hmoves.lights u hu]⟩

theorem Shows.winchEnd (h : Shows s c v q) (cause : EndCause) : Shows s c v (winchEnd cause q) := by
  obtain ⟨-, hsup, -, hltc, -, -, hcfg, -, -, hstore⟩ := winchEnd_frame cause q
  refine ⟨hcfg.trans h.cfg, hsup.trans h.sup, hstore.trans h.store, (congrArg Ltc.hazard hltc).trans h.hazard,
    (congrArg (fun l : Ltc => l.channels[c]) hltc).trans h.chan, ?_, fun he => ?_⟩
  · rw [winchEnd_context, if_neg (unitOf_ne_zero c), h.unit]
  · exact ((h.ending he).offerEnding_ne (unitOf_ne_zero c).symm).same (sameNotices_winchEnd cause q)

/-- R140: what the winch does in a light frame. -/
theorem Shows.reacts (h : Shows s c v q) (hcalm : Calm q) (hreacts : WinchReacts q t) : Shows s c v t ∧ Calm t := by
  obtain ⟨u, hmoves, ⟨rfl, hstill⟩ | ⟨hbegun, cause, rfl⟩⟩ := hreacts
  · refine ⟨h.moves hmoves, fun hop => ?_⟩
    have hno : ¬ WinchBegun q := hcalm (hmoves.vsc ▸ hop)
    exact hcalm.of_eq hmoves.vsc (hstill hno) hop
  · have hop : u.vsc.op ≠ .shuttingDown := fun hop => hcalm (hmoves.vsc ▸ hop) hbegun
    rw [winchEnds_outside hop]
    exact ⟨(h.moves hmoves).winchEnd cause, fun hop' => absurd ((winchEnd_frame cause u).1 ▸ hop') hop⟩

theorem Shows.offer (h : Shows s c v q) (o : Offer) : Shows s c v (offer o q) := by
  obtain ⟨-, -, hsup, -, -, -, hltc, -, -, hcfg, -, -, hstore⟩ := offer_frame o q
  exact ⟨hcfg.trans h.cfg, hsup.trans h.sup, hstore.trans h.store, (congrArg Ltc.hazard hltc).trans h.hazard,
    (congrArg (fun l : Ltc => l.channels[c]) hltc).trans h.chan, (offer_context o q _).trans h.unit,
    fun he => (h.ending he).offer o⟩

theorem Shows.modLmx (h : Shows s c v q) (f : Lmx → Lmx) : Shows s c v (q.modLmx f) :=
  ⟨h.cfg, h.sup, h.store, h.hazard, h.chan, h.unit, h.ending⟩

/-- R167, R168: a change handed out. -/
theorem Shows.handChange (h : Shows s c v q) (hcalm : Calm q) (fn : LineFn) (level : Level) (i : Fin 4) :
    Shows s c v (handChange fn level i q) ∧ Calm (handChange fn level i q) := by
  cases fn with
  | drumPulse =>
    cases level with
    | low => exact h.reacts hcalm (drumPulse_reacts q)
    | high => exact ⟨h, hcalm⟩
  | fairlead => exact h.reacts hcalm (fairleadChange_reacts q)
  | generalInput =>
    have hframe := generalChange_frame i q
    exact ⟨(h.modLmx _).offer _, hcalm.of_eq hframe.1 (congrArg Wch.state hframe.2.2.2.2.2.1)⟩
  | off => exact ⟨h, hcalm⟩
  | clutchServo => exact ⟨h, hcalm⟩

theorem Shows.linesFrame (h : Shows s c v q) (hcalm : Calm q) (order : Order3) (pins : PinLevels) :
    Shows s c v (linesFrame order pins q) ∧ Calm (linesFrame order pins q) := by
  have hhand (fn : LineFn) (r : State) (hr : Shows s c v r ∧ Calm r) :
      Shows s c v (handOut q pins fn r) ∧ Calm (handOut q pins fn r) := by
    refine foldl_preserves (P := fun r => Shows s c v r ∧ Calm r) (fun r i hr => ?_) allLines r hr
    split
    · exact hr.1.handChange hr.2 _ _ _
    · exact hr
  exact runOrder_preserves (P := fun r => Shows s c v r ∧ Calm r) (hhand _) (hhand _) (hhand _) order _
    ⟨h.modLmx _, hcalm.of_eq rfl rfl⟩

end

/-- The view of a channel that a light frame finds. -/
def foundView (s : State) (c : Chan) : LightView :=
  { hazard := s.ltc.hazard, ch := s.chan c, unit := s.unit (unitOf c), ended := none }

/-- R146: and the one that it leaves. -/
def ranView (s : State) (c : Chan) : LightView :=
  { foundView s c with hazard := advancedPhase s.ltc.hazard }.framed s c

/-- R146: a light frame runs every channel, in every order of the blocks. -/
theorem shows_lightFrame (blocks changes : Order3) (pins : PinLevels) {s q : State} {c : Chan} (hcalm : Calm q)
    (hfound : Shows s c (foundView s c) q) : Shows s c (ranView s c) (lightFrame blocks changes pins q) := by
  have hlights (q : State) (hq : Shows s c (foundView s c) q ∧ Calm q) :
      Shows s c (ranView s c) (lightsFrame q) ∧ Calm (lightsFrame q) := by
    have hframe := lightsFrame_frame q
    exact ⟨hq.1.lightsFrame rfl, hq.2.of_eq hframe.1 (congrArg Wch.state hframe.2.2.2.2.2.1)⟩
  have hwinch (v : LightView) (q : State) (hq : Shows s c v q ∧ Calm q) :=
    hq.1.reacts hq.2 (winchFrame_reacts q)
  have hlines (v : LightView) (q : State) (hq : Shows s c v q ∧ Calm q) := hq.1.linesFrame hq.2 changes pins
  exact (runOrder_reaches hlights (hwinch _) (hwinch _) (hlines _) (hlines _) blocks q ⟨hfound, hcalm⟩).1

theorem shows_lightFrameExpiry (pins : PinLevels) {s : State} (hcalm : Calm s) (c : Chan) :
    Shows s c (ranView s c) (lightFrameExpiry pins s) :=
  shows_lightFrame _ _ pins hcalm ⟨rfl, rfl, rfl, rfl, rfl, rfl, onlyEnding_none⟩

end Sys2Proof.Machine

/-! What a light frame leaves of one channel (08 R146, R149, R150, 06 R118). -/

namespace Sys2Proof.Machine

/-! ## Links (06 R118) -/

/-- R118: where a link leads. -/
theorem followLink_of_leads {cur : Slot} {link : Link} {loop counter : LoopCounter} {next : Option Slot}
    (h : LinkLeads cur link loop next counter) :
    followLink cur link loop = next.elim (.ends counter) (Follow.to · counter) := by
  cases link with
  | stop =>
    obtain ⟨rfl, rfl⟩ := h
    rfl
  | next =>
    obtain ⟨rfl, slot, hslot, rfl⟩ := h
    exact followLink_next hslot _
  | goto target loops =>
    obtain ⟨hforever, hcounted, hgoing, hcounting, hdone⟩ := h
    cases loop with
    | notLoaded =>
      by_cases hloops : loops = 0
      · obtain ⟨rfl, rfl⟩ := hforever rfl hloops
        subst hloops
        rfl
      · obtain ⟨rfl, rfl⟩ := hcounted rfl hloops
        obtain ⟨n, rfl⟩ := Nat.exists_eq_succ_of_ne_zero hloops
        rfl
    | forever =>
      obtain ⟨rfl, rfl⟩ := hgoing rfl
      rfl
    | count n =>
      cases n with
      | zero =>
        obtain ⟨rfl, rfl⟩ := hdone rfl
        rfl
      | succ n =>
        obtain ⟨rfl, rfl⟩ := hcounting _ rfl (Nat.succ_ne_zero n)
        rfl

/-! ## The step of a frame -/

section
variable {s : State} {c : Chan} {v : LightView}

theorem stepped_manual (h : v.ch.source = .manual) : v.stepped s c = v := by
  unfold LightView.stepped
  rw [h]

theorem stepped_program {i : InHand LightRec} (hsource : v.ch.source = .program) (hstep : v.ch.step = some i) :
    v.stepped s c = if i.step.fade + i.step.hold ≤ v.ch.frames + 1 then (v.counts i).completes s c else v.counts i := by
  unfold LightView.stepped
  rw [hsource, hstep]

theorem goesTo_kept (slot : Slot) (loop : LoopCounter) : (v.goesTo s slot loop).ch.manual = v.ch.manual ∧
    (v.goesTo s slot loop).ch.overlay = v.ch.overlay ∧ (v.goesTo s slot loop).hazard = v.hazard := by
  refine ⟨?_, ?_, rfl⟩ <;> (unfold LightView.goesTo; dsimp only; split <;> rfl)

theorem completes_kept : (v.completes s c).ch.manual = v.ch.manual ∧ (v.completes s c).ch.overlay = v.ch.overlay ∧
    (v.completes s c).hazard = v.hazard := by
  unfold LightView.completes
  split
  · exact goesTo_kept _ _
  · exact ⟨rfl, rfl, rfl⟩

/-- R146: a step moves neither the manual level nor the overlay. -/
theorem stepped_kept : (v.stepped s c).ch.manual = v.ch.manual ∧ (v.stepped s c).ch.overlay = v.ch.overlay ∧
    (v.stepped s c).hazard = v.hazard := by
  unfold LightView.stepped
  split
  · split
    · exact completes_kept
    · exact ⟨rfl, rfl, rfl⟩
  · exact ⟨rfl, rfl, rfl⟩

/-- R118: a completed step whose link leads to `next`. -/
theorem completes_of_leads {next : Option Slot} {counter : LoopCounter}
    (h : LinkLeads v.unit.current s.pgc.store[v.unit.current].link v.unit.loop next counter) :
    v.completes s c = next.elim (v.endsAt s c counter) (v.goesTo s · counter) := by
  unfold LightView.completes
  rw [followLink_of_leads h]
  cases next <;> rfl

end

/-- R149: a fade that is over. -/
theorem fadeLevel_over {start k : Nat} {r : LightRec} (h : r.fade ≤ k) : fadeLevel start r k = r.level :=
  if_neg (Nat.not_lt.mpr h)

/-- R155, R156: the levels formed. -/
theorem levelledChannel_formed (s : State) (c : Chan) (hazard : Option Nat) (ch : Channel) :
    LevelFormed s.cfg.ltc.chan[c] hazard (levelledChannel s c hazard ch) ∧
    (levelledChannel s c hazard ch).applied = min (levelledChannel s c hazard ch).desired (s.lightCap c) :=
  ⟨levelFormed_formLevel s.cfg.ltc.chan[c] hazard ch, rfl⟩

/-! ## The view that a light frame leaves -/

section
variable {s t : State} {c : Chan}

/-- R146: the blink's next phase, before the step of the frame. -/
def blinkedView (s : State) (c : Chan) : LightView :=
  { hazard := advancedPhase s.ltc.hazard, ch := { s.chan c with overlay := (s.chan c).overlay.advanced }
    unit := s.unit (unitOf c), ended := none }

theorem ranView_eq (s : State) (c : Chan) : ranView s c =
    { (blinkedView s c).stepped s c with
      ch := levelledChannel s c ((blinkedView s c).stepped s c).hazard ((blinkedView s c).stepped s c).ch } := rfl

theorem ranView_hazard (s : State) (c : Chan) : (ranView s c).hazard = advancedPhase s.ltc.hazard :=
  stepped_kept.2.2

/-- R146: what holds of every channel. -/
theorem Shows.ran (h : Shows s c (ranView s c) t) : (t.chan c).manual = (s.chan c).manual ∧
    (t.chan c).overlay = (s.chan c).overlay.advanced ∧ LevelFormed s.cfg.ltc.chan[c] t.ltc.hazard (t.chan c) ∧
    (t.chan c).applied = min (t.chan c).desired (s.lightCap c) := by
  obtain ⟨hmanual, hoverlay, -⟩ := stepped_kept (s := s) (c := c) (v := blinkedView s c)
  obtain ⟨hformed, happlied⟩ := levelledChannel_formed s c ((blinkedView s c).stepped s c).hazard
    ((blinkedView s c).stepped s c).ch
  rw [h.chan, h.hazard]
  exact ⟨hmanual, hoverlay, hformed, happlied⟩

/-- R146: what the view that the step leaves says of the state. -/
theorem Shows.ran_step (h : Shows s c (ranView s c) t) {w : LightView} (hw : (blinkedView s c).stepped s c = w) :
    (t.chan c).source = w.ch.source ∧ (t.chan c).step = w.ch.step ∧ (t.chan c).frames = w.ch.frames ∧
    (t.chan c).fadeStart = w.ch.fadeStart ∧ (t.chan c).program = w.ch.program ∧
    { t.unit (unitOf c) with stacked := none } = { w.unit with stacked := none } ∧
    (endings (unitOf c) s.nq = 0 → OnlyEnding (unitOf c) w.ended t) := by
  have hview := h
  rw [ranView_eq, hw] at hview
  rw [hview.chan]
  exact ⟨rfl, rfl, rfl, rfl, rfl, hview.unit, hview.ending⟩

theorem Shows.ran_manual (h : Shows s c (ranView s c) t) (hsource : (s.chan c).source = .manual) :
    (t.chan c).source = .manual ∧ (t.chan c).program = (s.chan c).program ∧
    { t.unit (unitOf c) with stacked := none } = { s.unit (unitOf c) with stacked := none } := by
  obtain ⟨hsource', -, -, -, hprogram, hunit, -⟩ := h.ran_step (stepped_manual hsource)
  exact ⟨hsource'.trans hsource, hprogram, hunit⟩

/-- R149: a step that does not complete. -/
theorem Shows.ran_counts (h : Shows s c (ranView s c) t) {i : InHand LightRec} (hsource : (s.chan c).source = .program)
    (hstep : (s.chan c).step = some i) (hmore : (s.chan c).frames + 1 < i.step.fade + i.step.hold) :
    (t.chan c).source = .program ∧ (t.chan c).step = some i ∧ (t.chan c).frames = (s.chan c).frames + 1 ∧
    (t.chan c).program = fadeLevel (s.chan c).fadeStart i.step ((s.chan c).frames + 1) ∧
    (t.unit (unitOf c)).progress = (s.chan c).frames + 1 := by
  obtain ⟨hsource', hstep', hframes, -, hprogram, hunit, -⟩ := h.ran_step
    ((stepped_program (v := blinkedView s c) hsource hstep).trans (if_neg (Nat.not_le.mpr hmore)))
  exact ⟨hsource'.trans hsource, hstep'.trans hstep, hframes, hprogram, (congrArg UnitCtx.progress hunit :)⟩

variable {i : InHand LightRec} (hsource : (s.chan c).source = .program) (hstep : (s.chan c).step = some i)
  (hmet : i.step.fade + i.step.hold ≤ (s.chan c).frames + 1)
include hsource hstep hmet

/-- R118: a step that completes has its link followed. -/
theorem stepped_leads {next : Option Slot} {counter : LoopCounter}
    (hleads : LinkLeads (s.unit (unitOf c)).current s.pgc.store[(s.unit (unitOf c)).current].link
      (s.unit (unitOf c)).loop next counter) :
    (blinkedView s c).stepped s c =
      next.elim (((blinkedView s c).counts i).endsAt s c counter) (((blinkedView s c).counts i).goesTo s · counter) :=
  ((stepped_program (v := blinkedView s c) hsource hstep).trans (if_pos hmet)).trans
    (completes_of_leads (v := (blinkedView s c).counts i) hleads)

/-- R151: a program that has completed. -/
theorem Shows.ran_ends (h : Shows s c (ranView s c) t) {counter : LoopCounter}
    (hleads : LinkLeads (s.unit (unitOf c)).current s.pgc.store[(s.unit (unitOf c)).current].link
      (s.unit (unitOf c)).loop none counter) :
    { t.unit (unitOf c) with stacked := none } = { s.unit (unitOf c) with
      state := .idle, haltCause := none, loop := counter, progress := (s.chan c).frames + 1, stacked := none } ∧
    (t.chan c).source = .manual ∧ (t.chan c).step = none ∧ (t.chan c).frames = 0 ∧
    (t.chan c).program = i.step.level ∧
    (endings (unitOf c) s.nq = 0 →
      let e := endingOf (s.modUnit (unitOf c) fun y => { y with loop := counter }) (unitOf c) .complete 0 i.step.level
      .unitEnded e ∈ t.nq ∨ (t.unit (unitOf c)).stacked = some e) := by
  obtain ⟨hsource', hstep', hframes, -, hprogram, hunit, hending⟩ :=
    h.ran_step (stepped_leads hsource hstep hmet hleads)
  have hlevel : fadeLevel (s.chan c).fadeStart i.step ((s.chan c).frames + 1) = i.step.level :=
    fadeLevel_over ((Nat.le_add_right _ _).trans hmet)
  refine ⟨hunit, hsource', hstep', hframes, hprogram.trans hlevel, fun he => ?_⟩
  have hstatus : endingOf (s.modUnit (unitOf c) fun y => { y with loop := counter }) (unitOf c) .complete 0 i.step.level =
      completedStatus s c { s.unit (unitOf c) with loop := counter } i.step.level :=
    endingOf_complete rfl (by rw [State.unit_modUnit_self]) _
  have hstands := ((hending he).2 _ rfl).2
  dsimp only
  rw [hstatus, ← hlevel]
  exact hstands

/-- R149: a program that goes on to its next step. -/
theorem Shows.ran_goes (h : Shows s c (ranView s c) t) {slot : Slot} {counter : LoopCounter} {r : LightRec}
    (hleads : LinkLeads (s.unit (unitOf c)).current s.pgc.store[(s.unit (unitOf c)).current].link
      (s.unit (unitOf c)).loop (some slot) counter) (hr : s.pgc.store[slot] = .light r) :
    { t.unit (unitOf c) with stacked := none } =
      { s.unit (unitOf c) with current := slot, loop := counter, progress := 0, stacked := none } ∧
    (t.chan c).source = .program ∧ (t.chan c).step = some ⟨slot, r⟩ ∧ (t.chan c).frames = 0 ∧
    (t.chan c).fadeStart = i.step.level ∧ (t.chan c).program = if r.fade = 0 then r.level else i.step.level := by
  have hbegan : (((blinkedView s c).counts i).goesTo s slot counter).ch =
      beganChannel slot r ((blinkedView s c).counts i).ch := by
    unfold LightView.goesTo
    rw [hr]
  obtain ⟨hsource', hstep', hframes, hstart, hprogram, hunit, -⟩ :=
    h.ran_step (stepped_leads hsource hstep hmet hleads)
  have hlevel : fadeLevel (s.chan c).fadeStart i.step ((s.chan c).frames + 1) = i.step.level :=
    fadeLevel_over ((Nat.le_add_right _ _).trans hmet)
  rw [Option.elim_some, hbegan] at hsource' hstep' hframes hstart hprogram
  rw [← hlevel]
  exact ⟨hunit, hsource'.trans hsource, hstep', hframes, hstart, hprogram⟩

end

end Sys2Proof.Machine

/-! What a light frame leaves of the lines (09 R167, R168). -/

namespace Sys2Proof.Machine

/-- Three changes in any order of which the third establishes a property. -/
theorem runOrder_reaches_last {P Q : State → Prop} {a b c : State → State} (hc : ∀ s, P s → Q (c s))
    (ha : ∀ s, P s → P (a s)) (ha' : ∀ s, Q s → Q (a s)) (hb : ∀ s, P s → P (b s)) (hb' : ∀ s, Q s → Q (b s))
    (o : Order3) (s : State) (h : P s) : Q (runOrder o a b c s) := by
  cases o with
  | abc => exact hc _ (hb _ (ha _ h))
  | acb => exact hb' _ (hc _ (ha _ h))
  | bac => exact hc _ (ha _ (hb _ h))
  | bca => exact ha' _ (hc _ (hb _ h))
  | cab => exact hb' _ (ha' _ (hc _ h))
  | cba => exact ha' _ (hb' _ (hc _ h))

/-! ## One line -/

/-- 09 section 9.4.1: the input functions. -/
theorem sampled_eq (fn : LineFn) :
    fn.sampled = (decide (fn = .generalInput) || decide (fn = .drumPulse) || decide (fn = .fairlead)) := by
  cases fn <;> rfl

theorem take_still {l : Line} (h : l.fn.sampled = false) (level : Level) : l.take level = l := by
  rw [Line.take, h]
  rfl

/-- R167: an input line seeds, accepts a level seen twice, or keeps its level. -/
theorem take_sampled {l : Line} (h : l.fn.sampled = true) (level : Level) : (l.take level).sample = some level ∧
    (l.take level).accepted = if l.sample = none ∨ l.accepts level = true then level else l.accepted := by
  have hin (last : Level) (hs : l.sample = some last) : l.accepts level = true ↔ level = last ∧ level ≠ l.accepted := by
    rw [Line.accepts_iff l level h, hs, Option.some.injEq, eq_comm]
  rw [Line.take, if_pos h]
  cases hs : l.sample with
  | none =>
    refine ⟨rfl, ?_⟩
    rw [if_pos (.inl rfl)]
  | some last =>
    dsimp only
    simp only [hin last hs, reduceCtorEq, false_or]
    by_cases haccepts : level = last ∧ level ≠ l.accepted
    · rw [if_pos haccepts, if_pos haccepts, haccepts.1]
      exact ⟨rfl, rfl⟩
    · rw [if_neg haccepts, if_neg haccepts]
      exact ⟨rfl, rfl⟩

/-! ## The four lines -/

/-- R167: line `i` of `s` accepts a change. -/
def Accepts (s : State) (pins : PinLevels) (i : Fin 4) : Bool := (s.lmx.lines[i]).accepts (pinLevel pins i)

/-- R167: the lines after the samples. -/
def sampledLines (s : State) (pins : PinLevels) : Vector Line 4 :=
  Vector.ofFn fun i => (s.lmx.lines[i]).take (pinLevel pins i)

theorem sampledLines_get (s : State) (pins : PinLevels) (i : Fin 4) :
    (sampledLines s pins)[i] = (s.lmx.lines[i]).take (pinLevel pins i) := by simp [sampledLines]

/-- R168: line `i` accepts a change and is a general input. -/
def Flags (s : State) (pins : PinLevels) (i : Fin 4) : Bool :=
  Accepts s pins i && decide ((s.lmx.lines[i]).fn = .generalInput)

theorem generalChange_changed (k i : Fin 4) (q : State) :
    (generalChange k q).lmx.changed[i] = (q.lmx.changed[i] || decide (i = k)) := by
  have hlmx : (generalChange k q).lmx = { q.lmx with changed := q.lmx.changed.set k true } := by simp [generalChange]
  rw [hlmx, getElem_set_fin]
  split
  · next h => simp [h]
  · next h => simp [h]

/-- R168: the flags that the changes of some of the lines set. -/
theorem handOut_flags (s : State) (pins : PinLevels) (l : List (Fin 4)) (q : State) (i : Fin 4) :
    (l.foldl (fun q k => if (s.lmx.lines[k]).fn = .generalInput ∧ (s.lmx.lines[k]).accepts (pinLevel pins k) then
      handChange .generalInput (pinLevel pins k) k q else q) q).lmx.changed[i] =
      (q.lmx.changed[i] || (decide (i ∈ l) && Flags s pins i)) := by
  induction l generalizing q with
  | nil => simp
  | cons k l ih =>
    rw [List.foldl_cons, ih]
    have hflags : Flags s pins k = decide ((s.lmx.lines[k]).fn = .generalInput ∧
        (s.lmx.lines[k]).accepts (pinLevel pins k) = true) := by
      rw [Flags, Accepts, Bool.decide_and, Bool.and_comm, Bool.decide_eq_true]
    split
    · next h =>
      have hk : Flags s pins k = true := hflags.trans (decide_eq_true h)
      rw [handChange, generalChange_changed]
      by_cases hik : i = k
      · subst hik
        simp [hk]
      · simp [hik]
    · next h =>
      have hk : Flags s pins k = false := hflags.trans (decide_eq_false h)
      by_cases hik : i = k
      · subst hik
        simp [hk]
      · simp [hik]

/-- R167: no change of the other kinds moves LMX's record. -/
theorem handOut_lmx (s : State) (pins : PinLevels) {fn : LineFn} (h : fn ≠ .generalInput) (q : State) :
    (handOut s pins fn q).lmx = q.lmx := by
  refine foldl_keeps (fun q => q.lmx) _ (fun q i => ?_) _ _
  split
  · cases fn with
    | generalInput => contradiction
    | drumPulse => cases hp : pinLevel pins i <;> simp [handChange]
    | fairlead => simp [handChange]
    | off => rfl
    | clutchServo => rfl
  · rfl

/-- R168: LMX's record after its part of a light frame. -/
structure LinesRan (s : State) (pins : PinLevels) (q : State) : Prop where
  lines : q.lmx.lines = sampledLines s pins
  changed : ∀ i : Fin 4, q.lmx.changed[i] = (s.lmx.changed[i] || Flags s pins i)

theorem LinesRan.of_lmx {s q t : State} {pins : PinLevels} (h : LinesRan s pins q) (hlmx : t.lmx = q.lmx) :
    LinesRan s pins t := ⟨hlmx ▸ h.lines, fun i => hlmx ▸ h.changed i⟩

/-- What LMX hands out depends on the lines alone. -/
theorem handOut_congr {s q : State} (h : q.lmx = s.lmx) (pins : PinLevels) (fn : LineFn) :
    handOut q pins fn = handOut s pins fn := by
  funext r
  unfold handOut
  rw [h]

theorem sampleLines_lmx {s q : State} (h : q.lmx = s.lmx) (pins : PinLevels) :
    (sampleLines pins q).lmx = { s.lmx with lines := sampledLines s pins } := by
  rw [sampleLines, State.modLmx_lmx, h]
  rfl

theorem linesRan_linesFrame {s q : State} (h : q.lmx = s.lmx) (changes : Order3) (pins : PinLevels) :
    LinesRan s pins (linesFrame changes pins q) := by
  have hgeneral (r : State) (hr : r.lmx = { s.lmx with lines := sampledLines s pins }) :
      LinesRan s pins (handOut s pins .generalInput r) := by
    refine ⟨(handOut_lines ..).trans (congrArg Lmx.lines hr), fun i => ?_⟩
    have hflags := handOut_flags s pins allLines r i
    rw [handOut, hflags, hr, decide_eq_true (mem_allLines i), Bool.true_and]
  have hdrum (r : State) := handOut_lmx s pins (fn := .drumPulse) (by decide) r
  have hfairlead (r : State) := handOut_lmx s pins (fn := .fairlead) (by decide) r
  rw [linesFrame, handOut_congr h, handOut_congr h, handOut_congr h]
  exact runOrder_reaches_last hgeneral (fun r hr => (hdrum r).trans hr) (fun r hr => hr.of_lmx (hdrum r))
    (fun r hr => (hfairlead r).trans hr) (fun r hr => hr.of_lmx (hfairlead r)) changes _ (sampleLines_lmx h pins)

/-- R167: the lines after a light frame, in every order of the blocks. -/
theorem linesRan_lightFrame (blocks changes : Order3) (pins : PinLevels) {s q : State} (h : q.lmx = s.lmx) :
    LinesRan s pins (lightFrame blocks changes pins q) := by
  have hlights (q : State) : (lightsFrame q).lmx = q.lmx := by simp
  have hwinch (q : State) : (winchFrame q).lmx = q.lmx := by simp
  exact runOrder_reaches_last (P := fun q => q.lmx = s.lmx) (fun q hq => linesRan_linesFrame hq changes pins)
    (fun q hq => (hlights q).trans hq) (fun q hq => hq.of_lmx (hlights q)) (fun q hq => (hwinch q).trans hq)
    (fun q hq => hq.of_lmx (hwinch q)) blocks q h

theorem linesRan_lightFrameExpiry (pins : PinLevels) (s : State) : LinesRan s pins (lightFrameExpiry pins s) :=
  linesRan_lightFrame _ _ pins rfl

end Sys2Proof.Machine

/-! A light frame with the winch idle, and the whole of O50 (08 R146, 07 R130, 09 R167, R168). -/

namespace Sys2Proof.Machine

/-! ## The winch stays idle -/

/-- The part while a light frame runs in which the winch is idle: what `q` has kept of `s`. -/
structure Idles (s q : State) : Prop where
  state : s.wch.state = .idle
  step : s.wch.step = none
  vsc : q.vsc = s.vsc
  trc : q.trc = s.trc
  stc : q.stc = s.stc
  scn : q.scn = s.scn
  cfg : q.cfg = s.cfg
  unit : { q.unit 0 with stacked := none } = { s.unit 0 with stacked := none }
  wch : q.wch = { s.wch with position := q.wch.position }

section
variable {s q : State}

theorem Idles.still (h : Idles s q) : q.wch.step = none := (congrArg Wch.step h.wch).trans h.step

theorem Idles.winchFrame (h : Idles s q) : winchFrame q = q := winchFrame_still (.inl h.still)

theorem Idles.fairleadChange (h : Idles s q) : fairleadChange q = q := fairleadChange_still (.inl h.still)

/-- R130: a pulse with the winch idle moves P outward. -/
theorem Idles.drumPulse (h : Idles s q) : drumPulse q = { q with wch := { q.wch with
    position := min (q.wch.position + s.cfg.wch.linePerPulse) (s.cfg.wch.lineMax * 10) } } := by
  rw [drumPulse_still (.inl h.still), positionOut, positionMax, h.cfg]

theorem Idles.moved (h : Idles s q) (p : Nat) : Idles s { q with wch := { q.wch with position := p } } :=
  { h with wch := (congrArg (fun w : Wch => { w with position := p }) h.wch :) }

theorem Idles.modLmx (h : Idles s q) (f : Lmx → Lmx) : Idles s (q.modLmx f) :=
  ⟨h.state, h.step, h.vsc, h.trc, h.stc, h.scn, h.cfg, h.unit, h.wch⟩

theorem Idles.generalChange (h : Idles s q) (i : Fin 4) : Idles s (generalChange i q) := by
  obtain ⟨hvsc, hscn, -, htrc, hstc, hwch, -, -, hcfg, -, -, -⟩ := generalChange_frame i q
  refine ⟨h.state, h.step, hvsc.trans h.vsc, htrc.trans h.trc, hstc.trans h.stc, hscn.trans h.scn, hcfg.trans h.cfg,
    (offer_context ..).trans h.unit, ?_⟩
  rw [hwch]
  exact h.wch

/-- R151: no light unit's end touches the winch unit. -/
theorem channelFrame_unit_zero (q : State) (c : Chan) : (channelFrame q c).unit 0 = q.unit 0 := by
  have hother (t : State) (f : UnitCtx → UnitCtx) : (t.modUnit (unitOf c) f).unit 0 = t.unit 0 :=
    State.unit_modUnit_ne _ _ (unitOf_ne_zero c).symm
  have hdone (t : State) : (lightStepDone c t).unit 0 = t.unit 0 := by
    unfold lightStepDone
    dsimp only
    split
    · next slot loop _ =>
      have hhanded : (handLight c slot (passTo (unitOf c) slot loop t)).unit 0 = (passTo (unitOf c) slot loop t).unit 0 := by
        simp only [State.unit, handLight_frame]
      rw [hhanded, passTo, hother]
    · exact (endLightWith_unit_ne c _ _ _ (unitOf_ne_zero c).symm).trans (hother ..)
  have hstep (t : State) : (lightStepFrame c t).unit 0 = t.unit 0 := by
    unfold lightStepFrame
    dsimp only
    split
    · split
      · rw [hdone, hother, State.unit_modChan]
      · rw [hother, State.unit_modChan]
    · rfl
  exact hstep (blinkFrame c q)

theorem Idles.lightsFrame (h : Idles s q) : Idles s (lightsFrame q) := by
  obtain ⟨hvsc, hscn, -, htrc, hstc, hwch, -, -, hcfg, -⟩ := lightsFrame_frame q
  have hunit : (Machine.lightsFrame q).unit 0 = q.unit 0 :=
    foldl_preserves (P := fun t => t.unit 0 = q.unit 0) (fun t c ht => (channelFrame_unit_zero t c).trans ht) allChans _ rfl
  refine ⟨h.state, h.step, hvsc.trans h.vsc, htrc.trans h.trc, hstc.trans h.stc, hscn.trans h.scn, hcfg.trans h.cfg,
    ?_, ?_⟩
  · rw [hunit]
    exact h.unit
  · rw [hwch]
    exact h.wch

/-- What the changes of a kind keep. -/
theorem handOut_preserves {P : State → Prop} (before : State) (pins : PinLevels) {fn : LineFn}
    (h : ∀ level i r, P r → P (handChange fn level i r)) {r : State} (hr : P r) : P (handOut before pins fn r) := by
  refine foldl_preserves (P := P) (fun r i hr => ?_) allLines r hr
  split
  · exact h _ _ _ hr
  · exact hr

theorem Idles.drum (h : Idles s q) (before : State) (pins : PinLevels) : Idles s (handOut before pins .drumPulse q) :=
  handOut_preserves before pins (fun level i r hr => by
    cases level with
    | low =>
      rw [handChange, hr.drumPulse]
      exact hr.moved _
    | high => exact hr) h

/-- R137: with the winch idle a fairlead change does nothing. -/
theorem Idles.fairlead (h : Idles s q) (before : State) (pins : PinLevels) : handOut before pins .fairlead q = q :=
  foldl_still fun i _ => by
    split
    · exact h.fairleadChange
    · rfl

theorem Idles.general (h : Idles s q) (before : State) (pins : PinLevels) : Idles s (handOut before pins .generalInput q) :=
  handOut_preserves before pins (fun _ i _ hr => hr.generalChange i) h

theorem Idles.linesFrame (h : Idles s q) (changes : Order3) (pins : PinLevels) : Idles s (linesFrame changes pins q) :=
  runOrder_preserves (P := Idles s) (fun _ hr => hr.drum _ _) (fun _ hr => (hr.fairlead q pins).symm ▸ hr)
    (fun _ hr => hr.general _ _) changes _ (h.modLmx _)

theorem idles_lightFrame (h : Idles s q) (blocks changes : Order3) (pins : PinLevels) :
    Idles s (lightFrame blocks changes pins q) :=
  runOrder_preserves (P := Idles s) (fun _ hq => hq.lightsFrame) (fun _ hq => hq.winchFrame.symm ▸ hq)
    (fun _ hq => hq.linesFrame changes pins) blocks q h

theorem idles_nextChoice (hstate : s.wch.state = .idle) (hstep : s.wch.step = none) : Idles s s.nextChoice.nextChoice :=
  ⟨hstate, hstep, rfl, rfl, rfl, rfl, rfl, rfl, rfl⟩

theorem idles_lightFrameExpiry (hstate : s.wch.state = .idle) (hstep : s.wch.step = none) (pins : PinLevels) :
    Idles s (lightFrameExpiry pins s) := idles_lightFrame (idles_nextChoice hstate hstep) _ _ pins

/-! ## The line position (07 R130) -/

/-- R130: line `i` is the drum's and accepts a low level. -/
def Pulsed (s : State) (pins : PinLevels) (i : Fin 4) : Prop :=
  (s.lmx.lines[i]).fn = .drumPulse ∧ Accepts s pins i = true ∧ pinLevel pins i = .low

/-- R167: no pulse is handed out. -/
theorem handOut_unpulsed {pins : PinLevels} (h : ∀ i, ¬ Pulsed s pins i) (r : State) :
    handOut s pins .drumPulse r = r :=
  foldl_still fun i _ => by
    split
    · next haccepts =>
      cases hpin : pinLevel pins i with
      | low => exact absurd ⟨haccepts.1, haccepts.2, hpin⟩ (h i)
      | high => rfl
    · rfl

/-- R167: the one drum line hands its pulse out. -/
theorem handOut_pulsed {pins : PinLevels} (hlines : LinesOk s) {i : Fin 4} (h : Pulsed s pins i) (r : State) :
    handOut s pins .drumPulse r = Machine.drumPulse r := by
  obtain ⟨hfn, haccepts, hlow⟩ := h
  have hone (k : Fin 4) (hk : k ≠ i) : (s.lmx.lines[k]).fn ≠ .drumPulse := fun hfn' =>
    hk (hlines k i (hfn'.trans hfn.symm) (.inl hfn'))
  rw [handOut_one hfn hone haccepts, hlow]
  rfl

/-- P while the frame runs. -/
def At (s : State) (p : Nat) (q : State) : Prop := Idles s q ∧ q.wch.position = p

/-- R130: P after a light frame, where the drum's changes move it from the P found to `p`. -/
theorem position_lightFrame {pins : PinLevels} {p : Nat} (hlmx : q.lmx = s.lmx) (h : At s s.wch.position q)
    (hdrum : ∀ r, At s s.wch.position r → (handOut s pins .drumPulse r).wch.position = p) (blocks changes : Order3) :
    (lightFrame blocks changes pins q).wch.position = p := by
  have hgeneral (p : Nat) (r : State) (hr : At s p r) : At s p (handOut s pins .generalInput r) :=
    ⟨hr.1.general _ _, handOut_preserves (P := fun r => r.wch.position = p) s pins (fun _ i r hr => by
      rw [handChange, (generalChange_frame i r).2.2.2.2.2.1, hr]) hr.2⟩
  have hfairlead (p : Nat) (r : State) (hr : At s p r) : At s p (handOut s pins .fairlead r) :=
    (hr.1.fairlead s pins).symm ▸ hr
  have hlines (q : State) (hq : q.lmx = s.lmx ∧ At s s.wch.position q) : At s p (linesFrame changes pins q) := by
    rw [linesFrame, handOut_congr hq.1, handOut_congr hq.1, handOut_congr hq.1]
    exact runOrder_reaches (P := At s s.wch.position) (Q := At s p) (fun r hr => ⟨hr.1.drum _ _, hdrum r hr⟩)
      (hfairlead _) (hfairlead _) (hgeneral _) (hgeneral _) changes _ ⟨hq.2.1.modLmx _, hq.2.2⟩
  have hlights (p : Nat) (q : State) (hq : At s p q) : At s p (Machine.lightsFrame q) :=
    ⟨hq.1.lightsFrame, by rw [(lightsFrame_frame q).2.2.2.2.2.1, hq.2]⟩
  have hwinch (p : Nat) (q : State) (hq : At s p q) : At s p (Machine.winchFrame q) := hq.1.winchFrame.symm ▸ hq
  have hothers (q : State) : (Machine.lightsFrame q).lmx = q.lmx ∧ (Machine.winchFrame q).lmx = q.lmx := by simp
  exact (runOrder_reaches_last (P := fun q => q.lmx = s.lmx ∧ At s s.wch.position q) (Q := At s p) hlines
    (fun q hq => ⟨(hothers q).1.trans hq.1, hlights _ q hq.2⟩) (hlights p)
    (fun q hq => ⟨(hothers q).2.trans hq.1, hwinch _ q hq.2⟩) (hwinch p) blocks q
    ⟨hlmx, h⟩).2

theorem position_lightFrameExpiry (hstate : s.wch.state = .idle) (hstep : s.wch.step = none) {pins : PinLevels} {p : Nat}
    (hdrum : ∀ r, At s s.wch.position r → (handOut s pins .drumPulse r).wch.position = p) :
    (lightFrameExpiry pins s).wch.position = p :=
  position_lightFrame (s := s) (q := s.nextChoice.nextChoice) rfl ⟨idles_nextChoice hstate hstep, rfl⟩ hdrum _ _

end

end Sys2Proof.Machine

/-! The notices of a light frame in which no step completes, and O50 (09 R168, 08 R146). -/

namespace Sys2Proof.Machine

/-- Three changes in any order, of which the first and the third each make their mark once and the second makes none. -/
theorem runOrder_marks {R : Bool → Bool → State → Prop} {a b c : State → State}
    (ha : ∀ y s, R false y s → R true y (a s)) (hb : ∀ x y s, R x y s → R x y (b s))
    (hc : ∀ x s, R x false s → R x true (c s)) (o : Order3) (s : State) (h : R false false s) :
    R true true (runOrder o a b c s) := by
  cases o with
  | abc => exact hc _ _ (hb _ _ _ (ha _ _ h))
  | acb => exact hb _ _ _ (hc _ _ (ha _ _ h))
  | bac => exact hc _ _ (ha _ _ (hb _ _ _ h))
  | bca => exact ha _ _ (hc _ _ (hb _ _ _ h))
  | cab => exact hb _ _ _ (ha _ _ (hc _ _ h))
  | cba => exact ha _ _ (hb _ _ _ (hc _ _ h))

section
variable {s q : State} {c : Chan}

/-! ## Steps that do not complete -/

/-- R150: the frame at hand does not complete the channel's step. -/
def NotDue (ch : Channel) : Prop :=
  ∀ i : InHand LightRec, ch.source = .program → ch.step = some i → ch.frames + 1 < i.step.fade + i.step.hold

theorem lightStepFrame_quiet (h : NotDue (q.chan c)) : SameNotices (lightStepFrame c q) q := by
  unfold lightStepFrame
  dsimp only
  split
  · next i hsource hstep =>
    rw [if_neg (Nat.not_le.mpr (h i hsource hstep))]
    exact (SameNotices.modUnit _ _ (by intro x; rfl)).trans (.of_eq rfl rfl)
  · exact .refl q

theorem channelFrame_quiet (h : NotDue (q.chan c)) : SameNotices (channelFrame q c) q := by
  have hblinked : NotDue ((blinkFrame c q).chan c) := by
    rw [blinkFrame, State.chan_modChan_self]
    split <;> exact h
  have hformed : SameNotices (channelFrame q c) (lightStepFrame c (blinkFrame c q)) := .of_eq rfl rfl
  exact hformed.trans ((lightStepFrame_quiet hblinked).trans (.of_eq rfl rfl))

theorem channelFrame_others {d : Chan} (h : c ≠ d) (q : State) : (channelFrame q d).chan c = q.chan c := by
  have hfound : Shows q c (foundView q c) q := ⟨rfl, rfl, rfl, rfl, rfl, rfl, onlyEnding_none⟩
  exact (hfound.channelFrame_ne h).chan

theorem channelFrames_quiet {l : List Chan} (hl : l.Nodup) {q : State} (h : ∀ c ∈ l, NotDue (q.chan c)) :
    SameNotices (l.foldl channelFrame q) q := by
  induction l generalizing q with
  | nil => exact .refl q
  | cons d l ih =>
    obtain ⟨hd, hl⟩ := List.nodup_cons.mp hl
    refine (ih hl fun c hc => ?_).trans (channelFrame_quiet (h d List.mem_cons_self))
    have hne : c ≠ d := fun heq => hd (heq ▸ hc)
    rw [channelFrame_others hne]
    exact h c (List.mem_cons_of_mem d hc)

/-- R146: LTC offers nothing where no step completes. -/
theorem lightsFrame_quiet (h : ∀ c, NotDue (q.chan c)) : SameNotices (lightsFrame q) q := by
  have hchans : allChans.Nodup := by decide
  have hphase (f : Ltc → Ltc) : SameNotices (q.modLtc f) q := .of_eq rfl rfl
  refine (channelFrames_quiet hchans fun c _ => ?_).trans (hphase _)
  exact h c

/-! ## The LINE notices (09 R168) -/

/-- R168: the notices that the general inputs' changes offer, with the levels of `lines`. -/
def changesOffered (s : State) (pins : PinLevels) (lines : Vector Line 4) (q : State) : State :=
  allLines.foldl (fun q i => if Accepts s pins i = true ∧ (s.lmx.lines[i]).fn = .generalInput then
    offer (.line (Vector.ofFn fun k => decide (k = i)) (Vector.ofFn fun k => (lines[k]).accepted)) q else q) q

theorem generalChange_offered {lines : Vector Line 4} {r : State} (hlines : q.lmx.lines = lines) (hsame : SameNotices q r)
    (i : Fin 4) : SameNotices (generalChange i q)
      (offer (.line (Vector.ofFn fun k => decide (k = i)) (Vector.ofFn fun k => (lines[k]).accepted)) r) := by
  subst hlines
  have hflagged : SameNotices (q.modLmx fun m => { m with changed := m.changed.set i true }) r := hsame
  exact hflagged.offer _

theorem handOut_offered (s : State) (pins : PinLevels) {lines : Vector Line 4} {r : State}
    (hlines : q.lmx.lines = lines) (hsame : SameNotices q r) :
    SameNotices (handOut s pins .generalInput q) (changesOffered s pins lines r) := by
  have hfold (l : List (Fin 4)) (q r : State) (hlines : q.lmx.lines = lines) (hsame : SameNotices q r) : SameNotices
      (l.foldl (fun q i => if (s.lmx.lines[i]).fn = .generalInput ∧ (s.lmx.lines[i]).accepts (pinLevel pins i) then
        handChange .generalInput (pinLevel pins i) i q else q) q)
      (l.foldl (fun q i => if Accepts s pins i = true ∧ (s.lmx.lines[i]).fn = .generalInput then
        offer (.line (Vector.ofFn fun k => decide (k = i)) (Vector.ofFn fun k => (lines[k]).accepted)) q else q) r) := by
    induction l generalizing q r with
    | nil => exact hsame
    | cons i l ih =>
      rw [List.foldl_cons, List.foldl_cons]
      by_cases h : (s.lmx.lines[i]).fn = .generalInput ∧ (s.lmx.lines[i]).accepts (pinLevel pins i) = true
      · rw [if_pos h, if_pos (show Accepts s pins i = true ∧ _ from ⟨h.2, h.1⟩)]
        exact ih _ _ ((handChange_lines .generalInput _ i q).trans hlines) (generalChange_offered hlines hsame i)
      · rw [if_neg h, if_neg (show ¬ (Accepts s pins i = true ∧ _) from fun hc => h ⟨hc.2, hc.1⟩)]
        exact ih _ _ hlines hsame
  exact hfold allLines q r hlines hsame

/-- How far a light frame has come in which no step of `s` completes: whether the lights have run, whether the lines
have, and the notices that the lines have offered. -/
structure Noticed (s : State) (pins : PinLevels) (lights lines : Bool) (q : State) : Prop where
  idles : Idles s q
  ltc : lights = false → q.ltc = s.ltc
  lmx : lines = false → q.lmx = s.lmx
  notices : SameNotices q (if lines = true then changesOffered s pins (sampledLines s pins) s else s)

theorem Noticed.lightsFrame {pins : PinLevels} (hquiet : ∀ c, NotDue (s.chan c)) {lines : Bool}
    (h : Noticed s pins false lines q) : Noticed s pins true lines (lightsFrame q) where
  idles := h.idles.lightsFrame
  ltc := nofun
  lmx := fun hl => (lightsFrame_frame q).2.2.2.2.2.2.1.trans (h.lmx hl)
  notices := by
    have hnotdue (c : Chan) : NotDue (q.chan c) := by
      rw [State.chan, h.ltc rfl]
      exact hquiet c
    exact (lightsFrame_quiet hnotdue).trans h.notices

/-- The state while LMX hands out the changes: whether those of the general inputs are among them. -/
structure Handing (s : State) (pins : PinLevels) (ltc : Ltc) (offered : Bool) (q : State) : Prop where
  idles : Idles s q
  ltc : q.ltc = ltc
  lines : q.lmx.lines = sampledLines s pins
  notices : SameNotices q (if offered = true then changesOffered s pins (sampledLines s pins) s else s)

section
variable {pins : PinLevels} {ltc : Ltc} {offered : Bool}

theorem Handing.drum (h : Handing s pins ltc offered q) : Handing s pins ltc offered (handOut s pins .drumPulse q) :=
  handOut_preserves s pins (fun level _ r hr => by
    cases level with
    | low =>
      rw [handChange, hr.idles.drumPulse]
      exact ⟨hr.idles.moved _, hr.ltc, hr.lines, hr.notices⟩
    | high => exact hr) h

theorem Handing.fairlead (h : Handing s pins ltc offered q) : Handing s pins ltc offered (handOut s pins .fairlead q) :=
  (h.idles.fairlead s pins).symm ▸ h

/-- R168: the general inputs' changes offer their notices. -/
theorem Handing.general (h : Handing s pins ltc false q) : Handing s pins ltc true (handOut s pins .generalInput q) where
  idles := h.idles.general s pins
  ltc := handOut_preserves (P := fun r => r.ltc = ltc) (fn := .generalInput) s pins (fun _ i r hr =>
    (generalChange_frame i r).2.2.2.2.2.2.1.trans hr) h.ltc
  lines := (handOut_lines ..).trans h.lines
  notices := handOut_offered s pins h.lines h.notices

end

theorem Noticed.linesFrame {pins : PinLevels} {lights : Bool} (h : Noticed s pins lights false q) (changes : Order3) :
    Noticed s pins lights true (linesFrame changes pins q) := by
  have hlmx := h.lmx rfl
  have hsampled : Handing s pins q.ltc false (sampleLines pins q) :=
    ⟨h.idles.modLmx _, rfl, congrArg Lmx.lines (sampleLines_lmx hlmx pins), h.notices⟩
  have hhanded : Handing s pins q.ltc true (Machine.linesFrame changes pins q) := by
    rw [Machine.linesFrame, handOut_congr hlmx, handOut_congr hlmx, handOut_congr hlmx]
    exact runOrder_reaches_last (P := Handing s pins q.ltc false) (Q := Handing s pins q.ltc true) (fun _ hr => hr.general)
      (fun _ hr => hr.drum) (fun _ hr => hr.drum) (fun _ hr => hr.fairlead) (fun _ hr => hr.fairlead) changes _ hsampled
  exact ⟨hhanded.idles, fun hl => hhanded.ltc.trans (h.ltc hl), nofun, hhanded.notices⟩

/-- R168: the notices of a light frame with the winch idle in which no step completes. -/
theorem notices_lightFrame {pins : PinLevels} (hquiet : ∀ c, NotDue (s.chan c)) (h : Noticed s pins false false q)
    (blocks changes : Order3) :
    SameNotices (lightFrame blocks changes pins q) (changesOffered s pins (sampledLines s pins) s) :=
  (runOrder_marks (R := Noticed s pins) (fun _ _ hq => hq.lightsFrame hquiet)
    (fun _ _ _ hq => hq.idles.winchFrame.symm ▸ hq) (fun _ _ hq => hq.linesFrame changes) blocks q h).notices

theorem notices_lightFrameExpiry (hstate : s.wch.state = .idle) (hstep : s.wch.step = none)
    (hquiet : ∀ c, NotDue (s.chan c)) (pins : PinLevels) :
    SameNotices (lightFrameExpiry pins s) (changesOffered s pins (sampledLines s pins) s) :=
  notices_lightFrame (s := s) (q := s.nextChoice.nextChoice) hquiet ⟨idles_nextChoice hstate hstep, fun _ => rfl, fun _ => rfl, rfl, fun _ => rfl⟩ _ _

end

end Sys2Proof.Machine

/-! A light frame (08 R146), assembled from its channels, its lines and the idle winch. -/

namespace Sys2Proof.Machine

/-- R167, in the words of the obligation: an input line accepts a change. -/
theorem accepts_eq (s : State) (pins : PinLevels) (i : Fin 4) :
    ((decide ((s.lmx.lines[i]).fn = .generalInput) || decide ((s.lmx.lines[i]).fn = .drumPulse) ||
      decide ((s.lmx.lines[i]).fn = .fairlead)) && decide ((s.lmx.lines[i]).sample = some (pinLevel pins i)) &&
      decide (pinLevel pins i ≠ (s.lmx.lines[i]).accepted)) = Accepts s pins i := by
  rw [← sampled_eq]
  rfl

/-- Settles O50: the channels, the lines and the idle winch after a light frame, whatever the order of the blocks. -/
theorem lightFrameRuns : Obligations.LightFrameRuns := by
  intro pins s hcalm completes input changed
  have hchanged : changed = Accepts s pins := funext fun i => accepts_eq s pins i
  have hinput (i : Fin 4) : input i = (s.lmx.lines[i]).fn.sampled := (sampled_eq _).symm
  have hshows := shows_lightFrameExpiry pins hcalm
  have hlines := linesRan_lightFrameExpiry pins s
  have hidles (hstate : s.wch.state = .idle) (hstep : s.wch.step = none) := idles_lightFrameExpiry hstate hstep pins
  have hposition (p : Nat) (hstate : s.wch.state = .idle) (hstep : s.wch.step = none) :=
    position_lightFrameExpiry hstate hstep (pins := pins) (p := p)
  have hnotices (hstate : s.wch.state = .idle) (hstep : s.wch.step = none) (hquiet : ∀ c, NotDue (s.chan c)) :=
    notices_lightFrameExpiry hstate hstep hquiet pins
  obtain ⟨hsup, hlnk, hcfg, hpending, hstore⟩ := lightFrameExpiry_frame pins s
  refine ⟨_, rfl, ?_⟩
  generalize lightFrameExpiry pins s = t at *
  refine ⟨?_, fun c => ?_, fun i => ?_, fun hstate hstep => ?_, hsup, hlnk, hcfg, hstore, hpending⟩
  · exact (hshows 0).hazard.trans (ranView_hazard s 0)
  · obtain ⟨hmanual, hoverlay, hformed, happlied⟩ := (hshows c).ran
    refine ⟨hmanual, ?_, hformed, happlied, (hshows c).ran_manual, fun i hsource hstep hmore => ?_, fun i hdue => ?_⟩
    · refine hoverlay.trans ?_
      show (s.chan c).overlay.advanced = _
      cases (s.chan c).overlay <;> rfl
    · exact (hshows c).ran_counts hsource hstep hmore
    · intro x next counter hleads
      obtain ⟨hsource, hstep, hmet⟩ := hdue
      refine ⟨fun hnext => ?_, fun slot r hnext hr => ?_⟩
      · subst hnext
        exact (hshows c).ran_ends hsource hstep hmet hleads
      · subst hnext
        exact (hshows c).ran_goes hsource hstep hmet hleads hr
  · have hline : t.lmx.lines[i] = (s.lmx.lines[i]).take (pinLevel pins i) := by
      rw [hlines.lines, sampledLines_get]
    rw [hline, hinput, hchanged, hlines.changed]
    refine ⟨Line.take_fn _ _, fun hin => take_still hin _, fun hin => take_sampled hin _, rfl⟩
  · have h := hidles hstate hstep
    refine ⟨h.vsc, h.trc, h.stc, h.scn, h.unit, h.wch, fun hok => ⟨fun i hpulsed => ?_, fun hnone => ?_⟩, fun hnever => ?_⟩
    · rw [hchanged] at hpulsed
      refine hposition _ hstate hstep fun r hr => ?_
      rw [handOut_pulsed (s := s) hok hpulsed, hr.1.drumPulse]
      exact congrArg (fun p => min (p + s.cfg.wch.linePerPulse) (s.cfg.wch.lineMax * 10)) hr.2
    · rw [hchanged] at hnone
      refine hposition _ hstate hstep fun r hr => ?_
      rw [handOut_unpulsed (s := s) hnone]
      exact hr.2
    · rw [hchanged, hlines.lines]
      exact hnotices hstate hstep fun c i hsource hstep => Nat.lt_of_not_le fun hmet => hnever c i ⟨hsource, hstep, hmet⟩

end Sys2Proof.Machine
